-- ==== Sys2Proof/Word.lean ====
section
/-! DEFINITION. The byte, and the plainest integer arithmetic the manual names (00_scope.md, Conventions: every
rounding of a division is named). -/

namespace Sys2Proof

/-- One byte of a frame (12 section 12.1). -/
abbrev Byte := BitVec 8

/-- `ceil(n / d)` on naturals. -/
def ceilDiv (n d : Nat) : Nat := (n + d - 1) / d

/-- `trunc(n / d)`: the exact quotient truncated toward zero. -/
def truncDiv (n d : Int) : Int := Int.tdiv n d

/-- `|z|` as a natural. -/
def mag (z : Int) : Nat := z.natAbs

/-- Angle arithmetic is modulo 4096 (00_scope.md): the counts passed turning forward from `a` to `b`. -/
def forwardCounts (a b : Nat) : Nat := (b + 4096 - a % 4096) % 4096

end Sys2Proof
end

