-- ==== Sys2Proof/Syntax.lean ====
section
/-! DEFINITION. The commands of the block: one constructor of `Instr` for each row of spec/opcode_table.json, with
the row's operands. A request carries its TAG and the fields of its payload (12 section 12.1); an event carries the
pin levels, the byte, the bar, the axis or the timebase reading it is about. -/

namespace Sys2Proof

/-- The two axes (00_scope.md: X shifts the frame, Y feeds the ticking). -/
inductive Axis where
  | x
  | y
deriving DecidableEq, Repr

/-- The three needle bars. -/
inductive Bar where
  | b0
  | b1
  | b2
deriving DecidableEq, Repr

/-- The 19-byte panel order record of ORDER_ADD (12 section 12.2), field by field as sent. -/
structure OrderFields where
  orderId    : BitVec 16
  slot       : BitVec 8
  repeats    : BitVec 8
  stitchLen  : BitVec 8
  tack       : BitVec 8
  speedLimit : BitVec 16
  xOffset    : BitVec 16
  leadIn     : BitVec 16
  leadOut    : BitVec 16
  gap        : BitVec 16
  onMark     : BitVec 8
  cut        : BitVec 8
  barMask    : BitVec 8
deriving DecidableEq, Repr

/-- The commands. -/
inductive Instr where
  /-- GET_INFO (R188). -/
  | getInfo (tag : Byte)
  /-- SET_PARAMS (R181): identifier and s32 value of each pair. -/
  | setParams (tag : Byte) (pairs : List (BitVec 8 × BitVec 32))
  /-- GET_PARAMS (R183). -/
  | getParams (tag : Byte) (ids : List (BitVec 8))
  /-- SET_TIMING (R79). -/
  | setTiming (tag : Byte) (windowOpen windowClose stopAngle : BitVec 16)
  /-- REPHASE (R81). -/
  | rephase (tag : Byte) (angle : BitVec 16)
  /-- PATTERN_BEGIN (R6). -/
  | patternBegin (tag slot areaCount : Byte) (startX pitch : BitVec 16) (initialBars : Byte)
  /-- PATTERN_ADD (R8): each record is its eight bytes, the byte at offset k in bits 8k+7..8k. -/
  | patternAdd (tag slot : Byte) (records : List (BitVec 64))
  /-- PATTERN_END (R10). -/
  | patternEnd (tag slot : Byte)
  /-- PATTERN_ERASE (R14). -/
  | patternErase (tag slot : Byte)
  /-- PATTERN_INFO (R15). -/
  | patternInfo (tag slot : Byte)
  /-- ORDER_ADD (R21). -/
  | orderAdd (tag : Byte) (order : OrderFields)
  /-- ORDER_CANCEL (R26). -/
  | orderCancel (tag : Byte) (orderId : BitVec 16)
  /-- SCHEDULE_LIST (R35). -/
  | scheduleList (tag : Byte)
  /-- MODE with mode RUN (R147). -/
  | modeRun (tag : Byte)
  /-- MODE with mode HOLD and its hold kind byte (R152). -/
  | modeHold (tag kind : Byte)
  /-- MODE with mode IDLE (R155). -/
  | modeIdle (tag : Byte)
  /-- MODE with mode THREAD (R155). -/
  | modeThread (tag : Byte)
  /-- ABORT_PANEL (R165). -/
  | abortPanel (tag : Byte)
  /-- HOME_X (R118). -/
  | homeX (tag : Byte)
  /-- FORCE_BAR (R129): bar and direction bytes as sent. -/
  | forceBar (tag bar direction : Byte)
  /-- CLEAR_FAULTS (R160). -/
  | clearFaults (tag : Byte)
  /-- STATUS (R184). -/
  | status (tag : Byte)
  /-- NEEDLES (R143). -/
  | needles (tag : Byte)
  /-- HISTORY (R184). -/
  | history (tag first : Byte)
  /-- AUDIT_START (R168). -/
  | auditStart (tag : Byte)
  /-- AUDIT_STOP (R168). -/
  | auditStop (tag : Byte)
  /-- AUDIT_RESULT (R174). -/
  | auditResult (tag : Byte)
  /-- RESET (R187). -/
  | reset (tag : Byte)
  /-- RESET_TAKES_EFFECT (R187), with the BAUD strap level read at the end of the reset (R188). -/
  | resetTakesEffect (strap : Bool)
  /-- RESETN asserted (R187). -/
  | resetn
  /-- FRAME_RECEIVED (R178): a completed frame with a good CRC. -/
  | frameReceived (kind tag : Byte) (payload : List Byte)
  /-- INTER_BYTE_GAP (R177). -/
  | interByteGap
  /-- FRAMING_ERROR_OR_BREAK (R177). -/
  | framingErrorOrBreak
  /-- FRAME_TRANSMITTED (R186). -/
  | frameTransmitted
  /-- ENCODER_COUNT (R65): the levels of SHA and SHB after the edge. -/
  | encoderCount (sha shb : Bool)
  /-- INDEX_PULSE (R68): the reading of the 1 MHz timebase at the rising edge of SHI. -/
  | indexPulse (now : Nat)
  /-- STOPPED (R73): the 50 ms stopped timer expires. -/
  | stopped
  /-- DEMAND_PWM_PERIOD (R84). -/
  | demandPwmPeriod
  /-- STEP_PULSE_DUE (R107): the interval timer of this axis expires. -/
  | stepPulseDue (axis : Axis)
  /-- FEED_BEGIN (R113). -/
  | feedBegin
  /-- MARK_EDGE (R115): a rising edge on MARK. -/
  | markEdge
  /-- CUT_TIME_EXPIRY (R116). -/
  | cutTimeExpiry
  /-- HOME_PULSE_DUE (R119). -/
  | homePulseDue
  /-- XHOME_ASSERTED (R119): XHOME changes to this level (true: asserted). -/
  | xhomeAsserted (level : Bool)
  /-- BAR_CHANGE_BEGIN (R127). -/
  | barChangeBegin
  /-- DEAD_TIME_EXPIRY (R124). -/
  | deadTimeExpiry (bar : Bar)
  /-- BAR_TIMEOUT (R126). -/
  | barTimeout (bar : Bar)
  /-- BAR_INPUT_CHANGE (R125): the levels of this bar's BUP and BDN after the change. -/
  | barInputChange (bar : Bar) (bup bdn : Bool)
  /-- ESTOP_ASSERTED (R130). -/
  | estopAsserted
  /-- ESTOP_RELEASED (R158). -/
  | estopReleased
  /-- DRVFLT_ASSERTED (R158). -/
  | drvfltAsserted
  /-- DRVFLT_RELEASED (R158). -/
  | drvfltReleased
  /-- START_INPUT (R156): a rising edge. -/
  | startInput
  /-- HOLD_INPUT (R156): a rising edge. -/
  | holdInput
  /-- JOG_PRESSED (R155). -/
  | jogPressed
  /-- JOG_RELEASED (R91). -/
  | jogReleased
  /-- SCAN_TIMER_EXPIRY (R133). -/
  | scanTimerExpiry
  /-- SCAN_COMPLETE (R133 step 4, R134): the bits sampled on TSDIN, the first 96 from bit 0 of `first` up, the rest from bit 0
  of `rest` up. A scan of n stages receives n + 8, at most 104. -/
  | scanComplete (first : BitVec 96) (rest : BitVec 8)
  /-- FEED_ROLLER_EDGE (R171): the levels of FRA and FRB after the edge. -/
  | feedRollerEdge (fra frb : Bool)
  /-- MEASURING_WHEEL_EDGE (R171): the levels of MWA and MWB after the edge. -/
  | measuringWheelEdge (mwa mwb : Bool)
  /-- BYTE_RECEIVED (R177). -/
  | byteReceived (byte : Byte)
  /-- RESETN_RELEASED (R187), with the BAUD strap level read at the end of the reset (R188). -/
  | resetnReleased (strap : Bool)
deriving DecidableEq, Repr

end Sys2Proof
end

