-- ==== Sys2Proof/Decode.lean ====
section
/-! DEFINITION. The words of the opcode table. spec/opcode_table.json gives no row any bits ("fields" is empty in
every row and no row has "fixed"), so no word spells a command. Frames, which do carry commands as bytes, are read by
Machine/Link.lean. -/

namespace Sys2Proof

/-- The command that a word spells by the table's bits: none of the table's rows has bits. -/
def decodeTableWord (_nbits _w : Nat) : Option Instr := none

end Sys2Proof
end

