-- ==== Sys2Proof/Config.lean ====
section
/-! DEFINITION. What the part fixes once, and the FREE VALUES: constants with no body, so that nothing can be proved of
the value and a statement holds whatever it is (log 9, 10, 11). -/

namespace Sys2Proof

/-- The measured speed after a period of 0 µs: R72 states `floor(60,000,000 / period)` and no result for a zero period
(log 9). Applied to the draw counter of the state. -/
opaque Config.freeSpeed : Nat → Nat

/-- The period R107 uses when none is measured and the applied demand is 0: `floor(60,000,000 / 0)` is not stated
(log 10). Applied to the draw counter of the state. -/
opaque Config.freePeriod : Nat → Nat

/-- A choice between two orders of delivery that the spec leaves open (log 11). Applied to the draw counter of the
state. -/
opaque Config.freeChoice : Nat → Bool

/-- GET_INFO's part code (R188). -/
def Config.partCode : Nat := 640
/-- GET_INFO's silicon revision (R188). -/
def Config.siliconRevision : Nat := 1
/-- Segment areas (R1). -/
def Config.areas : Nat := 16
/-- Records of an area (R1). -/
def Config.areaRecords : Nat := 256
/-- Pattern slots (R3). -/
def Config.slotCount : Nat := 16
/-- Schedule capacity (R25). -/
def Config.scheduleCapacity : Nat := 8
/-- Plan Queue capacity (R37). -/
def Config.queueCapacity : Nat := 8
/-- Stitch History capacity (R161). -/
def Config.historyCapacity : Nat := 32
/-- Needles (00_scope.md). -/
def Config.needleCount : Nat := 96
/-- Notice Queue capacity (R185). -/
def Config.noticeCapacity : Nat := 9
/-- Largest payload (R176). -/
def Config.largestPayload : Nat := 240

end Sys2Proof
end

