-- ==== Sys2Proof/Machine/State.lean ====
section
/-! DEFINITION. The state of the part: every block's state as plain data, the pins, the parameters, the queue of
waiting commands, and the state after reset. Each structure cites the rule that names its fields. -/

namespace Sys2Proof.Machine

/-! ## Bar sets, references and stitches -/

/-- A set of bars (00_scope.md, Sets of bars). -/
structure BarSet where
  b0 : Bool
  b1 : Bool
  b2 : Bool
deriving DecidableEq, Repr

/-- The stitch reference (00_scope.md; R43). -/
structure Ref where
  orderId : Nat
  repeatNo : Nat
  segment : Nat
  stitch : Nat
deriving DecidableEq, Repr

/-- What a STITCH or TACK record carries into execution and into the Stitch History (R38, R161). -/
structure Stitch where
  stepX : Int
  stepY : Int
  bars : BarSet
  ceiling : Nat
  ref : Ref
deriving DecidableEq, Repr

/-! ## Pattern Store (chapter 1) -/

/-- A segment record (R5). -/
inductive Segment where
  | stitch (dx dy : Int) (len : Nat)
  | jump (dx dy : Int)
  | bars (set : BarSet)
  | speed (cap : Nat)
  | tack (n : Nat)
deriving DecidableEq, Repr

/-- The state of a pattern slot (R3). -/
inductive SlotState where
  | empty
  | loading
  | ready
deriving DecidableEq, Repr

/-- The fields a successful PATTERN_END computes (R3, R12). -/
structure AtClose where
  xMin : Int
  xMax : Int
  yMax : Int
  endDx : Int
  endDy : Int
  continuous : Bool
deriving DecidableEq, Repr

/-- A pattern slot's record (R3); its number is its place in the list of slots. -/
structure Slot where
  state : SlotState
  firstArea : Nat
  areaCount : Nat
  segmentCount : Nat
  startX : Nat
  pitch : Nat
  initialBars : BarSet
  atClose : AtClose
  useCount : Nat
deriving DecidableEq, Repr

/-- Segment memory (R1): (address, segment) pairs, address = area × 256 + place, addresses strictly rising. A place
that is not listed holds no segment. -/
abbrev SegMem := List (Nat × Segment)

/-- The Pattern Store. -/
structure Store where
  slots : List Slot
  segMem : SegMem
deriving DecidableEq, Repr

/-! ## Panel Schedule (chapter 2) -/

/-- The fields of an order taken from its ORDER_ADD (R20), with speed_limit as clamped. -/
structure OrderSpec where
  orderId : Nat
  slot : Nat
  repeats : Nat
  stitchLen : Nat
  tack : Nat
  speedLimit : Nat
  xOffset : Int
  leadIn : Nat
  leadOut : Nat
  gap : Nat
  onMark : Bool
  cut : Bool
  barMask : BarSet
deriving DecidableEq, Repr

/-- The state of an order in the schedule (R20, R28). -/
inductive OrderState where
  | queued
  | active
deriving DecidableEq, Repr

/-- The phase of the ACTIVE order (R29). -/
inductive Phase where
  | markSearch
  | leadIn
  | stitching
  | leadOut
  | gap
deriving DecidableEq, Repr

/-- A panel order record (R20). -/
structure Order where
  spec : OrderSpec
  state : OrderState
  phase : Phase
  currentRepeat : Nat
  stitchesExecuted : Nat
  started : Bool
deriving DecidableEq, Repr

/-- The Panel Schedule: orders in arrival order, and the armed flag of QUEUE_LOW (R34). -/
structure Schedule where
  orders : List Order
  armed : Bool
deriving DecidableEq, Repr

/-! ## Stitch Planner (chapter 3) -/

/-- The kind of a FEED record (R38); a LEAD_IN carries target_x, from which its X step is bound (R48). -/
inductive FeedKind where
  | markSearch
  | leadIn (targetX : Int)
  | jump
  | join
  | leadOut
  | gap
deriving DecidableEq, Repr

/-- A plan record (R38): a field not listed for a kind is absent from it. -/
inductive PlanRecord where
  | stitch (st : Stitch) (last : Bool)
  | tack (st : Stitch) (last : Bool)
  | feed (kind : FeedKind) (stepX stepY : Int) (ref : Ref)
  | barChange (bars : BarSet) (ref : Ref)
  | endMark (ref : Ref)
deriving DecidableEq, Repr

/-- The part of the expansion being planned (R42). -/
inductive Stage where
  | opening
  | repeating
  | between
  | closing
  | finished
deriving DecidableEq, Repr

/-- The planner cursor (R42). -/
structure Cursor where
  order : OrderSpec
  atClose : AtClose
  stage : Stage
  repeatNo : Nat
  segment : Nat
  place : Nat
  nStitch : Nat
  cap : Nat
  bars : BarSet
deriving DecidableEq, Repr

/-- The Stitch Planner: the Plan Queue (head first), the cursor, and whether the head record has begun (R39). -/
structure Planner where
  queue : List PlanRecord
  cursor : Option Cursor
  headBegun : Bool
deriving DecidableEq, Repr

/-! ## Shaft Timing Unit (chapter 4) -/

/-- The direction of an encoder count (R65). -/
inductive Direction where
  | forward
  | reverse
deriving DecidableEq, Repr

/-- A timing set (section 4.4). -/
structure TimingSet where
  windowOpen : Nat
  windowClose : Nat
  stopAngle : Nat
deriving DecidableEq, Repr

/-- The window state (R74). -/
structure Window where
  inProgress : Bool
  openAt : Nat
  closeAt : Nat
  stopAt : Nat
  stopGiven : Bool
deriving DecidableEq, Repr

/-- The Shaft Timing Unit (R83). The 50 ms stopped timer runs while `stopped` is false. -/
structure Shaft where
  position : Int
  phaseOffset : Nat
  angleValid : Bool
  stopped : Bool
  lastCount : Option Direction
  period : Option Nat
  speed : Nat
  revStart : Option Nat
  clean : Bool
  reverseRun : Nat
  active : TimingSet
  pendingSet : Option TimingSet
  window : Window
deriving DecidableEq, Repr

/-! ## Speed Governor (chapter 5) -/

/-- The governor state (R85). -/
inductive GovState where
  | halted
  | ramping
  | locked
  | parking
deriving DecidableEq, Repr

/-- The governor purpose (R86); none while HALTED. -/
inductive Purpose where
  | stitching
  | replay
  | jog
  | park
deriving DecidableEq, Repr

/-- The Speed Governor (R101). `released`: RUNEN on and BRAKE off; the two outputs are always opposite (R84).
`settled` counts the in-tolerance revolutions judged at the applied demand now in force, and `armCount` those that count
toward the arming of the park attempt in hand (R95; log 13).
`pwmDuty` is the duty of the DEMAND period now running. -/
structure Gov where
  state : GovState
  purpose : Option Purpose
  released : Bool
  demand : Nat
  applied : Nat
  pwmDuty : Nat
  inTol : Nat
  outTol : Nat
  settled : Nat
  armCount : Nat
  attempts : Nat
  armed : Bool
  braked : Bool
  replayCeilings : List Nat
deriving DecidableEq, Repr

/-! ## Motion Output (chapter 6) -/

/-- One axis of a burst or a feed move: pulses left, direction, the interval its pulses are spaced by, and whether a
pulse that fell due is being held back outside the window (R102, R105). -/
structure AxisMove where
  left : Nat
  positive : Bool
  interval : Nat
  waiting : Bool
deriving DecidableEq, Repr

/-- Where a burst came from (R102). -/
inductive BurstSource where
  | head
  | replay
deriving DecidableEq, Repr

/-- The burst in hand (R102): EMITTING, or FROZEN when `frozen`. -/
structure Burst where
  frozen : Bool
  source : BurstSource
  stitch : Stitch
  last : Bool
  x : AxisMove
  y : AxisMove
deriving DecidableEq, Repr

/-- The state of the feed move in hand (R102). -/
inductive FeedState where
  | moving
  | cutting
  | frozen
  | searchEnded
deriving DecidableEq, Repr

/-- Which half of a cut gap is being fed (R102). -/
inductive FeedPart where
  | first
  | second
deriving DecidableEq, Repr

/-- A feed move carries out the head record or the back move of overlap recovery (R113, R117). -/
inductive FeedSource where
  | record
  | backMove
deriving DecidableEq, Repr

/-- The feed move in hand (R102). `freezeAfterCut`: a freeze found it CUTTING (R111). `reentered`: FEEDING has been
entered since its search ended (R113). -/
structure Feed where
  state : FeedState
  source : FeedSource
  part : FeedPart
  cutDone : Bool
  x : AxisMove
  y : AxisMove
  freezeAfterCut : Bool
  reentered : Bool
deriving DecidableEq, Repr

/-- X homing in progress (R119): pulses emitted, the interval in force, and whether a pulse is held back (R105). -/
structure Homing where
  travel : Nat
  interval : Nat
  waiting : Bool
deriving DecidableEq, Repr

/-- The Motion Output (R102, R121). CUT is high while the cut timer runs (R116), for the length it was started with.
`asideFeed` is the FROZEN feed move of the head record while it waits behind the back move and the replay (R111, R117): R102
has one feed move in hand, and that is the back move then (log 19). -/
structure Motion where
  x : Int
  xKnown : Bool
  ex : Int
  panelY : Int
  ey : Int
  burst : Option Burst
  feed : Option Feed
  asideFeed : Option Feed
  backMove : Option (Int × Int)
  homing : Option Homing
  cutTimer : Option Nat
  xdir : Bool
  ydir : Bool
  axen : Bool
deriving DecidableEq, Repr

/-! ## Needle Bar Unit (chapter 7) -/

/-- The state of a bar (R122). -/
inductive BarState where
  | up
  | down
  | lowering
  | raising
  | unknown
deriving DecidableEq, Repr

/-- A bar's timer (R124): idle, the dead time (ms) or the bar timeout (ms). -/
inductive BarTimer where
  | idle
  | deadTime (ms : Nat)
  | confirm (ms : Nat)
deriving DecidableEq, Repr

/-- One needle bar (R122): state, lower valve VLO, raise valve VRA, released (R123), timed_out, timer. -/
structure BarRec where
  state : BarState
  vlo : Bool
  vra : Bool
  released : Bool
  timedOut : Bool
  timer : BarTimer
deriving DecidableEq, Repr

/-- The kind of a change in hand (R132). -/
inductive ChangeKind where
  | record
  | restore
  | force (bar : Bar)
deriving DecidableEq, Repr

/-- The change in hand: its kind, its target set, and whether it waits for the shaft to stop (R124, R132). -/
structure Change where
  kind : ChangeKind
  target : BarSet
  waiting : Bool
deriving DecidableEq, Repr

/-- The Needle Bar Unit. -/
structure Bars where
  b0 : BarRec
  b1 : BarRec
  b2 : BarRec
  change : Option Change
deriving DecidableEq, Repr

/-! ## Thread Monitor (chapter 8) -/

/-- A needle's record (R136): grace_left is carried in GRACE only, miss in ARMED and BROKEN, break_ref in BROKEN. -/
inductive NeedleState where
  | unused
  | idle
  | grace (left : Nat)
  | armed (miss : Nat)
  | broken (miss : Nat) (breakRef : Ref)
deriving DecidableEq, Repr

/-- The source of a pending or formed stitch (R139). -/
inductive StitchSource where
  | plan
  | replay
deriving DecidableEq, Repr

/-- A pending or formed stitch (R139). -/
structure FormedStitch where
  ref : Ref
  source : StitchSource
deriving DecidableEq, Repr

/-- A good image: its length n and the set of needles that read high (R134, R135). -/
structure Image where
  n : Nat
  high : BitVec 96
deriving DecidableEq, Repr

/-- The Thread Monitor (R144). `scanTimer`: the length the scan timer was started with; `scanning`: the length n of
the scan in progress. The levels of TSLOAD, TSCLK and TSDOUT follow from it (Monitor.outputs). -/
structure Monitor where
  scanTimer : Option Nat
  scanning : Option Nat
  image : Option Image
  chainFault : Bool
  scanFault : Bool
  pendingStitch : Option FormedStitch
  formedStitch : Option FormedStitch
  suppress : Nat
  seen : BitVec 96
  needles : List NeedleState
deriving DecidableEq, Repr

/-! ## Line Controller (chapter 9) -/

/-- The requested mode (R145). -/
inductive ReqMode where
  | idle
  | thread
  | run
  | hold
deriving DecidableEq, Repr

/-- The effective mode (R146). -/
inductive Mode where
  | idle
  | threading
  | running
  | stopping
  | feeding
  | holding
  | faulted
deriving DecidableEq, Repr

/-- The stop purpose (R145). -/
inductive StopPurpose where
  | feed
  | endOfPanel
  | hold
  | fault
deriving DecidableEq, Repr

/-- The hold kind (R152). -/
inductive HoldKind where
  | atOnce
  | atStitch
  | atSegment
deriving DecidableEq, Repr

/-- The stop kind (R145). -/
inductive StopKind where
  | atOnce
  | atStitch
  | atSegment
  | park
deriving DecidableEq, Repr

/-- The hold origin (R145). -/
inductive HoldOrigin where
  | running
  | feeding
  | stopFeed
  | stopEnd
deriving DecidableEq, Repr

/-- The resume step (R145, R148). -/
inductive ResumeStep where
  | none
  | park
  | frozen
  | backMove
  | replay
  | restore
  | head
deriving DecidableEq, Repr

/-- The reason of a MODE_CHANGED (R146). -/
inductive Reason where
  | request
  | input
  | record
  | stopDone
  | fault
  | cleared
  | scheduleEmpty
deriving DecidableEq, Repr

/-- The fault sources (R158). -/
inductive FaultSource where
  | estop
  | drive
  | encoder
  | overrun
  | park
  | barTimeout
  | markMissing
  | thread
  | sensorChain
  | feedSlip
deriving DecidableEq, Repr

/-- A source's action (R158). -/
inductive FaultAction where
  | atOnce
  | atStitch
  | report
  | inPlace
deriving DecidableEq, Repr

/-- The Fault Record (R157): the latched sources with the action each was latched with, in the order of latching. -/
structure FaultRecord where
  latched : List (FaultSource × FaultAction)
  firstSource : Option FaultSource
  firstRef : Option Ref
deriving DecidableEq, Repr

/-- The Line Controller (R145). `parkHanded`: PARK was handed over since FEEDING was entered (R151). `recoveryCount`:
the number b of history entries of the back move in hand (R163). -/
structure Line where
  requested : ReqMode
  effective : Mode
  stopPurpose : Option StopPurpose
  stopKind : Option StopKind
  holdOrigin : Option HoldOrigin
  resumeStep : ResumeStep
  permission : Bool
  faults : FaultRecord
  history : List Stitch
  overlapPending : Bool
  replay : List Stitch
  parkedCount : Int
  parkHanded : Bool
  recoveryCount : Nat
deriving DecidableEq, Repr

/-! ## Travel Audit (chapter 10) -/

/-- The audit state (R167). -/
inductive AuditState where
  | idle
  | counting
  | done
deriving DecidableEq, Repr

/-- The end cause of an audit (R173). -/
inductive EndCause where
  | cmd
  | roll
  | wheel
  | stop
deriving DecidableEq, Repr

/-- The verdict of an audit (R172). -/
inductive Verdict where
  | pass
  | fail
  | inconclusive
deriving DecidableEq, Repr

/-- An audit result record (R173). -/
structure AuditRecord where
  number : Nat
  cause : EndCause
  cCmd : Nat
  cRoll : Nat
  cWheel : Nat
  revolutions : Nat
  tCmd : Nat
  tRoll : Nat
  tWheel : Nat
  driveSlip : Int
  materialSlip : Int
  driveTol : Nat
  matTol : Nat
  verdict : Verdict
deriving DecidableEq, Repr

/-- The Travel Audit (R167). -/
structure Audit where
  state : AuditState
  cCmd : Nat
  cRoll : Nat
  cWheel : Nat
  revolutions : Nat
  resultNumber : Nat
  last : Option AuditRecord
deriving DecidableEq, Repr

/-! ## Link Port (chapter 11) -/

/-- A frame: KIND, TAG and payload (R176); LEN is the payload's length and the frame check is computed. -/
structure Frame where
  kind : Byte
  tag : Byte
  payload : List Byte
deriving DecidableEq, Repr

/-- Where the frame being sent came from (R186). -/
inductive TxSource where
  | reply
  | busy
  | notice
deriving DecidableEq, Repr

/-- The cause of a reset (R187). -/
inductive ResetCause where
  | pin
  | request
deriving DecidableEq, Repr

/-- The outcome of a panel (R28). -/
inductive PanelOutcome where
  | done
  | aborted
deriving DecidableEq, Repr

/-- The nine kinds of notice with their content (section 11.6, 12.4). -/
inductive Notice where
  | resetDone (cause : ResetCause)
  | modeChanged (mode : Mode) (purpose : Option StopPurpose) (kind : Option StopKind) (requested : ReqMode)
      (reason : Reason)
  | fault (source : FaultSource) (action : FaultAction) (ref : Option Ref) (latched : Nat)
  | panelStarted (orderId slot : Nat) (phase : Phase)
  | panelDone (orderId slot : Nat) (outcome : PanelOutcome) (stitches : Nat)
  | queueLow (q lowWater : Nat)
  | needleBroken (count lowest : Nat) (breakRef : Ref) (total : Nat)
  | auditDone (number : Nat) (cause : EndCause) (verdict : Verdict) (driveSlip materialSlip : Int)
  | homeDone (found : Bool) (travel : Nat)
deriving DecidableEq, Repr

/-- The Link Port (R188). `asm`: none while hunting, else the bytes collected after the start byte; its 5 ms gap timer
runs while it collects (R177). `tx`: the frame being sent. `resetPending`: a RESET was accepted and has not yet taken
effect (R187). `baud`: the baud rate in use. -/
structure Link where
  asm : Option (List Byte)
  replySlot : Option Frame
  busySlot : Option Frame
  tx : Option (TxSource × Frame)
  notices : List Notice
  resetPending : Bool
  baud : Nat
deriving DecidableEq, Repr

/-! ## Parameters and pins -/

/-- The parameters (12 section 12.6). `holdInputKind` is none for NONE. -/
structure Params where
  lineMax : Nat
  creep : Nat
  resumeSpeed : Nat
  decelDepth : Nat
  lockTol : Nat
  kX : Nat
  kY : Nat
  iminX : Nat
  iminY : Nat
  capX : Nat
  capY : Nat
  homeInterval : Nat
  cutTime : Nat
  markLimit : Nat
  deadTime : Nat
  barTimeout : Nat
  grace : Nat
  breakLimit : Nat
  scanPeriod : Nat
  chainBytes : Nat
  mapBar0 : BitVec 32
  mapBar1 : BitVec 32
  mapBar2 : BitVec 32
  overlap : Nat
  lowWater : Nat
  threadAction : FaultAction
  chainAction : FaultAction
  slipAction : FaultAction
  holdInputKind : Option HoldKind
  rollPer100 : Nat
  wheelPer100 : Nat
  driveTol : Nat
  matTol : Nat
  autoAudit : Bool
deriving DecidableEq, Repr

/-- The levels of the input pins (12 section 12.7) that a rule reads as levels. -/
structure Pins where
  sha : Bool
  shb : Bool
  fra : Bool
  frb : Bool
  mwa : Bool
  mwb : Bool
  bup : BarSet
  bdn : BarSet
  xhome : Bool
  estop : Bool
  drvflt : Bool
  jog : Bool
deriving DecidableEq, Repr

/-! ## The whole state -/

/-- The state of the part. `draws` counts the free values drawn so far and `pending` holds the waiting commands, first
in, first out: these two are the model's own fields. -/
structure State where
  pins : Pins
  params : Params
  store : Store
  schedule : Schedule
  planner : Planner
  shaft : Shaft
  gov : Gov
  motion : Motion
  bars : Bars
  monitor : Monitor
  line : Line
  audit : Audit
  link : Link
  resetAsserted : Bool
  draws : Nat
  pending : List Instr
deriving DecidableEq, Repr

/-- Why a step could stop with a fault. The spec names no condition under which the block stops: a fault source stops
the LINE (R157 to R159) and is a next state. So there is no constructor, and no command can fault. -/
inductive Fault where
deriving DecidableEq, Repr

/-- Why a step could be refused. -/
inductive Refusal where
  /-- The command has no meaning in the model yet. Raised by no arm: every row of the table is modelled. Safe. -/
  | notModelled (mnemonic : String)
deriving DecidableEq, Repr

/-! ## After reset -/

/-- The empty bar set. -/
def BarSet.none : BarSet := ⟨false, false, false⟩

/-- The at-close fields before a close: zero, continuous false (R3). -/
def AtClose.zero : AtClose := ⟨0, 0, 0, 0, 0, false⟩

/-- An EMPTY slot: every field zero, continuous false and initial_bars {} (R3). -/
def Slot.empty : Slot := ⟨.empty, 0, 0, 0, 0, 0, BarSet.none, AtClose.zero, 0⟩

/-- The defaults of the parameter table (12 section 12.6). -/
def Params.default : Params :=
  { lineMax := 1200, creep := 60, resumeSpeed := 300, decelDepth := 3, lockTol := 10
    kX := 8, kY := 4, iminX := 84, iminY := 63, capX := 40, capY := 60
    homeInterval := 200, cutTime := 150, markLimit := 3000, deadTime := 20, barTimeout := 400
    grace := 4, breakLimit := 3, scanPeriod := 1000, chainBytes := 12
    mapBar0 := 0, mapBar1 := 0, mapBar2 := 0, overlap := 6, lowWater := 1
    threadAction := .atStitch, chainAction := .atStitch, slipAction := .report
    holdInputKind := some .atStitch, rollPer100 := 300, wheelPer100 := 250
    driveTol := 20, matTol := 15, autoAudit := false }

/-- Every input low. DESIGN CHOICE (log 6): the inputs are the machine's and the spec gives them no reset level. -/
def Pins.low : Pins :=
  { sha := false, shb := false, fra := false, frb := false, mwa := false, mwb := false
    bup := BarSet.none, bdn := BarSet.none, xhome := false, estop := false, drvflt := false, jog := false }

/-- The default timing set (R83). -/
def TimingSet.default : TimingSet := ⟨3328, 768, 0⟩

/-- The Pattern Store after reset (R19). -/
def Store.reset : Store := { slots := List.replicate 16 Slot.empty, segMem := [] }

/-- The Panel Schedule after reset (R36). -/
def Schedule.reset : Schedule := { orders := [], armed := true }

/-- The Stitch Planner after reset (R64). -/
def Planner.reset : Planner := { queue := [], cursor := Option.none, headBegun := false }

/-- The Shaft Timing Unit after reset (R83). The window's own angles and the last count: DESIGN CHOICE (log 7). -/
def Shaft.reset : Shaft :=
  { position := 0, phaseOffset := 0, angleValid := false, stopped := true, lastCount := Option.none
    period := Option.none, speed := 0, revStart := Option.none, clean := false, reverseRun := 0
    active := TimingSet.default, pendingSet := Option.none
    window := ⟨false, 0, 0, 0, false⟩ }

/-- The Speed Governor after reset (R101). -/
def Gov.reset : Gov :=
  { state := .halted, purpose := Option.none, released := false, demand := 0, applied := 0, pwmDuty := 0
    inTol := 0, outTol := 0, settled := 0, armCount := 0, attempts := 0, armed := false, braked := false
    replayCeilings := [] }

/-- The Motion Output after reset (R121). -/
def Motion.reset : Motion :=
  { x := 0, xKnown := false, ex := 0, panelY := 0, ey := 0, burst := Option.none, feed := Option.none
    asideFeed := Option.none, backMove := Option.none, homing := Option.none, cutTimer := Option.none
    xdir := false, ydir := false, axen := true }

/-- A released bar in the state given (R123, R132). -/
def BarRec.released0 (st : BarState) : BarRec := ⟨st, false, false, true, false, .idle⟩

/-- The Needle Bar Unit after reset with no confirmation input asserted: every bar released and UNKNOWN (R123, R132). -/
def Bars.reset : Bars :=
  { b0 := BarRec.released0 .unknown, b1 := BarRec.released0 .unknown, b2 := BarRec.released0 .unknown
    change := Option.none }

/-- The Thread Monitor after reset (R144): the scan timer runs from the end of reset. -/
def Monitor.reset : Monitor :=
  { scanTimer := some 1000, scanning := Option.none, image := Option.none, chainFault := false, scanFault := false
    pendingStitch := Option.none, formedStitch := Option.none, suppress := 0, seen := 0
    needles := List.replicate 96 .unused }

/-- The Line Controller after reset with ESTOP and DRVFLT not asserted (R166). -/
def Line.reset : Line :=
  { requested := .idle, effective := .idle, stopPurpose := Option.none, stopKind := Option.none
    holdOrigin := Option.none, resumeStep := .none, permission := false
    faults := ⟨[], Option.none, Option.none⟩, history := [], overlapPending := false, replay := []
    parkedCount := 0, parkHanded := false, recoveryCount := 0 }

/-- The Travel Audit after reset (R175). -/
def Audit.reset : Audit :=
  { state := .idle, cCmd := 0, cRoll := 0, cWheel := 0, revolutions := 0, resultNumber := 0, last := Option.none }

/-- The Link Port after reset (R188). Cause PIN and a low BAUD strap: DESIGN CHOICE (log 6). -/
def Link.reset : Link :=
  { asm := Option.none, replySlot := Option.none, busySlot := Option.none, tx := Option.none
    notices := [.resetDone .pin], resetPending := false, baud := 115200 }

/-- The part right after a reset by the RESETN pin, at its end, with every input low (log 6). -/
def State.reset : State :=
  { pins := Pins.low, params := Params.default, store := Store.reset, schedule := Schedule.reset
    planner := Planner.reset, shaft := Shaft.reset, gov := Gov.reset, motion := Motion.reset, bars := Bars.reset
    monitor := Monitor.reset, line := Line.reset, audit := Audit.reset, link := Link.reset
    resetAsserted := false, draws := 0, pending := [] }

end Sys2Proof.Machine
end

