-- ==== Sys2Proof/Machine/Ops.lean ====
section
/-! DEFINITION. The shared operations that no single block owns: byte order and codes of what crosses the link, bar
sets, segment memory, free values, the Notice Queue, replies and the transmitter. -/

namespace Sys2Proof.Machine

/-! ## Byte order (00_scope.md: multi-byte fields are little-endian, signed fields two's complement) -/

/-- A u8 field. A value wider than the field is sent modulo its width (log 24). -/
def u8 (n : Nat) : List Byte := [BitVec.ofNat 8 n]

/-- A u16 field. -/
def u16 (n : Nat) : List Byte := [BitVec.ofNat 8 n, BitVec.ofNat 8 (n / 256)]

/-- A u32 field. -/
def u32 (n : Nat) : List Byte := u16 n ++ u16 (n / 65536)

/-- An s16 field. -/
def s16 (z : Int) : List Byte := u16 (z % 65536).toNat

/-- An s32 field. -/
def s32 (z : Int) : List Byte := u32 (z % 4294967296).toNat

/-- A flag byte of 0 or 1. -/
def flag (b : Bool) : List Byte := [if b then 1 else 0]

/-- A byte of flags as bits, from weight 1 upward (12 section 12.5). -/
def flags (bs : List Bool) : List Byte :=
  [BitVec.ofNat 8 (bs.foldr (fun b acc => 2 * acc + (if b then 1 else 0)) 0)]

/-! ## Bar sets -/

/-- Whether the set holds the bar. -/
def BarSet.mem (t : BarSet) : Bar → Bool
  | .b0 => t.b0
  | .b1 => t.b1
  | .b2 => t.b2

/-- The set with one bar put in or taken out. -/
def BarSet.put (t : BarSet) (b : Bar) (v : Bool) : BarSet :=
  match b with
  | .b0 => { t with b0 := v }
  | .b1 => { t with b1 := v }
  | .b2 => { t with b2 := v }

/-- Intersection. -/
def BarSet.inter (t u : BarSet) : BarSet := ⟨t.b0 && u.b0, t.b1 && u.b1, t.b2 && u.b2⟩

/-- Whether the set is {}. -/
def BarSet.isEmpty (t : BarSet) : Bool := !(t.b0 || t.b1 || t.b2)

/-- The set's byte: the bit of weight 2^b stands for bar b (R189). -/
def BarSet.code (t : BarSet) : Nat :=
  (if t.b0 then 1 else 0) + (if t.b1 then 2 else 0) + (if t.b2 then 4 else 0)

/-- The non-empty set a byte stands for; none for {} and for a byte that names a bar other than 0, 1 or 2 (R189). -/
def BarSet.ofByte (b : Byte) : Option BarSet :=
  if b.toNat = 0 ∨ 8 ≤ b.toNat then Option.none
  else some ⟨b.getLsbD 0, b.getLsbD 1, b.getLsbD 2⟩

/-- The bar with a number 0..2. -/
def Bar.ofNat : Nat → Option Bar
  | 0 => some .b0
  | 1 => some .b1
  | 2 => some .b2
  | _ => Option.none

/-- A bar's number. -/
def Bar.num : Bar → Nat
  | .b0 => 0
  | .b1 => 1
  | .b2 => 2

/-! ## Segment memory (R1) -/

/-- Read one record place: none where it holds no segment. -/
def SegMem.read (m : SegMem) (a : Nat) : Option Segment :=
  match m with
  | [] => Option.none
  | (b, x) :: rest => if a = b then some x else SegMem.read rest a

/-- Write one record place, keeping the addresses strictly rising. -/
def SegMem.write (m : SegMem) (a : Nat) (x : Segment) : SegMem :=
  match m with
  | [] => [(a, x)]
  | (b, y) :: rest =>
    if a < b then (a, x) :: (b, y) :: rest
    else if a = b then (a, x) :: rest
    else (b, y) :: SegMem.write rest a x

/-- Empty the places lo..hi − 1. -/
def SegMem.clear (m : SegMem) (lo hi : Nat) : SegMem :=
  m.filter fun c => !(decide (lo ≤ c.1) && decide (c.1 < hi))

/-- Write a run of records from address `a` upward. -/
def SegMem.writeRun (m : SegMem) (a : Nat) : List Segment → SegMem
  | [] => m
  | x :: xs => SegMem.writeRun (SegMem.write m a x) (a + 1) xs

/-- The canonical form: addresses strictly rising, every one a record place of the 16 areas of 256. -/
def SegMem.wf : SegMem → Bool
  | [] => true
  | [(a, _)] => decide (a < 4096)
  | (a, _) :: (b, y) :: rest => decide (a < b) && SegMem.wf ((b, y) :: rest)

/-! ## Free values (log 9 to 11) -/

/-- The next free choice, and the state with it drawn. -/
def drawChoice (s : State) : Bool × State :=
  (Config.freeChoice s.draws, { s with draws := s.draws + 1 })

/-! ## Codes (12 section 12.3; an enumeration it does not list is coded from 0 in its defining rule's order) -/

/-- An absent field that has an absence code. -/
def absentCode : Nat := 0xFF

def ReqMode.code : ReqMode → Nat
  | .idle => 0
  | .thread => 1
  | .run => 2
  | .hold => 3

def Mode.code : Mode → Nat
  | .idle => 0
  | .threading => 1
  | .running => 2
  | .stopping => 3
  | .feeding => 4
  | .holding => 5
  | .faulted => 6

def StopPurpose.code : StopPurpose → Nat
  | .feed => 0
  | .endOfPanel => 1
  | .hold => 2
  | .fault => 3

def StopKind.code : StopKind → Nat
  | .atOnce => 0
  | .atStitch => 1
  | .atSegment => 2
  | .park => 3

def Reason.code : Reason → Nat
  | .request => 0
  | .input => 1
  | .record => 2
  | .stopDone => 3
  | .fault => 4
  | .cleared => 5
  | .scheduleEmpty => 6

def FaultSource.code : FaultSource → Nat
  | .estop => 0
  | .drive => 1
  | .encoder => 2
  | .overrun => 3
  | .park => 4
  | .barTimeout => 5
  | .markMissing => 6
  | .thread => 7
  | .sensorChain => 8
  | .feedSlip => 9

def FaultAction.code : FaultAction → Nat
  | .atOnce => 0
  | .atStitch => 1
  | .report => 2
  | .inPlace => 3

def Phase.code : Phase → Nat
  | .markSearch => 0
  | .leadIn => 1
  | .stitching => 2
  | .leadOut => 3
  | .gap => 4

def PanelOutcome.code : PanelOutcome → Nat
  | .done => 0
  | .aborted => 1

def ResetCause.code : ResetCause → Nat
  | .pin => 0
  | .request => 1

def EndCause.code : EndCause → Nat
  | .cmd => 0
  | .roll => 1
  | .wheel => 2
  | .stop => 3

def Verdict.code : Verdict → Nat
  | .pass => 0
  | .fail => 1
  | .inconclusive => 2

def ResumeStep.code : ResumeStep → Nat
  | .none => 0
  | .park => 1
  | .frozen => 2
  | .backMove => 3
  | .replay => 4
  | .restore => 5
  | .head => 6

/-- A code, or the absence code. -/
def codeOr {α : Type} (f : α → Nat) : Option α → Nat
  | Option.none => absentCode
  | some a => f a

/-- A stitch reference's seven bytes; seven bytes of 0 when absent (12 section 12.2, R189). -/
def refBytes : Option Ref → List Byte
  | Option.none => List.replicate 7 0
  | some r => u16 r.orderId ++ u8 r.repeatNo ++ u16 r.segment ++ u16 r.stitch

/-! ## Notices (section 11.6, 12.4) -/

/-- A notice's KIND (section 11.6). -/
def Notice.kind : Notice → Byte
  | .resetDone _ => 0x60
  | .modeChanged _ _ _ _ _ => 0x61
  | .fault _ _ _ _ => 0x62
  | .panelStarted _ _ _ => 0x63
  | .panelDone _ _ _ _ => 0x64
  | .queueLow _ _ => 0x65
  | .needleBroken _ _ _ _ => 0x66
  | .auditDone _ _ _ _ _ => 0x67
  | .homeDone _ _ => 0x68

/-- A notice's payload (12 section 12.4). -/
def Notice.payload : Notice → List Byte
  | .resetDone c => u8 c.code
  | .modeChanged m p k rq why =>
    u8 m.code ++ u8 (codeOr StopPurpose.code p) ++ u8 (codeOr StopKind.code k) ++ u8 rq.code ++ u8 why.code
  | .fault src act ref latched => u8 src.code ++ u8 act.code ++ refBytes ref ++ u16 latched
  | .panelStarted id slot phase => u16 id ++ u8 slot ++ u8 phase.code
  | .panelDone id slot outcome n => u16 id ++ u8 slot ++ u8 outcome.code ++ u16 n
  | .queueLow q low => u8 q ++ u8 low
  | .needleBroken count lowest ref total =>
    u8 count ++ u8 lowest ++ u8 (lowest / 32) ++ u8 (lowest % 32) ++ refBytes (some ref) ++ u8 total
  | .auditDone num cause verdict d m => u16 num ++ u8 cause.code ++ u8 verdict.code ++ s16 d ++ s16 m
  | .homeDone found travel => u8 (if found then 0 else 1) ++ u16 travel

/-- A notice's frame: every notice carries TAG 0 (section 11.6). -/
def Notice.frame (n : Notice) : Frame := ⟨n.kind, 0, n.payload⟩

/-- Whether a notice is a FAULT. -/
def Notice.isFault : Notice → Bool
  | .fault _ _ _ _ => true
  | _ => false

/-- Put a notice into the Notice Queue (R185): it replaces the content of a waiting notice of its kind in place;
otherwise a FAULT enters at the front and any other kind at the back. -/
def noticesWith (q : List Notice) (n : Notice) : List Notice :=
  if q.any (fun m => m.kind == n.kind) then q.map (fun m => if m.kind == n.kind then n else m)
  else if n.isFault then n :: q
  else q ++ [n]

/-! ## The transmitter (R186) -/

/-- Whether a notice is a RESET_DONE. -/
def Notice.isResetDone : Notice → Bool
  | .resetDone _ => true
  | _ => false

/-- The notice to send next and the queue without it: the front one (R186), but a RESET_DONE that is still waiting goes
before a FAULT that has entered ahead of it, since it is the first notice after a reset (R188; log 4). -/
def nextNotice (q : List Notice) : Option (Notice × List Notice) :=
  match q.find? Notice.isResetDone with
  | some n => some (n, q.eraseP Notice.isResetDone)
  | Option.none =>
    match q with
    | [] => Option.none
    | n :: rest => some (n, rest)

/-- When the transmitter is free it begins the reply, else the BUSY reply, else the next notice, which leaves the queue as
it begins (R186). After an accepted RESET only the reply is begun (R187). -/
def Link.choose (k : Link) : Link :=
  match k.tx with
  | some _ => k
  | Option.none =>
    match k.replySlot with
    | some f => { k with tx := some (.reply, f) }
    | Option.none =>
      if k.resetPending then k
      else
        match k.busySlot with
        | some f => { k with tx := some (.busy, f) }
        | Option.none =>
          match nextNotice k.notices with
          | Option.none => k
          | some (n, rest) => { k with tx := some (.notice, n.frame), notices := rest }

/-- The transmitter chooses (R186), except while RESETN is asserted (R187). -/
def transmit (s : State) : State := { s with link := if s.resetAsserted then s.link else s.link.choose }

/-- Raise a notice: it enters the Notice Queue (R185) and, arriving at an idle line, is sent at once (R186), before what
the same step raises after it. -/
def raiseNotice (n : Notice) (s : State) : State :=
  transmit { s with link := { s.link with notices := noticesWith s.link.notices n } }

/-! ## Replies (R180, R189) -/

/-- The status codes (R180). -/
inductive Status where
  | ok
  | busy
  | unknown
  | badLength
  | badValue
  | notNow
  | noRoom
  | inUse
  | notFound
  | duplicate
deriving DecidableEq, Repr

/-- A status's code (R180). -/
def Status.code : Status → Nat
  | .ok => 0
  | .busy => 1
  | .unknown => 2
  | .badLength => 3
  | .badValue => 4
  | .notNow => 5
  | .noRoom => 6
  | .inUse => 7
  | .notFound => 8
  | .duplicate => 9

/-- The refusal reasons (12 section 12.3). -/
inductive Why where
  | none
  | range
  | firstJump
  | xRange
  | yNegative
  | noStitch
  | unknownId
  | repeated
  | chain
  | guard
  | mode
  | shaft
  | homing
  | order
  | change
  | faults
  | xUnknown
  | noOrder
  | angle
  | initial
deriving DecidableEq, Repr

/-- A reason's code (12 section 12.3). -/
def Why.code : Why → Nat
  | .none => 0
  | .range => 1
  | .firstJump => 2
  | .xRange => 3
  | .yNegative => 4
  | .noStitch => 5
  | .unknownId => 6
  | .repeated => 7
  | .chain => 8
  | .guard => 9
  | .mode => 10
  | .shaft => 11
  | .homing => 12
  | .order => 13
  | .change => 14
  | .faults => 15
  | .xUnknown => 16
  | .noOrder => 17
  | .angle => 18
  | .initial => 19

/-- A reply: its status and the bytes after the status byte. -/
structure Reply where
  status : Status
  data : List Byte
deriving DecidableEq, Repr

/-- An OK reply with its results. -/
def Reply.good (data : List Byte) : Reply := ⟨.ok, data⟩

/-- A refusal with its six detail bytes (R189): failing field or pair index, record index or count, reason, guard axis.
A detail the rule does not name is 0 (log 22). -/
def Reply.refusal (st : Status) (field count : Nat) (why : Why) (axis : Nat) : Reply :=
  ⟨st, u16 field ++ u16 count ++ u8 why.code ++ u8 axis⟩

/-- A refusal with a reason and no other detail. -/
def Reply.because (st : Status) (why : Why) : Reply := Reply.refusal st 0 0 why 0

/-- A refusal that names a field by the offset of its first byte. -/
def Reply.field (offset : Nat) : Reply := Reply.refusal .badValue offset 0 .none 0

/-- The frame of a reply: KIND plus 0x80, the request's TAG, the status byte and the data (R180). -/
def replyFrame (kind tag : Byte) (r : Reply) : Frame :=
  ⟨kind + 0x80, tag, BitVec.ofNat 8 r.status.code :: r.data⟩

/-- Set what the transmitter is sending. -/
def setTx (tx : Option (TxSource × Frame)) (s : State) : State := { s with link := { s.link with tx := tx } }

/-- The reply of a request that is being decided: it has the line, and its bytes are not formed yet. -/
def replyForming : TxSource × Frame := (.reply, ⟨0, 0, []⟩)

/-- The state with the line kept for the reply of the request that has been taken. A request is in progress from that
moment and its reply holds the reply slot (R179), so a notice raised as the request is decided waits behind that reply
(R186; log 4). -/
def keepLine (s : State) : State := setTx (some (s.link.tx.getD replyForming)) s

/-- Work done while a request is decided: the line is kept meanwhile and stands as before when the work is done. -/
def inRequest (f : State → State) (s : State) : State := setTx s.link.tx (f (keepLine s))

/-- Take a request against stop-and-wait (R179), let its block decide it, and place the reply in the reply slot.
While RESETN is asserted LRX is ignored, and after an accepted RESET a completed frame is discarded (R187). -/
def request (kind tag : Byte) (decide : State → State × Reply) (s : State) : State :=
  if s.resetAsserted ∨ s.link.resetPending then s
  else if s.link.replySlot.isSome then
    if s.link.busySlot.isSome then s
    else { s with link := { s.link with busySlot := some (replyFrame kind tag ⟨.busy, []⟩) } }
  else
    let t := inRequest (fun u => (decide u).1) s
    { t with link := { t.link with replySlot := some (replyFrame kind tag (decide (keepLine s)).2) } }

/-- The end of every command: the transmitter takes up what has come to an idle line (R186), and the command answers the
next state. -/
def finish (s : State) : Host.Outcome State Fault Refusal := .next (transmit s)

/-- An event acts on the blocks only while RESETN is not asserted (R187, log 8). -/
def live (f : State → State) (s : State) : State := if s.resetAsserted then s else f s

end Sys2Proof.Machine
end

