-- ==== Sys2Proof/Machine/Operands.lean ====
section
/-! DEFINITION. The operand codings of chapter 12: the parameter table (section 12.6), segment records and order
records (section 12.2), hold kinds and actions (section 12.3). -/

namespace Sys2Proof.Machine

/-! ## Parameters (12 section 12.6) -/

/-- The parameters by name. -/
inductive ParamId where
  | lineMax | creep | resumeSpeed | decelDepth | lockTol | kX | kY | iminX | iminY | capX | capY
  | homeInterval | cutTime | markLimit | deadTime | barTimeout | grace | breakLimit | scanPeriod
  | chainBytes | mapBar0 | mapBar1 | mapBar2 | overlap | lowWater | threadAction | chainAction
  | slipAction | holdInputKind | rollPer100 | wheelPer100 | driveTol | matTol | autoAudit
deriving DecidableEq, Repr

/-- Every parameter, in identifier order: the parameter at place i has identifier i + 1. -/
def ParamId.all : List ParamId :=
  [.lineMax, .creep, .resumeSpeed, .decelDepth, .lockTol, .kX, .kY, .iminX, .iminY, .capX, .capY]
  ++ [.homeInterval, .cutTime, .markLimit, .deadTime, .barTimeout, .grace, .breakLimit, .scanPeriod]
  ++ [.chainBytes, .mapBar0, .mapBar1, .mapBar2, .overlap, .lowWater, .threadAction, .chainAction]
  ++ [.slipAction, .holdInputKind, .rollPer100, .wheelPer100, .driveTol, .matTol, .autoAudit]

/-- The parameter an identifier names. -/
def ParamId.ofCode (n : Nat) : Option ParamId := if n = 0 then Option.none else ParamId.all[n - 1]?

/-- Range of a parameter: least and greatest value; the bar maps take every 32-bit set. -/
def ParamId.range : ParamId → Int × Int
  | .lineMax => (60, 2000)
  | .creep => (10, 600)
  | .resumeSpeed => (60, 2000)
  | .decelDepth => (1, 8)
  | .lockTol => (1, 50)
  | .kX => (1, 8)
  | .kY => (1, 8)
  | .iminX => (20, 1000)
  | .iminY => (20, 1000)
  | .capX => (1, 250)
  | .capY => (1, 250)
  | .homeInterval => (20, 5000)
  | .cutTime => (20, 500)
  | .markLimit => (100, 20000)
  | .deadTime => (0, 50)
  | .barTimeout => (50, 2000)
  | .grace => (1, 16)
  | .breakLimit => (1, 8)
  | .scanPeriod => (250, 2000)
  | .chainBytes => (1, 12)
  | .mapBar0 => (-2147483648, 2147483647)
  | .mapBar1 => (-2147483648, 2147483647)
  | .mapBar2 => (-2147483648, 2147483647)
  | .overlap => (0, 32)
  | .lowWater => (0, 7)
  | .threadAction => (0, 2)
  | .chainAction => (1, 2)
  | .slipAction => (1, 2)
  | .holdInputKind => (0, 3)
  | .rollPer100 => (1, 10000)
  | .wheelPer100 => (1, 10000)
  | .driveTol => (1, 500)
  | .matTol => (1, 500)
  | .autoAudit => (0, 1)

/-- low_water, drive_tol and mat_tol are clamped at their upper end; no other parameter is (section 11.4). -/
def ParamId.clamped : ParamId → Bool
  | .lowWater => true
  | .driveTol => true
  | .matTol => true
  | _ => false

/-- The parameters that may change only with no order ACTIVE (R62). -/
def ParamId.orderBound : ParamId → Bool
  | .kX | .kY | .iminX | .iminY | .capX | .capY | .lineMax | .creep | .decelDepth => true
  | _ => false

/-- The parameters that take part in the configuration guard (R61). -/
def ParamId.guarded : ParamId → Bool
  | .kX | .kY | .iminX | .iminY | .capX | .capY | .lineMax | .creep => true
  | _ => false

/-- The needle map and the chain length (R137). -/
def ParamId.chainBound : ParamId → Bool
  | .mapBar0 | .mapBar1 | .mapBar2 | .chainBytes => true
  | _ => false

/-- The code of hold_input_kind (12 section 12.3). -/
def holdInputCode : Option HoldKind → Int
  | some .atOnce => 0
  | some .atStitch => 1
  | some .atSegment => 2
  | Option.none => 3

/-- The action a code names (12 section 12.3). -/
def actionOfCode (v : Int) : FaultAction := if v = 0 then .atOnce else if v = 1 then .atStitch else .report

/-- The hold_input_kind a code names. -/
def holdInputOfCode (v : Int) : Option HoldKind :=
  if v = 0 then some .atOnce else if v = 1 then some .atStitch else if v = 2 then some .atSegment else Option.none

/-- A parameter's value as the s32 of the link (section 11.4). -/
def Params.get (p : Params) : ParamId → Int
  | .lineMax => p.lineMax
  | .creep => p.creep
  | .resumeSpeed => p.resumeSpeed
  | .decelDepth => p.decelDepth
  | .lockTol => p.lockTol
  | .kX => p.kX
  | .kY => p.kY
  | .iminX => p.iminX
  | .iminY => p.iminY
  | .capX => p.capX
  | .capY => p.capY
  | .homeInterval => p.homeInterval
  | .cutTime => p.cutTime
  | .markLimit => p.markLimit
  | .deadTime => p.deadTime
  | .barTimeout => p.barTimeout
  | .grace => p.grace
  | .breakLimit => p.breakLimit
  | .scanPeriod => p.scanPeriod
  | .chainBytes => p.chainBytes
  | .mapBar0 => p.mapBar0.toInt
  | .mapBar1 => p.mapBar1.toInt
  | .mapBar2 => p.mapBar2.toInt
  | .overlap => p.overlap
  | .lowWater => p.lowWater
  | .threadAction => p.threadAction.code
  | .chainAction => p.chainAction.code
  | .slipAction => p.slipAction.code
  | .holdInputKind => holdInputCode p.holdInputKind
  | .rollPer100 => p.rollPer100
  | .wheelPer100 => p.wheelPer100
  | .driveTol => p.driveTol
  | .matTol => p.matTol
  | .autoAudit => if p.autoAudit then 1 else 0

/-- Write a parameter from its s32 value (already in range, clamped where it is clamped). -/
def Params.set (p : Params) (id : ParamId) (v : Int) : Params :=
  match id with
  | .lineMax => { p with lineMax := v.toNat }
  | .creep => { p with creep := v.toNat }
  | .resumeSpeed => { p with resumeSpeed := v.toNat }
  | .decelDepth => { p with decelDepth := v.toNat }
  | .lockTol => { p with lockTol := v.toNat }
  | .kX => { p with kX := v.toNat }
  | .kY => { p with kY := v.toNat }
  | .iminX => { p with iminX := v.toNat }
  | .iminY => { p with iminY := v.toNat }
  | .capX => { p with capX := v.toNat }
  | .capY => { p with capY := v.toNat }
  | .homeInterval => { p with homeInterval := v.toNat }
  | .cutTime => { p with cutTime := v.toNat }
  | .markLimit => { p with markLimit := v.toNat }
  | .deadTime => { p with deadTime := v.toNat }
  | .barTimeout => { p with barTimeout := v.toNat }
  | .grace => { p with grace := v.toNat }
  | .breakLimit => { p with breakLimit := v.toNat }
  | .scanPeriod => { p with scanPeriod := v.toNat }
  | .chainBytes => { p with chainBytes := v.toNat }
  | .mapBar0 => { p with mapBar0 := BitVec.ofInt 32 v }
  | .mapBar1 => { p with mapBar1 := BitVec.ofInt 32 v }
  | .mapBar2 => { p with mapBar2 := BitVec.ofInt 32 v }
  | .overlap => { p with overlap := v.toNat }
  | .lowWater => { p with lowWater := v.toNat }
  | .threadAction => { p with threadAction := actionOfCode v }
  | .chainAction => { p with chainAction := actionOfCode v }
  | .slipAction => { p with slipAction := actionOfCode v }
  | .holdInputKind => { p with holdInputKind := holdInputOfCode v }
  | .rollPer100 => { p with rollPer100 := v.toNat }
  | .wheelPer100 => { p with wheelPer100 := v.toNat }
  | .driveTol => { p with driveTol := v.toNat }
  | .matTol => { p with matTol := v.toNat }
  | .autoAudit => { p with autoAudit := decide (v = 1) }

/-- Whether needle i is fitted under these maps (R137): position i mod 32 of bar i / 32. -/
def Params.fitted (p : Params) (i : Nat) : Bool :=
  if i < 32 then p.mapBar0.getLsbD i
  else if i < 64 then p.mapBar1.getLsbD (i - 32)
  else p.mapBar2.getLsbD (i - 64)

/-! ## Segment records (12 section 12.2) -/

/-- The byte of a record at an offset. -/
def recordByte (w : BitVec 64) (k : Nat) : Byte := w.extractLsb' (8 * k) 8

/-- The s16 field of a record at an offset. -/
def recordS16 (w : BitVec 64) (k : Nat) : Int := (w.extractLsb' (8 * k) 16).toInt

/-- Check the move of a STITCH or JUMP (R5): the offset of its first failing field, or none. A move with both parts 0
fails at dx (log 22). -/
def moveFault (dx dy : Int) : Option Nat :=
  if dx < -2400 ∨ 2400 < dx then some 2
  else if dy < -10000 ∨ 10000 < dy then some 4
  else if dx = 0 ∧ dy = 0 then some 2
  else Option.none

/-- Read a segment record (R5): the segment, or the offset in the record of its first failing field. -/
def parseSegment (w : BitVec 64) : Except Nat Segment :=
  let dx := recordS16 w 2
  let dy := recordS16 w 4
  match (recordByte w 0).toNat with
  | 1 =>
    match moveFault dx dy with
    | some k => .error k
    | Option.none =>
      let len := (recordByte w 6).toNat
      if len = 0 ∨ (10 ≤ len ∧ len ≤ 80) then .ok (.stitch dx dy len) else .error 6
  | 2 =>
    match moveFault dx dy with
    | some k => .error k
    | Option.none => .ok (.jump dx dy)
  | 3 =>
    match BarSet.ofByte (recordByte w 2) with
    | some t => .ok (.bars t)
    | Option.none => .error 2
  | 4 =>
    let cap := (w.extractLsb' 16 16).toNat
    if cap = 0 ∨ (60 ≤ cap ∧ cap ≤ 2000) then .ok (.speed cap) else .error 2
  | 5 =>
    let n := (recordByte w 2).toNat
    if 1 ≤ n ∧ n ≤ 6 then .ok (.tack n) else .error 2
  | _ => .error 0

/-- Read the records of a PATTERN_ADD in order: the segments, or the index of the first failing record and the offset
of its first failing field (R8). -/
def parseSegments : Nat → List (BitVec 64) → Except (Nat × Nat) (List Segment)
  | _, [] => .ok []
  | i, w :: ws =>
    match parseSegment w with
    | .error k => .error (i, k)
    | .ok x =>
      match parseSegments (i + 1) ws with
      | .error e => .error e
      | .ok xs => .ok (x :: xs)

/-! ## Order records (12 section 12.2) -/

/-- A flag byte of 0 or 1 (R189). -/
def flagOfByte (b : Byte) : Option Bool := if b = 0 then some false else if b = 1 then some true else Option.none

/-- The offset of the first field outside the range R20 gives, in record order (R21 check 1), or none. -/
def OrderFields.fault (o : OrderFields) : Option Nat :=
  if o.orderId.toNat = 0 then some 0
  else if 16 ≤ o.slot.toNat then some 2
  else if o.repeats.toNat = 0 ∨ 64 < o.repeats.toNat then some 3
  else if o.stitchLen.toNat < 10 ∨ 80 < o.stitchLen.toNat then some 4
  else if 6 < o.tack.toNat then some 5
  else if o.speedLimit.toNat < 60 ∨ 2000 < o.speedLimit.toNat then some 6
  else if o.xOffset.toInt < -2400 ∨ 2400 < o.xOffset.toInt then some 8
  else if 2000 < o.leadIn.toNat then some 10
  else if 2000 < o.leadOut.toNat then some 12
  else if 5000 < o.gap.toNat then some 14
  else if (flagOfByte o.onMark).isNone then some 16
  else if (flagOfByte o.cut).isNone then some 17
  else if (BarSet.ofByte o.barMask).isNone then some 18
  else Option.none

/-- The order an ORDER_ADD asks for, its speed_limit clamped to line_max (R24). -/
def OrderFields.spec (o : OrderFields) (lineMax : Nat) : OrderSpec :=
  { orderId := o.orderId.toNat, slot := o.slot.toNat, repeats := o.repeats.toNat, stitchLen := o.stitchLen.toNat
    tack := o.tack.toNat, speedLimit := min o.speedLimit.toNat lineMax, xOffset := o.xOffset.toInt
    leadIn := o.leadIn.toNat, leadOut := o.leadOut.toNat, gap := o.gap.toNat
    onMark := (flagOfByte o.onMark).getD false, cut := (flagOfByte o.cut).getD false
    barMask := (BarSet.ofByte o.barMask).getD BarSet.none }

/-! ## Modes and hold kinds -/

/-- The hold kind a byte names (12 section 12.3). -/
def holdKindOfByte (b : Byte) : Option HoldKind :=
  if b = 0 then some .atOnce else if b = 1 then some .atStitch else if b = 2 then some .atSegment else Option.none

/-- A hold kind as a stop kind. -/
def HoldKind.stopKind : HoldKind → StopKind
  | .atOnce => .atOnce
  | .atStitch => .atStitch
  | .atSegment => .atSegment

/-- Strength of a stop kind (R152): AT_ONCE, then AT_STITCH, then AT_SEGMENT. -/
def StopKind.strength : StopKind → Nat
  | .atOnce => 2
  | .atStitch => 1
  | .atSegment => 0
  | .park => 0

end Sys2Proof.Machine
end

