-- ==== Sys2Proof/Machine/Flags.lean ====
section
/-! DEFINITION. The judgements one block reads from another's state: the angle and the window (R66, R77), the engaged
set (R122), the head record's kind (R39), the ACTIVE order (R25), the latched sources (R157), the audit gate (R170),
the stitch in hand (R157). None of them changes anything. -/

namespace Sys2Proof.Machine

/-! ## Angle and window -/

/-- The shaft angle (R66): (position + phase offset) mod 4096. -/
def Shaft.angle (h : Shaft) : Nat := ((h.position + h.phaseOffset) % 4096).toNat

/-- The window width W of a timing set (section 4.4). -/
def TimingSet.width (t : TimingSet) : Nat := forwardCounts t.windowOpen t.windowClose

/-- Whether an angle lies geometrically inside the active window (section 4.4). -/
def Shaft.insideActive (h : Shaft) : Bool := decide (forwardCounts h.active.windowOpen h.angle < h.active.width)

/-- The most recently accepted timing set: the pending one when there is one (R79). -/
def Shaft.accepted (h : Shaft) : TimingSet := h.pendingSet.getD h.active

/-- Inside the current window (R77). -/
def Shaft.insideCurrent (h : Shaft) : Bool :=
  h.window.inProgress && decide (forwardCounts h.window.openAt h.angle < forwardCounts h.window.openAt h.window.closeAt)

/-- Turning forward inside the current window (R77). -/
def Shaft.turningForwardInside (h : Shaft) : Bool :=
  h.insideCurrent && !h.stopped && decide (h.lastCount = some .forward)

/-- A step pulse may be emitted (R105): the shaft is stopped, or judged inside the current window. -/
def Shaft.pulsesAllowed (h : Shaft) : Bool := h.stopped || h.insideCurrent

/-- Parked: the shaft is stopped with a valid angle inside the active window (R94, R96). -/
def Shaft.parked (h : Shaft) : Bool := h.stopped && h.angleValid && h.insideActive

/-- The window state derived from an angle under the active set (R76). -/
def Shaft.derivedWindow (h : Shaft) : Window :=
  if h.insideActive then
    { inProgress := true, openAt := h.active.windowOpen, closeAt := h.active.windowClose, stopAt := h.active.stopAngle
      stopGiven := decide (forwardCounts h.active.windowOpen h.active.stopAngle
        ≤ forwardCounts h.active.windowOpen h.angle) }
  else { h.window with inProgress := false }

/-! ## Bars -/

/-- The bar record of a bar. -/
def Bars.get (u : Bars) : Bar → BarRec
  | .b0 => u.b0
  | .b1 => u.b1
  | .b2 => u.b2

/-- The engaged set: the set of bars in DOWN (R122). -/
def Bars.engaged (u : Bars) : BarSet :=
  ⟨decide (u.b0.state = .down), decide (u.b1.state = .down), decide (u.b2.state = .down)⟩

/-! ## Schedule and queue -/

/-- The ACTIVE order (R25). -/
def Schedule.activeOrder (c : Schedule) : Option Order := c.orders.find? fun o => decide (o.state = .active)

/-- Whether an order is ACTIVE. -/
def State.orderActive (s : State) : Bool := s.schedule.activeOrder.isSome

/-- The number q of QUEUED orders (R34). -/
def Schedule.queuedCount (c : Schedule) : Nat := (c.orders.filter fun o => decide (o.state = .queued)).length

/-- FEED, BAR_CHANGE and END are the stop-type records (R39). -/
def PlanRecord.isStop : PlanRecord → Bool
  | .stitch _ _ => false
  | .tack _ _ => false
  | .feed _ _ _ _ => true
  | .barChange _ _ => true
  | .endMark _ => true

/-- The record's stitch reference (R38). -/
def PlanRecord.ref : PlanRecord → Ref
  | .stitch t _ => t.ref
  | .tack t _ => t.ref
  | .feed _ _ _ r => r
  | .barChange _ r => r
  | .endMark r => r

/-- The stitch of a STITCH or TACK record with its last_of_segment flag (R38). -/
def PlanRecord.stitch? : PlanRecord → Option (Stitch × Bool)
  | .stitch t l => some (t, l)
  | .tack t l => some (t, l)
  | _ => Option.none

/-- The phase class of a record (R29): the record before any repeat has repeat 0 in its reference (R43). -/
def PlanRecord.phase : PlanRecord → Phase
  | .feed .markSearch _ _ _ => .markSearch
  | .feed (.leadIn _) _ _ _ => .leadIn
  | .feed .leadOut _ _ _ => .leadOut
  | .feed .gap _ _ _ => .gap
  | .feed .jump _ _ _ => .stitching
  | .feed .join _ _ _ => .stitching
  | .barChange _ r => if r.repeatNo = 0 then .leadIn else .stitching
  | .endMark _ => .leadOut
  | .stitch _ _ => .stitching
  | .tack _ _ => .stitching

/-- The head of the Plan Queue. -/
def Planner.head (p : Planner) : Option PlanRecord := p.queue.head?

/-- Whether the head is a stop-type record. -/
def Planner.headIsStop (p : Planner) : Bool := (p.head.map PlanRecord.isStop).getD false

/-- The stitch of the head, when the head is a STITCH or TACK record. -/
def Planner.headStitch (p : Planner) : Option (Stitch × Bool) := p.head.bind PlanRecord.stitch?

/-- Whether a record is the LEAD_IN feed move. -/
def PlanRecord.isLeadIn : PlanRecord → Bool
  | .feed (.leadIn _) _ _ _ => true
  | _ => false

/-! ## Fault Record -/

/-- Whether a source is latched. -/
def FaultRecord.has (f : FaultRecord) (src : FaultSource) : Bool := f.latched.any fun e => decide (e.1 = src)

/-- Whether a latched source's action is AT_ONCE (R87, R98). -/
def FaultRecord.atOnce (f : FaultRecord) : Bool := f.latched.any fun e => decide (e.2 = .atOnce)

/-- THREAD in the latched set, latched with action AT_ONCE or AT_STITCH (R159). -/
def FaultRecord.threadStop (f : FaultRecord) : Bool :=
  f.latched.any fun e => decide (e.1 = .thread) && (decide (e.2 = .atOnce) || decide (e.2 = .atStitch))

/-- The latched set as bits (12 section 12.3). -/
def FaultRecord.code (f : FaultRecord) : Nat := f.latched.foldr (fun e acc => 2 ^ e.1.code + acc) 0

/-- A source's action as the parameters stand (R158). -/
def actionOf (p : Params) : FaultSource → FaultAction
  | .estop => .atOnce
  | .drive => .atOnce
  | .encoder => .atOnce
  | .overrun => .atOnce
  | .park => .atOnce
  | .barTimeout => .inPlace
  | .markMissing => .inPlace
  | .thread => p.threadAction
  | .sensorChain => p.chainAction
  | .feedSlip => p.slipAction

/-- Whether the condition of a latched source still holds (R158): ESTOP and DRIVE while their inputs are asserted,
SENSOR_CHAIN while the chain condition is present; every other source's condition is gone at once. -/
def State.conditionHolds (s : State) : FaultSource → Bool
  | .estop => s.pins.estop
  | .drive => s.pins.drvflt
  | .sensorChain => s.monitor.chainFault
  | _ => false

/-! ## Motion in hand -/

/-- A burst is EMITTING. -/
def Motion.emitting (m : Motion) : Bool := (m.burst.map fun b => !b.frozen).getD false

/-- A burst is FROZEN. -/
def Motion.burstFrozen (m : Motion) : Bool := (m.burst.map fun b => b.frozen).getD false

/-- A feed move or back move is MOVING or CUTTING. -/
def Motion.feedRunning (m : Motion) : Bool :=
  (m.feed.map fun f => decide (f.state = .moving) || decide (f.state = .cutting)).getD false

/-- The reference of the stitch in hand (R157): the burst's, else the next replay stitch's, else the head record's.
Absent when no order is ACTIVE. -/
def State.stitchInHand (s : State) : Option Ref :=
  if s.orderActive then
    match s.motion.burst with
    | some b => some b.stitch.ref
    | Option.none =>
      match s.line.replay with
      | t :: _ => some t.ref
      | [] => s.planner.head.map PlanRecord.ref
  else Option.none

/-- The audit gate (R170). -/
def State.gateOpen (s : State) : Bool :=
  (decide (s.line.effective = .running) && decide (s.gov.state = .locked)) || decide (s.line.effective = .feeding)

/-- The audit counts: its state is COUNTING and the gate is open (R171). -/
def State.auditCounts (s : State) : Bool := decide (s.audit.state = .counting) && s.gateOpen

/-- A hold or fault stop that waits for the work in hand and then parks: kind AT_STITCH, or AT_SEGMENT once the
permission is withdrawn (R153, R159). -/
def State.stitchStopOn (s : State) : Bool :=
  decide (s.line.effective = .stopping)
  && (decide (s.line.stopPurpose = some .hold) || decide (s.line.stopPurpose = some .fault))
  && (decide (s.line.stopKind = some .atStitch) || (decide (s.line.stopKind = some .atSegment) && !s.line.permission))

/-- An AT_SEGMENT hold that is still stitching (R153). -/
def State.segmentStopOn (s : State) : Bool :=
  decide (s.line.effective = .stopping) && decide (s.line.stopPurpose = some .hold)
  && decide (s.line.stopKind = some .atSegment) && s.line.permission

/-- STOPPING for HOLD. -/
def State.stoppingForHold (s : State) : Bool :=
  decide (s.line.effective = .stopping) && decide (s.line.stopPurpose = some .hold)

/-- STOPPING for FAULT. -/
def State.stoppingForFault (s : State) : Bool :=
  decide (s.line.effective = .stopping) && decide (s.line.stopPurpose = some .fault)

/-- The number of BROKEN needles. -/
def Monitor.brokenCount (m : Monitor) : Nat :=
  (m.needles.filter fun x => match x with | .broken _ _ => true | _ => false).length

end Sys2Proof.Machine
end

