-- ==== Sys2Proof/Machine/Patterns.lean ====
section
/-! DEFINITION. The Pattern Store (chapter 1): allocation, loading, closing, erasing and reading pattern slots. -/

namespace Sys2Proof.Machine

/-- The record of a slot; an EMPTY record for a number outside 0..15. -/
def Store.slot (t : Store) (i : Nat) : Slot := t.slots.getD i Slot.empty

/-- Replace the record of a slot. -/
def Store.setSlot (t : Store) (i : Nat) (r : Slot) : Store := { t with slots := t.slots.set i r }

/-- Whether a slot owns an area (R1): it is not EMPTY and the area is in its run. -/
def Slot.owns (r : Slot) (a : Nat) : Bool :=
  decide (r.state ≠ .empty) && decide (r.firstArea ≤ a) && decide (a < r.firstArea + r.areaCount)

/-- Whether an area is free for a request naming a slot: no other slot owns it (R2). -/
def Store.freeFor (t : Store) (named a : Nat) : Bool :=
  (List.range 16).all fun i => decide (i = named) || !(t.slot i).owns a

/-- Whether the run a..a + n − 1 is free for a request naming a slot. -/
def Store.runFree (t : Store) (named a n : Nat) : Bool := (List.range n).all fun k => t.freeFor named (a + k)

/-- The lowest-numbered run of n free areas (R2). -/
def Store.allocate (t : Store) (named n : Nat) : Option Nat :=
  (List.range (17 - n)).find? fun a => t.runFree named a n

/-- The length of the longest free run (R2). -/
def Store.longestRun (t : Store) (named : Nat) : Nat :=
  ((List.range 17).filter fun n => (List.range (17 - n)).any fun a => t.runFree named a n).foldl max 0

/-- Free a slot's areas and discard its segments (R1, R7). -/
def Store.freeAreas (t : Store) (i : Nat) : Store :=
  let r := t.slot i
  if r.state = .empty then t
  else { t with segMem := SegMem.clear t.segMem (256 * r.firstArea) (256 * (r.firstArea + r.areaCount)) }

/-- Make a slot EMPTY (R11, R14). -/
def Store.emptySlot (t : Store) (i : Nat) : Store := (t.freeAreas i).setSlot i Slot.empty

/-- The address of segment i of a slot (R1): area first_area + floor(i / 256), place i mod 256. -/
def Slot.address (r : Slot) (i : Nat) : Nat := 256 * (r.firstArea + i / 256) + i % 256

/-- Segment i of a slot. -/
def Store.segment (t : Store) (slot i : Nat) : Option Segment :=
  if i < (t.slot slot).segmentCount then SegMem.read t.segMem ((t.slot slot).address i) else Option.none

/-- The segments of a slot in index order. -/
def Store.segments (t : Store) (slot : Nat) : List Segment :=
  (List.range (t.slot slot).segmentCount).filterMap fun i => t.segment slot i

/-- Whether a slot other than the one named is LOADING (R6 check 2). -/
def Store.otherLoading (t : Store) (named : Nat) : Bool :=
  (List.range 16).any fun i => decide (i ≠ named) && decide ((t.slot i).state = .loading)

/-- Decide a PATTERN_BEGIN (R6, R7). -/
def decidePatternBegin (slot areaCount : Byte) (startX pitch : BitVec 16) (bars : Byte) (s : State) : State × Reply :=
  let i := slot.toNat
  let n := areaCount.toNat
  if 16 ≤ i then (s, Reply.field 0)
  else if s.store.otherLoading i then (s, Reply.because .inUse .none)
  else if (s.store.slot i).state = .ready ∧ 0 < (s.store.slot i).useCount then (s, Reply.because .inUse .none)
  else if n = 0 ∨ 16 < n then (s, Reply.field 1)
  else if 2400 < startX.toNat then (s, Reply.field 2)
  else if pitch.toNat = 0 ∨ 10000 < pitch.toNat then (s, Reply.field 4)
  else
    match BarSet.ofByte bars with
    | Option.none => (s, Reply.field 6)
    | some set =>
      match s.store.allocate i n with
      | Option.none => (s, Reply.refusal .noRoom 0 (s.store.longestRun i) .none 0)
      | some a =>
        let rec' : Slot :=
          { state := .loading, firstArea := a, areaCount := n, segmentCount := 0, startX := startX.toNat
            pitch := pitch.toNat, initialBars := set, atClose := AtClose.zero, useCount := 0 }
        ({ s with store := (s.store.freeAreas i).setSlot i rec' }, Reply.good (u8 a))

/-- Decide a PATTERN_ADD (R8). -/
def decidePatternAdd (slot : Byte) (records : List (BitVec 64)) (s : State) : State × Reply :=
  let i := slot.toNat
  if records.length = 0 ∨ 28 < records.length then (s, ⟨.badLength, []⟩)
  else if 16 ≤ i then (s, Reply.field 0)
  else if (s.store.slot i).state ≠ .loading then (s, Reply.because .notNow .none)
  else
    match parseSegments 0 records with
    | .error (k, off) => (s, Reply.refusal .badValue (1 + 8 * k + off) k .none 0)
    | .ok xs =>
      let r := s.store.slot i
      if 256 * r.areaCount < r.segmentCount + xs.length then
        (s, Reply.refusal .noRoom 0 (256 * r.areaCount - r.segmentCount) .none 0)
      else
        let store' : Store :=
          { s.store with segMem := SegMem.writeRun s.store.segMem (r.address r.segmentCount) xs }
        let r' := { r with segmentCount := r.segmentCount + xs.length }
        ({ s with store := store'.setSlot i r' }, Reply.good (u16 r'.segmentCount))

/-- What the walk of PATTERN_END keeps (R10, R12): the running point, the extents so far, whether a STITCH was met. -/
structure Walk where
  x : Int
  y : Int
  xMin : Int
  xMax : Int
  yMax : Int
  stitches : Bool
deriving DecidableEq, Repr

/-- The walk at the origin. -/
def Walk.origin : Walk := ⟨0, 0, 0, 0, 0, false⟩

/-- Move the running point and take in the extents (R12). -/
def Walk.move (w : Walk) (dx dy : Int) (isStitch : Bool) : Walk :=
  let x := w.x + dx
  let y := w.y + dy
  ⟨x, y, min w.xMin x, max w.xMax x, max w.yMax y, w.stitches || isStitch⟩

/-- The check of a running point (R10 item 2). -/
def Walk.fault (w : Walk) (startX : Nat) : Option Why :=
  if startX + w.x < 0 ∨ 2400 < startX + w.x then some .xRange
  else if w.y < 0 then some .yNegative
  else Option.none

/-- Walk segments from index i (R10): the walk's end, or the index and reason of the first failure. -/
def walkSegments (startX : Nat) : Nat → Walk → List Segment → Except (Nat × Why) Walk
  | i, w, [] => if w.stitches then .ok w else .error (i, .noStitch)
  | i, w, x :: rest =>
    match x with
    | .stitch dx dy _ =>
      let w' := w.move dx dy true
      match w'.fault startX with
      | some why => .error (i, why)
      | Option.none => walkSegments startX (i + 1) w' rest
    | .jump dx dy =>
      if i = 0 then .error (0, .firstJump)
      else
        let w' := w.move dx dy false
        match w'.fault startX with
        | some why => .error (i, why)
        | Option.none => walkSegments startX (i + 1) w' rest
    | .bars _ => walkSegments startX (i + 1) w rest
    | .speed _ => walkSegments startX (i + 1) w rest
    | .tack _ => walkSegments startX (i + 1) w rest

/-- The at-close fields of a successful walk (R12). -/
def Walk.atClose (w : Walk) (pitch : Nat) : AtClose :=
  ⟨w.xMin, w.xMax, w.yMax, w.x, w.y, decide (w.x = 0) && decide (w.y = pitch)⟩

/-- Decide a PATTERN_END (R10 to R12). -/
def decidePatternEnd (slot : Byte) (s : State) : State × Reply :=
  let i := slot.toNat
  if 16 ≤ i then (s, Reply.field 0)
  else if (s.store.slot i).state ≠ .loading then (s, Reply.because .notNow .none)
  else
    let r := s.store.slot i
    match walkSegments r.startX 0 Walk.origin (s.store.segments i) with
    | .error (k, why) => ({ s with store := s.store.emptySlot i }, Reply.refusal .badValue 0 k why 0)
    | .ok w =>
      let c := w.atClose r.pitch
      ({ s with store := s.store.setSlot i { r with state := .ready, atClose := c, useCount := 0 } },
        Reply.good (u16 r.segmentCount ++ s16 c.xMin ++ s16 c.xMax ++ u32 c.yMax.toNat ++ s16 c.endDx
          ++ u32 c.endDy.toNat ++ flag c.continuous))

/-- Decide a PATTERN_ERASE (R14). -/
def decidePatternErase (slot : Byte) (s : State) : State × Reply :=
  let i := slot.toNat
  if 16 ≤ i then (s, Reply.field 0)
  else if 0 < (s.store.slot i).useCount then (s, Reply.because .inUse .none)
  else ({ s with store := s.store.emptySlot i }, Reply.good [])

/-- A slot state's code (12 section 12.1.1). -/
def SlotState.code : SlotState → Nat
  | .empty => 0
  | .loading => 1
  | .ready => 2

/-- Decide a PATTERN_INFO (R15). -/
def decidePatternInfo (slot : Byte) (s : State) : State × Reply :=
  let i := slot.toNat
  if 16 ≤ i then (s, Reply.field 0)
  else
    let r := s.store.slot i
    let c := r.atClose
    (s, Reply.good (u8 i ++ u8 r.state.code ++ u8 r.firstArea ++ u8 r.areaCount ++ u16 r.segmentCount
      ++ u16 r.startX ++ u16 r.pitch ++ u8 r.initialBars.code ++ s16 c.xMin ++ s16 c.xMax ++ u32 c.yMax.toNat
      ++ s16 c.endDx ++ u32 c.endDy.toNat ++ flag c.continuous ++ u8 r.useCount))

/-- PATTERN_BEGIN (R6, R7). -/
def execPatternBegin (tag slot areaCount : Byte) (startX pitch : BitVec 16) (initialBars : Byte) (s : State) :
    Host.Outcome State Fault Refusal :=
  finish (request 0x06 tag (decidePatternBegin slot areaCount startX pitch initialBars) s)

/-- PATTERN_ADD (R8, R9). -/
def execPatternAdd (tag slot : Byte) (records : List (BitVec 64)) (s : State) : Host.Outcome State Fault Refusal :=
  finish (request 0x07 tag (decidePatternAdd slot records) s)

/-- PATTERN_END (R10 to R12). -/
def execPatternEnd (tag slot : Byte) (s : State) : Host.Outcome State Fault Refusal :=
  finish (request 0x08 tag (decidePatternEnd slot) s)

/-- PATTERN_ERASE (R14). -/
def execPatternErase (tag slot : Byte) (s : State) : Host.Outcome State Fault Refusal :=
  finish (request 0x09 tag (decidePatternErase slot) s)

/-- PATTERN_INFO (R15). -/
def execPatternInfo (tag slot : Byte) (s : State) : Host.Outcome State Fault Refusal :=
  finish (request 0x0A tag (decidePatternInfo slot) s)

end Sys2Proof.Machine
end

