-- ==== Sys2Proof/Machine/Planner.lean ====
section
/-! DEFINITION. The Stitch Planner (chapter 3): the arithmetic of a STITCH segment, ceilings, the configuration
guard, and the expansion of the ACTIVE order one record at a time into the Plan Queue. -/

namespace Sys2Proof.Machine

/-! ## Per-stitch arithmetic (section 3.4) -/

/-- The greatest root below 2^k above `acc` whose square does not exceed `n`, found bit by bit. -/
def rootBits (n : Nat) : Nat → Nat → Nat
  | 0, acc => acc
  | k + 1, acc => rootBits n k (if (acc + 2 ^ k) * (acc + 2 ^ k) ≤ n then acc + 2 ^ k else acc)

/-- The greatest integer whose square does not exceed `n`, for every `n` below 2^32 (R56: S is at most 105,760,000). -/
def floorRoot (n : Nat) : Nat := rootBits n 16 0

/-- The length D (R56): the square root of dx² + dy² rounded to the nearest integer. -/
def stitchLength (dx dy : Int) : Nat :=
  let sq := mag dx * mag dx + mag dy * mag dy
  let d := floorRoot sq
  if d < sq - d * d then d + 1 else d

/-- The stitch count N (R57). -/
def stitchCount (dx dy : Int) (len capX capY : Nat) : Nat :=
  max 1 (max (ceilDiv (stitchLength dx dy) len) (max (ceilDiv (mag dx) capX) (ceilDiv (mag dy) capY)))

/-- The target of stitch i on one axis (R58): the nearest point, ties away from zero. -/
def stitchTarget (d : Int) (n i : Nat) : Int :=
  let t : Int := ((2 * i * mag d + n) / (2 * n) : Nat)
  if d < 0 then -t else t

/-- The step of stitch i on one axis (R59). -/
def stitchStep (d : Int) (n i : Nat) : Int := stitchTarget d n i - stitchTarget d n (i - 1)

/-! ## Ceilings (section 3.5) -/

/-- The threshold T of one axis (R60), in µs; 0 for a zero step. -/
def axisThreshold (step : Int) (k imin width : Nat) : Nat :=
  if step = 0 then 0 else ceilDiv (mag step * k * imin * 32768) (7 * width)

/-- The ceiling of a step (R60) under the cursor's cap. -/
def ceilingOf (p : Params) (width cap : Nat) (stepX stepY : Int) : Nat :=
  let t := max (axisThreshold stepX p.kX p.iminX width) (axisThreshold stepY p.kY p.iminY width)
  let c := if t = 0 then p.lineMax else min p.lineMax (60000000 / t)
  if cap = 0 then c else min c (max cap p.creep)

/-- The full-cap ceiling of one axis (R61). -/
def fullCapCeiling (cap k imin width : Nat) : Nat := 60000000 / ceilDiv (cap * k * imin * 32768) (7 * width)

/-- The configuration guard (R61): none when it holds; 0 when creep exceeds line_max or the X axis fails, 1 when only
the Y axis fails. R61 ranks the failures nowhere: with creep above line_max the axis is 0, the Y axis failing or not, and
X is named where both axes fail (the model's choice, log 22). -/
def guardFault (p : Params) (width : Nat) : Option Nat :=
  if p.lineMax < p.creep then some 0
  else if fullCapCeiling p.capX p.kX p.iminX width < p.creep then some 0
  else if fullCapCeiling p.capY p.kY p.iminY width < p.creep then some 1
  else Option.none

/-! ## Expansion (section 3.3) -/

/-- What the expansion of an order reads besides the cursor: the parameters, the window width most recently accepted
(R60), the slot's record, and the slot's segment at the cursor. -/
structure PlanContext where
  params : Params
  width : Nat
  slot : Slot
  segment : Option Segment
deriving DecidableEq, Repr

/-- The stitch reference of the record the cursor makes next (R43). -/
def Cursor.ref (c : Cursor) : Ref := ⟨c.order.orderId, c.repeatNo, c.segment, c.place⟩

/-- The masked initial bar set (R45). -/
def Cursor.initial (c : Cursor) (k : PlanContext) : BarSet := k.slot.initialBars.inter c.order.barMask

/-- A TACK record made at the cursor (R50). -/
def Cursor.tack (c : Cursor) (k : PlanContext) (last : Bool) : PlanRecord :=
  .tack ⟨0, 0, c.bars, ceilingOf k.params k.width c.cap 0 0, c.ref⟩ last

/-- A STITCH record made at the cursor (R55, R59): stitch index `place` is stitch place + 1 of N. -/
def Cursor.stitch (c : Cursor) (k : PlanContext) (dx dy : Int) (n : Nat) : PlanRecord :=
  let sx := stitchStep dx n (c.place + 1)
  let sy := stitchStep dy n (c.place + 1)
  .stitch ⟨sx, sy, c.bars, ceilingOf k.params k.width c.cap sx sy, c.ref⟩ (decide (c.place + 1 = n))

/-- The number of records of the group the cursor stands in (R47, R49, R51 to R53). The sets of R52 are compared at the
group's beginning: the change in it makes them equal. -/
def Cursor.groupSize (c : Cursor) (k : PlanContext) : Nat :=
  match c.stage with
  | .opening => if c.order.onMark then 3 else 2
  | .repeating =>
    match k.segment with
    | Option.none => 0
    | some (.stitch dx dy len) =>
      if c.place = 0 then
        stitchCount dx dy (if len = 0 then c.order.stitchLen else len) k.params.capX k.params.capY
      else c.nStitch
    | some (.jump _ _) => 2 * c.order.tack + 1
    | some (.bars _) => 2 * c.order.tack + 1
    | some (.speed _) => 0
    | some (.tack n) => n
  | .between =>
    if !c.atClose.continuous then 2 * c.order.tack + 2
    else if c.place = 0 ∧ c.bars = c.initial k then 0
    else 2 * c.order.tack + 1
  | .closing => c.order.tack + 3
  | .finished => 0

/-- The record at the cursor's place of its group (R47, R49 to R53). A LEAD_IN carries its target and no step_x until its
move begins (R48): the 0 in that place is never read (the model's choice, log 21). -/
def Cursor.record (c : Cursor) (k : PlanContext) : PlanRecord :=
  let t := c.order.tack
  match c.stage with
  | .opening =>
    if c.order.onMark ∧ c.place = 0 then .feed .markSearch 0 0 c.ref
    else if c.place + 2 = c.groupSize k then
      .feed (.leadIn (k.slot.startX + c.order.xOffset)) 0 c.order.leadIn c.ref
    else .barChange (c.initial k) c.ref
  | .repeating =>
    match k.segment with
    | some (.stitch dx dy _) => c.stitch k dx dy (c.groupSize k)
    | some (.jump dx dy) =>
      if c.place = t then .feed .jump dx dy c.ref else c.tack k (decide (c.place = 2 * t))
    | some (.bars set) =>
      if c.place = t then .barChange (set.inter c.order.barMask) c.ref else c.tack k (decide (c.place = 2 * t))
    | some (.tack n) => c.tack k (decide (c.place + 1 = n))
    | some (.speed _) => .endMark c.ref
    | Option.none => .endMark c.ref
  | .between =>
    if !c.atClose.continuous then
      if c.place = t then .feed .join (-c.atClose.endDx) (k.slot.pitch - c.atClose.endDy) c.ref
      else if c.place = t + 1 then .barChange (c.initial k) c.ref
      else c.tack k (decide (c.place = 2 * t + 1))
    else if c.place = t then .barChange (c.initial k) c.ref
    else c.tack k (decide (c.place = 2 * t))
  | .closing =>
    if c.place < t then c.tack k (decide (c.place + 1 = t))
    else if c.place = t then .feed .leadOut 0 c.order.leadOut c.ref
    else if c.place = t + 1 then .endMark c.ref
    else .feed .gap 0 c.order.gap c.ref
  | .finished => .endMark c.ref

/-- The cursor after a segment's group is done (R46, R49): the next segment, or at the walk's end the cap lifted and the
stage BETWEEN, or CLOSING after the last repeat. -/
def Cursor.afterSegment (c : Cursor) (segmentCount : Nat) : Cursor :=
  let c' := { c with segment := c.segment + 1, place := 0 }
  if c'.segment < segmentCount then c'
  else { c' with cap := 0, stage := if c.repeatNo < c.order.repeats then .between else .closing }

/-- The cursor after its group is done. In stage FINISHED no next record carries a place or a segment
index, and R42 names neither: the place stands at 0 there and the segment index stays at segment_count, as in CLOSING
(the model's choice, log 21). -/
def Cursor.nextGroup (c : Cursor) (k : PlanContext) : Cursor :=
  match c.stage with
  | .opening => { c with stage := .repeating, repeatNo := 1, segment := 0, place := 0 }
  | .repeating => c.afterSegment k.slot.segmentCount
  | .between => { c with stage := .repeating, repeatNo := c.repeatNo + 1, segment := 0, place := 0 }
  | .closing => { c with stage := .finished, place := 0 }
  | .finished => c

/-- The cursor after the record at its place is appended: the bars of a BAR_CHANGE (R45), N of a STITCH segment (R55),
the next place or the next group. After the last record of its segment n_stitch keeps that N, for which R42 gives no value
(the model's choice, log 21). -/
def Cursor.advance (c : Cursor) (k : PlanContext) : Cursor :=
  let bars' := match c.record k with
    | .barChange t _ => t
    | _ => c.bars
  let n' := match c.stage, k.segment with
    | .repeating, some (.stitch _ _ _) => c.groupSize k
    | _, _ => c.nStitch
  let c' := { c with bars := bars', nStitch := n' }
  if c.place + 1 < c.groupSize k then { c' with place := c.place + 1 } else c'.nextGroup k

/-- Pass over a group that makes no record: a SPEED segment, which sets the cap (R46), or the between-repeats group of a
continuous pattern whose sets agree (R52). The cursor stands at either, STATUS showing stage BETWEEN at the second, until
the next record is planned (the model's choice, log 21). -/
def Cursor.pass (c : Cursor) (k : PlanContext) : Cursor :=
  match c.stage, k.segment with
  | .repeating, some (.speed cap) => { c with cap := cap }.nextGroup k
  | _, _ => c.nextGroup k

/-- The context of a cursor in a state. -/
def State.planContext (s : State) (c : Cursor) : PlanContext :=
  { params := s.params, width := s.shaft.accepted.width, slot := s.store.slot c.order.slot
    segment := s.store.segment c.order.slot c.segment }

/-- Plan the next record from a cursor (R41): pass over groups that make none, at most `fuel` of them, then make one. -/
def planNext (s : State) : Nat → Cursor → Option (PlanRecord × Cursor)
  | 0, _ => Option.none
  | fuel + 1, c =>
    let k := s.planContext c
    if c.stage = .finished then Option.none
    else if c.groupSize k = 0 then planNext s fuel (c.pass k)
    else some (c.record k, c.advance k)

/-- More groups than can stand without a record between two records: the SPEED segments of the end of one repeat and of
the beginning of the next, at most 4096 each, and the between-repeats group. -/
def planFuel : Nat := 8200

/-- Append one record when the queue has room and the cursor has a record left (R41). -/
def appendRecord (s : State) : State :=
  match s.planner.cursor with
  | Option.none => s
  | some c =>
    if Config.queueCapacity ≤ s.planner.queue.length then s
    else
      match planNext s planFuel c with
      | Option.none => s
      | some (r, c') =>
        { s with planner := { s.planner with queue := s.planner.queue ++ [r], cursor := some c' } }

/-- Append up to `n` records (R41). -/
def appendRecords : Nat → State → State
  | 0, s => s
  | n + 1, s => appendRecords n (appendRecord s)

/-- The cursor at the take of an order (R42). n_stitch has no value yet; 1 stands for it (log 21). -/
def Cursor.start (o : OrderSpec) (r : Slot) : Cursor :=
  { order := o, atClose := r.atClose, stage := .opening, repeatNo := 0, segment := 0, place := 0, nStitch := 1, cap := 0
    bars := r.initialBars.inter o.barMask }

/-- Flush the Plan Queue and make the cursor absent (R40). -/
def flushPlan (s : State) : State := { s with planner := Planner.reset }

end Sys2Proof.Machine
end

