-- ==== Sys2Proof/Machine/Governor.lean ====
section
/-! DEFINITION. The Speed Governor (chapter 5): the demand, the drive, lock, parking, stopping at once, replay demand. -/

namespace Sys2Proof.Machine

/-! ## The demand (section 5.2) -/

/-- The ceilings of the STITCH and TACK records ahead of the first stop-type record (R87). -/
def ceilingsAhead : List PlanRecord → List Nat
  | [] => []
  | r :: rest =>
    match r.stitch? with
    | some (t, _) => t.ceiling :: ceilingsAhead rest
    | Option.none => []

/-- The least of a base value and a list. -/
def leastOf (base : Nat) (xs : List Nat) : Nat := xs.foldl min base

/-- The limit (R87). -/
def limitOf (s : State) : Nat :=
  let order := match s.schedule.activeOrder with
    | some o => [o.spec.speedLimit]
    | Option.none => []
  let cap := match s.planner.cursor with
    | some c => if c.cap = 0 then [] else [c.cap]
    | Option.none => []
  leastOf s.params.lineMax (order ++ cap ++ ceilingsAhead s.planner.queue)

/-- Whether one of the first decel_depth positions ahead of the needles holds a stop-type record or is empty (R88); the
replay stitches not yet formed stand first. -/
def stopAhead (s : State) : Bool :=
  let replayed := s.gov.replayCeilings.length
  (List.range s.params.decelDepth).any fun i =>
    decide (replayed ≤ i) && ((s.planner.queue[i - replayed]?).map PlanRecord.isStop).getD true

/-- The demand (R87, R88). -/
def demandOf (s : State) : Nat :=
  if s.gov.state = .halted ∨ s.line.faults.atOnce then 0
  else
    let limit := limitOf s
    let slowed := fun base => if stopAhead s then min (min base limit) s.params.creep else min base limit
    match s.gov.purpose with
    | some .stitching => slowed limit
    | some .replay => slowed (leastOf s.params.resumeSpeed s.gov.replayCeilings)
    | some .jog => min s.params.creep limit
    | some .park => min s.params.creep limit
    | Option.none => 0

/-- Recompute the demand (R89). -/
def recompute (s : State) : State := { s with gov := { s.gov with demand := demandOf s } }

/-- The duty in per mille of line_max (R84), a half rounded up, clamped to 1000. -/
def dutyOf (applied lineMax : Nat) : Nat := min 1000 ((2 * applied * 1000 + lineMax) / (2 * lineMax))

/-! ## Holding and releasing the drive -/

/-- Hold the drive and become HALTED with purpose none (R91, R96). -/
def haltGov (s : State) : State :=
  { s with gov := { s.gov with
      state := .halted, purpose := Option.none, released := false, demand := 0, applied := 0
      armed := false, braked := false, replayCeilings := [] } }

/-- Stop at once (R98): hold the drive, counts 0, every park, jog or replay abandoned. -/
def stopAtOnce (s : State) : State :=
  let h := haltGov s
  { h with gov := { h.gov with inTol := 0, outTol := 0, settled := 0, armCount := 0 } }

/-- Recompute the demand, release the drive and let the applied demand take the demand at once, with the lock counts
set to 0 (R89, R90, R93). -/
def releaseDrive (s : State) : State :=
  let r := recompute s
  { r with gov := { r.gov with
      released := true, applied := r.gov.demand, inTol := 0, outTol := 0, settled := 0, armCount := 0 } }

/-- A start order (R90, R97) with its purpose and, for REPLAY, the ceilings of the replay list (R99). The lock counts run
on as it cancels a park that is not braked, so a RAMPING Governor can have an in-tolerance count of 3 (log 40). -/
def startOrder (purpose : Purpose) (ceilings : List Nat) (s : State) : State :=
  if s.line.faults.atOnce then s
  else
    let set := fun (st : GovState) =>
      { s with gov := { s.gov with
          state := st, purpose := some purpose, replayCeilings := ceilings, armed := false, braked := false } }
    match s.gov.state with
    | .halted => releaseDrive (set .ramping)
    | .ramping => recompute (set .ramping)
    | .locked => recompute (set .locked)
    | .parking => if s.gov.released then recompute (set .ramping) else releaseDrive (set .ramping)

/-- Jog begin (R91). -/
def jogBegin (s : State) : State :=
  if s.line.faults.atOnce ∨ s.gov.state ≠ .halted then s
  else releaseDrive { s with gov := { s.gov with state := .ramping, purpose := some .jog } }

/-- Jog end (R91). -/
def jogEnd (s : State) : State := if s.gov.purpose = some .jog then haltGov s else s

/-! ## Parking (section 5.5) -/

/-- A park order (R94). The flag says that the park is done at once. Of the revolutions judged before an order that finds
the shaft turning, those judged at the park speed count toward its arming (R95; log 13). With an AT_ONCE source latched the order is
answered by the report or not at all (R98), and the attempt count stands as it is (the model's choice, log 44). -/
def parkOrder (s : State) : State × Bool :=
  if s.gov.state = .parking then (s, false)
  else if s.line.faults.atOnce then (s, s.shaft.parked)
  else
    let set := fun (st : GovState) (purpose : Option Purpose) (armed : Bool) =>
      { s with gov := { s.gov with
          state := st, purpose := purpose, attempts := 1, armed := armed, braked := false, replayCeilings := [] } }
    match s.gov.state with
    | .halted =>
      if s.shaft.parked then (set .halted Option.none false, true)
      else (releaseDrive (set .parking (some .park) true), false)
    | _ =>
      let r := recompute (set .parking (some .park) false)
      ({ r with gov := { r.gov with armCount := if r.gov.applied = r.gov.demand then r.gov.settled else 0 } }, false)

/-- STOP_ANGLE at the Governor (R95). -/
def stopAngleGov (s : State) : State :=
  if s.gov.state = .parking ∧ s.gov.armed ∧ ¬ s.gov.braked then
    { s with gov := { s.gov with released := false, applied := 0, braked := true } }
  else s

/-- What the stopped event found in the Governor. -/
inductive ParkReport where
  | nothing
  | parkDone
  | parkFault
deriving DecidableEq, Repr

/-- The stopped event at the Governor: a park is judged (R96); a RAMPING or LOCKED Governor loses its lock (R93). -/
def stoppedGov (s : State) : State × ParkReport :=
  match s.gov.state with
  | .halted => (s, .nothing)
  | .parking =>
    if s.shaft.angleValid ∧ s.shaft.insideActive then (haltGov s, .parkDone)
    else if s.gov.attempts < 3 then
      (releaseDrive { s with gov := { s.gov with attempts := s.gov.attempts + 1, armed := true, braked := false } },
        .nothing)
    else (haltGov s, .parkFault)
  | _ =>
    ({ s with gov := { s.gov with state := .ramping, inTol := 0, outTol := 0, settled := 0, armCount := 0 } }, .nothing)

/-! ## Lock (section 5.4) -/

/-- The lock judgement of a closing revolution (R92): made at an index with a newly measured period, against the applied
demand in force over that revolution. A RAMPING Governor whose count stood at 3 already, as a cancelled park can leave it,
locks at its next in-tolerance revolution (the model's choice, log 40). -/
def judgeLock (s : State) : State :=
  let g := s.gov
  let diff := mag ((s.shaft.speed : Int) - (g.applied : Int))
  if diff ≤ s.params.lockTol then
    let n := min 3 (g.inTol + 1)
    { s with gov := { g with
        inTol := n, outTol := 0, settled := min 3 (g.settled + 1), armCount := min 3 (g.armCount + 1)
        state := if g.state = .ramping ∧ n = 3 then .locked else g.state } }
  else
    let n := min 2 (g.outTol + 1)
    { s with gov := { g with
        inTol := 0, outTol := n, settled := 0, armCount := 0
        state := if g.state = .locked ∧ n = 2 then .ramping else g.state } }

/-- The applied demand takes the current demand (R89, R93): a change of more than lock_tol restarts the lock. -/
def applyDemand (s : State) : State :=
  let g := s.gov
  let moved := mag ((g.demand : Int) - (g.applied : Int))
  if s.params.lockTol < moved then
    { s with gov := { g with
        applied := g.demand, inTol := 0, outTol := 0, settled := 0, armCount := 0
        state := if g.state = .locked then .ramping else g.state } }
  else { s with gov := { g with applied := g.demand, settled := if g.demand = g.applied then g.settled else 0 } }

/-- Arm a park attempt (R95): the applied demand is the park speed, the in-tolerance count is 3, and three of its
revolutions count toward the arming: any judged since the park began, and those judged before it at the park speed
(log 13). -/
def armPark (s : State) : State :=
  if s.gov.state = .parking ∧ s.gov.released ∧ ¬ s.gov.armed ∧ s.gov.applied = s.gov.demand ∧ s.gov.inTol = 3
      ∧ s.gov.armCount = 3 then
    { s with gov := { s.gov with armed := true } }
  else s

/-- An index delivered to the Governor (R89, R92, R93, R95). -/
def indexGov (measured : Bool) (s : State) : State :=
  let r := recompute s
  if r.gov.released then
    armPark (applyDemand (if measured then judgeLock r else r))
  else r

/-! ## Replay (section 5.7) and the PWM output -/

/-- A replay stitch was formed (R99): its ceiling leaves the list, and an empty list makes the purpose STITCHING. -/
def replayFormed (s : State) : State :=
  let rest := s.gov.replayCeilings.tail
  recompute { s with gov := { s.gov with
    replayCeilings := rest
    purpose := if s.gov.purpose = some .replay ∧ rest = [] then some .stitching else s.gov.purpose } }

/-- DEMAND_PWM_PERIOD (R84): the new period takes the current duty. -/
def execDemandPwmPeriod (s : State) : Host.Outcome State Fault Refusal :=
  finish (live (fun s => { s with gov := { s.gov with pwmDuty := dutyOf s.gov.applied s.params.lineMax } }) s)

end Sys2Proof.Machine
end

