-- ==== Sys2Proof/Machine/Needles.lean ====
section
/-! DEFINITION. The Needle Table operations of the Thread Monitor (sections 8.3, 8.4 and 8.6) that other blocks cause. -/

namespace Sys2Proof.Machine

/-- The bar of a needle number (00_scope.md: needle = bar × 32 + position). -/
def needleBar (i : Nat) : Bar := if i < 32 then .b0 else if i < 64 then .b1 else .b2

/-- A bar reaches DOWN (R138): its fitted needles that are not BROKEN enter GRACE. -/
def needleBarDown (grace : Nat) (st : NeedleState) : NeedleState :=
  match st with
  | .unused => .unused
  | .broken m r => .broken m r
  | _ => .grace grace

/-- A bar leaves DOWN (R138): its GRACE and ARMED needles become IDLE. -/
def needleBarLeft (st : NeedleState) : NeedleState :=
  match st with
  | .grace _ => .idle
  | .armed _ => .idle
  | other => other

/-- Change the needles of one bar. -/
def mapBarNeedles (b : Bar) (f : NeedleState → NeedleState) (xs : List NeedleState) : List NeedleState :=
  xs.mapIdx fun i st => if needleBar i = b then f st else st

/-- The hand-off "bar b has reached DOWN" (R131, R138). -/
def barReachedDown (b : Bar) (s : State) : State :=
  { s with monitor := { s.monitor with needles := mapBarNeedles b (needleBarDown s.params.grace) s.monitor.needles } }

/-- The hand-off "bar b has left DOWN" (R131, R138). -/
def barLeftDown (b : Bar) (s : State) : State :=
  { s with monitor := { s.monitor with needles := mapBarNeedles b needleBarLeft s.monitor.needles } }

/-- Needles whose fitted flag changed are re-initialized (R137). -/
def refitNeedles (old new : Params) (engaged : BarSet) (xs : List NeedleState) : List NeedleState :=
  xs.mapIdx fun i st =>
    if old.fitted i = new.fitted i then st
    else if new.fitted i then (if engaged.mem (needleBar i) then .grace new.grace else .idle)
    else .unused

/-- CLEAR_FAULTS resets every BROKEN needle (R142). -/
def clearBroken (s : State) : State :=
  { s with monitor := { s.monitor with needles := s.monitor.needles.mapIdx fun i st =>
      match st with
      | .broken _ _ => if s.bars.engaged.mem (needleBar i) then .grace s.params.grace else .idle
      | other => other } }

/-- A stitch-forming burst has completed (R139): with a non-empty engaged set the pending stitch takes it. -/
def monitorBurst (ref : Ref) (source : StitchSource) (s : State) : State :=
  if s.bars.engaged.isEmpty then s
  else { s with monitor := { s.monitor with pendingStitch := some ⟨ref, source⟩ } }

/-- Replay begin (R139): the suppression count is set to grace. -/
def replayBegin (s : State) : State := { s with monitor := { s.monitor with suppress := s.params.grace } }

/-- WINDOW_CLOSE at the Thread Monitor (R139): a pending stitch becomes the formed stitch. -/
def monitorClose (s : State) : State :=
  match s.monitor.pendingStitch with
  | Option.none => s
  | some p => { s with monitor := { s.monitor with formedStitch := some p, pendingStitch := Option.none } }

/-- The stopped event at the Thread Monitor (R135, R139). -/
def monitorStopped (s : State) : State :=
  { s with monitor := { s.monitor with formedStitch := Option.none, scanFault := false, seen := 0 } }

/-- The result of judging one needle (R140, R141): its new state. -/
def judgeNeedle (breakLimit : Nat) (ref : Ref) (seen : Bool) (st : NeedleState) : NeedleState :=
  match st with
  | .grace left => if left ≤ 1 then .armed 0 else .grace (left - 1)
  | .armed miss =>
    if seen then .armed 0
    else if breakLimit ≤ miss + 1 then .broken (miss + 1) ref
    else .armed (miss + 1)
  | other => other

/-- Whether judging a needle declares it broken. -/
def judgedBroken (breakLimit : Nat) (seen : Bool) (st : NeedleState) : Bool :=
  match st with
  | .armed miss => !seen && decide (breakLimit ≤ miss + 1)
  | _ => false

/-- Whether a WINDOW_OPEN is an evaluation occasion (R139). -/
def State.occasion (s : State) : Bool :=
  s.monitor.formedStitch.isSome && !s.monitor.scanFault
  && (decide (s.line.effective = .running) || decide (s.line.effective = .stopping))

/-- Whether the occasion is suppressed (R139). -/
def State.suppressed (s : State) : Bool :=
  decide ((s.monitor.formedStitch.map FormedStitch.source) = some .replay) && decide (0 < s.monitor.suppress)

/-- The numbers of the needles an evaluation now would declare broken, lowest first. -/
def State.breaks (s : State) : List Nat :=
  (List.range s.monitor.needles.length).filter fun i =>
    s.bars.engaged.mem (needleBar i)
    && judgedBroken s.params.breakLimit (s.monitor.seen.getLsbD i) (s.monitor.needles.getD i .unused)

/-- Judge every needle of the engaged set's bars (R140). -/
def judgeNeedles (ref : Ref) (s : State) : List NeedleState :=
  s.monitor.needles.mapIdx fun i st =>
    if s.bars.engaged.mem (needleBar i) then judgeNeedle s.params.breakLimit ref (s.monitor.seen.getLsbD i) st else st

end Sys2Proof.Machine
end

