-- ==== Sys2Proof/Machine/Bars.lean ====
section
/-! DEFINITION. The Needle Bar Unit (chapter 7): the valve sequence of a bar, changes of the set of lowered bars, the
emergency stop. -/

namespace Sys2Proof.Machine

/-- Replace a bar's record. -/
def Bars.put (u : Bars) (b : Bar) (r : BarRec) : Bars :=
  match b with
  | .b0 => { u with b0 := r }
  | .b1 => { u with b1 := r }
  | .b2 => { u with b2 := r }

/-- The three bars. -/
def Bar.all : List Bar := [.b0, .b1, .b2]

/-- The target state of a bar under a target set (R124). -/
def targetState (down : Bool) : BarState := if down then .down else .up

/-- The state of a bar moving toward a target (R124 step 1). -/
def movingState (down : Bool) : BarState := if down then .lowering else .raising

/-- Whether the target valve is energized. -/
def BarRec.targetValve (r : BarRec) (down : Bool) : Bool := if down then r.vlo else r.vra

/-- Held at a target state (R122): the bar stands there with its target valve energized. -/
def BarRec.heldAt (r : BarRec) (down : Bool) : Bool := decide (r.state = targetState down) && r.targetValve down

/-- Write a bar's record and give the Thread Monitor the hand-off when the bar reaches or leaves DOWN (R131). -/
def setBar (b : Bar) (r : BarRec) (s : State) : State :=
  let was := decide ((s.bars.get b).state = .down)
  let is := decide (r.state = .down)
  let s' := { s with bars := s.bars.put b r }
  if is && !was then barReachedDown b s' else if was && !is then barLeftDown b s' else s'

/-- The state the inputs of a released bar show (R123). -/
def judgedState (bup bdn : Bool) : BarState := if bup && !bdn then .up else if bdn && !bup then .down else .unknown

/-- The target confirmation input is asserted alone (R125). -/
def confirmed (down bup bdn : Bool) : Bool := if down then bdn && !bup else bup && !bdn

/-- Confirm a bar in LOWERING or RAISING whose target valve is energized, when its inputs show the target (R125). -/
def confirmBar (b : Bar) (s : State) : State :=
  let r := s.bars.get b
  let try' := fun (down : Bool) =>
    if r.targetValve down ∧ confirmed down (s.pins.bup.mem b) (s.pins.bdn.mem b) then
      setBar b { r with state := targetState down, timer := .idle, timedOut := false } s
    else s
  match r.state with
  | .lowering => try' true
  | .raising => try' false
  | _ => s

/-- Energize the target valve of a moving bar and start its bar_timeout (R124 steps 3 and 4), then judge its inputs
(R125). -/
def energizeBar (b : Bar) (s : State) : State :=
  let r := s.bars.get b
  match r.state with
  | .lowering => confirmBar b (setBar b { r with vlo := true, timer := .confirm s.params.barTimeout } s)
  | .raising => confirmBar b (setBar b { r with vra := true, timer := .confirm s.params.barTimeout } s)
  | _ => s

/-- Start a bar's sequence at step 1 (R124): the opposite valve off, the bar moving, the dead time running; a dead time of
0 energizes at once. -/
def startBarSequence (b : Bar) (down : Bool) (s : State) : State :=
  let r := s.bars.get b
  let r' : BarRec :=
    { state := movingState down, vlo := if down then r.vlo else false, vra := if down then false else r.vra
      released := false, timedOut := false, timer := .deadTime s.params.deadTime }
  let s' := setBar b r' s
  if s.params.deadTime = 0 then energizeBar b s' else s'

/-- Whether a timer runs the dead time. -/
def BarTimer.isDead : BarTimer → Bool
  | .deadTime _ => true
  | _ => false

/-- Judge a bar as a change begins (R124). -/
def beginBar (b : Bar) (down : Bool) (s : State) : State :=
  let r := s.bars.get b
  if r.heldAt down then s
  else if r.state = movingState down ∧ r.targetValve down then
    setBar b { r with timer := .confirm s.params.barTimeout, timedOut := false } s
  else if r.state = movingState down ∧ r.timer.isDead then s
  else startBarSequence b down s

/-- The bars a change moves: all three, or the named bar of a forced move (R124, R129). -/
def ChangeKind.bars : ChangeKind → List Bar
  | .record => Bar.all
  | .restore => Bar.all
  | .force b => [b]

/-- Whether every bar of a change is complete (R125): held at its target. -/
def changeComplete (c : Change) (u : Bars) : Bool := c.kind.bars.all fun b => (u.get b).heldAt (c.target.mem b)

/-- Judge every bar of a change (R124). -/
def beginBars (c : Change) (s : State) : State :=
  c.kind.bars.foldl (fun s b => beginBar b (c.target.mem b) s) s

/-- Take a change in hand (R124): while the shaft turns it waits and touches no valve. -/
def beginChange (kind : ChangeKind) (target : BarSet) (s : State) : State :=
  if s.shaft.stopped then
    beginBars ⟨kind, target, false⟩ { s with bars := { s.bars with change := some ⟨kind, target, false⟩ } }
  else { s with bars := { s.bars with change := some ⟨kind, target, true⟩ } }

/-- The change in hand has its bars complete and is not waiting. -/
def State.changeDone (s : State) : Bool :=
  match s.bars.change with
  | some c => !c.waiting && changeComplete c s.bars
  | Option.none => false

/-- A change in hand waits for the shaft to stop (R124). -/
def State.changeWaits (s : State) : Bool :=
  match s.bars.change with
  | some c => c.waiting
  | Option.none => false

/-- No change in hand. -/
def dropChange (s : State) : State := { s with bars := { s.bars with change := Option.none } }

/-- Ask for a restore to a target (R128). The flag says that it is done at once. A request takes over the restore in
hand. R128 does not speak of another change in hand: a forced move left from THREADING, and a record change still in hand that
step 2 or 4 of R148 meets before step 6 would begin it again, are replaced too (the model's choice, log 42). -/
def askRestore (target : BarSet) (s : State) : State × Bool :=
  if changeComplete ⟨.restore, target, false⟩ s.bars then (dropChange s, true)
  else
    let s' := beginChange .restore target s
    if s'.changeDone then (dropChange s', true) else (s', false)

/-- A bar still moving without a timer, its valves as they are (R126, R127; log 42). -/
def stopBarTimer (r : BarRec) : BarRec := { r with timer := .idle }

/-- ABORT_PANEL ends a record or restore change in hand (R127, R128): moving bars keep valve and state without a timer;
a forced move is not ended (R165). -/
def abortChange (s : State) : State :=
  match s.bars.change with
  | Option.none => s
  | some c =>
    match c.kind with
    | .force _ => s
    | _ => { s with bars :=
        { b0 := stopBarTimer s.bars.b0, b1 := stopBarTimer s.bars.b1, b2 := stopBarTimer s.bars.b2
          change := Option.none } }

/-- Release a bar (R130): both valves off, timer idle, timed_out false, its state judged from its inputs. -/
def releaseBar (b : Bar) (s : State) : State :=
  setBar b (BarRec.released0 (judgedState (s.pins.bup.mem b) (s.pins.bdn.mem b))) s

/-- The assertion of ESTOP at the Needle Bar Unit (R130). -/
def estopBars (s : State) : State := dropChange (releaseBar .b2 (releaseBar .b1 (releaseBar .b0 s)))

end Sys2Proof.Machine
end

