-- ==== Sys2Proof/Machine/Schedule.lean ====
section
/-! DEFINITION. The Panel Schedule (chapter 2): admission, cancellation, taking and ending orders, phase and progress,
QUEUE_LOW, and the removal of the head of the Plan Queue that every executing block makes (R37). -/

namespace Sys2Proof.Machine

/-! ## Shared operations -/

/-- Change the ACTIVE order's record. -/
def setActive (f : Order → Order) (s : State) : State :=
  { s with schedule := { s.schedule with
      orders := s.schedule.orders.map fun o => if o.state = .active then f o else o } }

/-- A use_count raised by an admission (R16). -/
def Store.countUse (t : Store) (i : Nat) : Store :=
  t.setSlot i { t.slot i with useCount := (t.slot i).useCount + 1 }

/-- A use_count lowered as an order leaves (R16). -/
def Store.dropUse (t : Store) (i : Nat) : Store :=
  t.setSlot i { t.slot i with useCount := (t.slot i).useCount - 1 }

/-- Judge QUEUE_LOW after q changed from `before` (R34). -/
def judgeQueue (before : Nat) (s : State) : State :=
  let q := s.schedule.queuedCount
  let low := s.params.lowWater
  if before < q then
    if low < q then { s with schedule := { s.schedule with armed := true } } else s
  else if low < before ∧ q ≤ low ∧ s.schedule.armed then
    raiseNotice (.queueLow q low) { s with schedule := { s.schedule with armed := false } }
  else s

/-- An order's record as it becomes ACTIVE (R27). -/
def Order.taken (o : Order) : Order :=
  { o with
    state := .active, phase := if o.spec.onMark then .markSearch else .leadIn
    currentRepeat := 0, stitchesExecuted := 0, started := false }

/-- Hand an order to the Stitch Planner (R27, R41, R42): the cursor is set and up to eight records are appended. -/
def handToPlanner (o : OrderSpec) (s : State) : State :=
  recompute (appendRecords Config.queueCapacity
    { s with planner := { s.planner with
        cursor := some (Cursor.start o (s.store.slot o.slot)), headBegun := false } })

/-- Take the head QUEUED order when none is ACTIVE (R27). -/
def takeNext (s : State) : State :=
  if s.orderActive then s
  else
    match s.schedule.orders with
    | [] => s
    | o :: rest =>
      let t := { s with schedule := { s.schedule with orders := o.taken :: rest } }
      judgeQueue s.schedule.queuedCount (handToPlanner o.spec t)

/-- End the ACTIVE order (R32, R33): it leaves, its slot's use_count falls, PANEL_DONE, the demand is recomputed without the
order's limits (5.2; log 41), the next order is taken. -/
def endOrder (outcome : PanelOutcome) (s : State) : State :=
  match s.schedule.activeOrder with
  | Option.none => s
  | some o =>
    takeNext (recompute (raiseNotice (.panelDone o.spec.orderId o.spec.slot outcome o.stitchesExecuted)
      { s with
        schedule := { s.schedule with orders := s.schedule.orders.filter fun x => decide (x.state ≠ .active) }
        store := s.store.dropUse o.spec.slot
        planner := { s.planner with cursor := Option.none } }))

/-- Remove the head of the Plan Queue (R37): the Planner appends one record and the Governor recomputes its demand. -/
def removeHead (s : State) : State :=
  recompute (appendRecord { s with planner := { s.planner with queue := s.planner.queue.tail, headBegun := false } })

/-- A head record begins execution for the first time (R29 to R31, R161): phase and current_repeat follow it, and the
order's first record raises PANEL_STARTED and clears the Stitch History. -/
def recordBegun (r : PlanRecord) (s : State) : State :=
  if s.planner.headBegun then s
  else
    let t := { s with planner := { s.planner with headBegun := true } }
    match s.schedule.activeOrder with
    | Option.none => t
    | some o =>
      let u := setActive (fun o => { o with phase := r.phase, currentRepeat := r.ref.repeatNo, started := true }) t
      if o.started then u
      else
        raiseNotice (.panelStarted o.spec.orderId o.spec.slot r.phase)
          { u with line := { u.line with history := [] } }

/-- A STITCH or TACK record has completed (R30): stitches_executed rises by 1 and stays at 65535. -/
def countStitch (s : State) : State :=
  setActive (fun o => { o with stitchesExecuted := min 65535 (o.stitchesExecuted + 1) }) s

/-! ## Requests -/

/-- The index of the first BARS segment whose set has no bar in the mask (R23). -/
def badBarsIndex (mask : BarSet) : Nat → List Segment → Option Nat
  | _, [] => Option.none
  | i, .bars t :: rest => if (t.inter mask).isEmpty then some i else badBarsIndex mask (i + 1) rest
  | i, _ :: rest => badBarsIndex mask (i + 1) rest

/-- Whether an x_offset keeps the pattern of a slot inside the frame (R22). -/
def Slot.offsetFits (r : Slot) (x : Int) : Bool :=
  decide (0 ≤ r.startX + x + r.atClose.xMin) && decide (r.startX + x + r.atClose.xMax ≤ 2400)

/-- Decide an ORDER_ADD (R21 to R24). R20 gives phase, current_repeat, stitches_executed and started to the ACTIVE order
only: in a QUEUED order's record they stand at MARK_SEARCH, 0, 0 and false until its take sets them (R27), and nothing reads
or reports them before (the model's choice, log 47). -/
def decideOrderAdd (o : OrderFields) (s : State) : State × Reply :=
  match OrderFields.fault o with
  | some k => (s, Reply.field k)
  | Option.none =>
    if Config.scheduleCapacity ≤ s.schedule.orders.length then (s, Reply.because .noRoom .none)
    else if s.schedule.orders.any fun x => decide (x.spec.orderId = o.orderId.toNat) then
      (s, Reply.because .duplicate .none)
    else
      let spec := OrderFields.spec o s.params.lineMax
      let r := s.store.slot spec.slot
      if r.state ≠ .ready then (s, Reply.because .notFound .none)
      else if !r.offsetFits spec.xOffset then (s, Reply.field 8)
      else if (r.initialBars.inter spec.barMask).isEmpty then (s, Reply.refusal .badValue 18 0 .initial 0)
      else
        match badBarsIndex spec.barMask 0 (s.store.segments spec.slot) with
        | some k => (s, Reply.refusal .badValue 18 k .none 0)
        | Option.none =>
          let clamped := decide (s.params.lineMax < o.speedLimit.toNat)
          let order : Order :=
            { spec := spec, state := .queued, phase := .markSearch, currentRepeat := 0, stitchesExecuted := 0
              started := false }
          let position := s.schedule.orders.length
          let reply := fun (code : Nat) =>
            Reply.good (u8 code ++ u8 position ++ u16 spec.speedLimit ++ flag clamped)
          let used := s.store.countUse spec.slot
          if s.orderActive then
            (judgeQueue s.schedule.queuedCount
              { s with store := used, schedule := { s.schedule with orders := s.schedule.orders ++ [order] } },
              reply 0)
          else
            (handToPlanner spec
              { s with store := used, schedule := { s.schedule with orders := s.schedule.orders ++ [order.taken] } },
              reply 1)

/-- Decide an ORDER_CANCEL (R26). -/
def decideOrderCancel (id : BitVec 16) (s : State) : State × Reply :=
  if id.toNat = 0 then (s, Reply.field 0)
  else
    match s.schedule.orders.find? fun o => decide (o.spec.orderId = id.toNat) with
    | Option.none => (s, Reply.because .notFound .none)
    | some o =>
      if o.state = .active then (s, Reply.because .inUse .none)
      else
        (judgeQueue s.schedule.queuedCount
          { s with
            store := s.store.dropUse o.spec.slot
            schedule := { s.schedule with
              orders := s.schedule.orders.filter fun x => decide (x.spec.orderId ≠ id.toNat) } },
          Reply.good [])

/-- A panel order record as stored (12 section 12.2). -/
def OrderSpec.bytes (o : OrderSpec) : List Byte :=
  u16 o.orderId ++ u8 o.slot ++ u8 o.repeats ++ u8 o.stitchLen ++ u8 o.tack ++ u16 o.speedLimit ++ s16 o.xOffset
  ++ u16 o.leadIn ++ u16 o.leadOut ++ u16 o.gap ++ flag o.onMark ++ flag o.cut ++ u8 o.barMask.code

/-- A SCHEDULE_LIST entry (12 section 12.1.1): the last five fields are 0 for a QUEUED order. -/
def Order.entry (o : Order) : List Byte :=
  o.spec.bytes ++
    match o.state with
    | .queued => u8 0 ++ u8 0 ++ u8 0 ++ u16 0 ++ flag false
    | .active => u8 1 ++ u8 o.phase.code ++ u8 o.currentRepeat ++ u16 o.stitchesExecuted ++ flag o.started

/-- Decide a SCHEDULE_LIST (R35). -/
def decideScheduleList (s : State) : State × Reply :=
  (s, Reply.good (u8 s.schedule.orders.length ++ u8 s.params.lowWater ++ flag s.schedule.armed
    ++ s.schedule.orders.flatMap Order.entry))

/-- ORDER_ADD (R21 to R24). -/
def execOrderAdd (tag : Byte) (order : OrderFields) (s : State) : Host.Outcome State Fault Refusal :=
  finish (request 0x0B tag (decideOrderAdd order) s)

/-- ORDER_CANCEL (R26). -/
def execOrderCancel (tag : Byte) (orderId : BitVec 16) (s : State) : Host.Outcome State Fault Refusal :=
  finish (request 0x0C tag (decideOrderCancel orderId) s)

/-- SCHEDULE_LIST (R35). -/
def execScheduleList (tag : Byte) (s : State) : Host.Outcome State Fault Refusal :=
  finish (request 0x0D tag decideScheduleList s)

end Sys2Proof.Machine
end

