-- ==== Sys2Proof/Machine/Axes.lean ====
section
/-! DEFINITION. The Motion Output's own operations (chapter 6): its outputs, positions and residues, burst intervals,
freezing and resuming. They call on no other block. -/

namespace Sys2Proof.Machine

/-- The Motion Output's outputs (R105, R116, R121). -/
structure MotionPins where
  xstep : Bool
  xdir : Bool
  ystep : Bool
  ydir : Bool
  cut : Bool
  axen : Bool
deriving DecidableEq, Repr

/-- The level of an axis's STEP output (R105), `since` µs after the axis's last pulse since the reset began, or with none:
high for 5 µs. -/
def stepLevel (since : Option Nat) : Bool := (since.map fun t => decide (t < 5)).getD false

/-- The levels of the Motion Output's outputs (R105, R116, R121). State holds no time within or after a pulse (log 30), so
the µs since each axis's last pulse began are given; with none since the reset XSTEP and YSTEP are low. -/
def Motion.outputs (m : Motion) (sinceX sinceY : Option Nat) : MotionPins :=
  { xstep := stepLevel sinceX, xdir := m.xdir, ystep := stepLevel sinceY, ydir := m.ydir
    cut := m.cutTimer.isSome, axen := m.axen }

/-- One step pulse of an axis (R103): the residue moves by 1, and a whole pu moves the position and leaves residue 0. A
residue that stands at or beyond k, which a smaller k_x after an ABORT_PANEL of a frozen move can leave, is one that
reaches k at the next pulse on its side: the position moves by one pu and the whole residue becomes 0, whatever it was
(the model's choice, log 28). -/
def addPulse (k : Nat) (positive : Bool) (pos e : Int) : Int × Int :=
  if positive then
    if (k : Int) ≤ e + 1 then (pos + 1, 0) else (pos, e + 1)
  else
    if e - 1 ≤ -(k : Int) then (pos - 1, 0) else (pos, e - 1)

/-- Emit one pulse of a burst or a feed move on an axis (R103). X is kept only while it is known (R102). -/
def movePulse (axis : Axis) (positive : Bool) (s : State) : State :=
  match axis with
  | .x =>
    if s.motion.xKnown then
      let r := addPulse s.params.kX positive s.motion.x s.motion.ex
      { s with motion := { s.motion with x := r.1, ex := r.2 } }
    else s
  | .y =>
    let r := addPulse s.params.kY positive s.motion.panelY s.motion.ey
    { s with motion := { s.motion with panelY := r.1, ey := r.2 } }

/-- Panel Y and its residue become 0 (R104). -/
def zeroPanel (s : State) : State := { s with motion := { s.motion with panelY := 0, ey := 0 } }

/-- An axis with pulses to emit, not yet timed. -/
def AxisMove.of (pulses : Int) : AxisMove := ⟨mag pulses, decide (0 ≤ pulses), 0, false⟩

/-- The axis timed at an interval. -/
def AxisMove.timed (a : AxisMove) (interval : Nat) : AxisMove := { a with interval := interval, waiting := false }

/-- The axis with its emission stopped: the count and direction are kept (R110, R111). -/
def AxisMove.held (a : AxisMove) : AxisMove := a.timed 0

/-- The DIR output of an axis as a move begins or resumes (R105); an axis with no pulses keeps its level (log 28). -/
def AxisMove.dir (a : AxisMove) (level : Bool) : Bool := if a.left = 0 then level else a.positive

/-- The period of a burst (R107): measured, else from the applied demand; from an applied demand of 0 it is a free value
(log 10). -/
def burstPeriod (s : State) : Nat × State :=
  match s.shaft.period with
  | some p => (p, s)
  | Option.none =>
    if s.gov.applied = 0 then (Config.freePeriod s.draws, { s with draws := s.draws + 1 })
    else (60000000 / s.gov.applied, s)

/-- The usable time of a window of `width` counts at a period (R107). -/
def usableTime (period width : Nat) : Nat := period * width / 4096 * 7 / 8

/-- The interval of an axis with some pulses (R107). -/
def burstInterval (usable pulses imin : Nat) : Nat := max imin (usable / pulses)

/-- Begin or resume emission of a burst over `width` counts (R107, R112): DIR outputs, intervals, EMITTING. -/
def emitBurst (width : Nat) (b : Burst) (s : State) : State :=
  let p := burstPeriod s
  let usable := usableTime p.1 width
  let x := b.x.timed (burstInterval usable b.x.left p.2.params.iminX)
  let y := b.y.timed (burstInterval usable b.y.left p.2.params.iminY)
  { p.2 with motion := { p.2.motion with
      burst := some { b with frozen := false, x := x, y := y }
      xdir := b.x.dir p.2.motion.xdir, ydir := b.y.dir p.2.motion.ydir } }

/-- A burst with its emission stopped (R110, R111). -/
def Burst.freeze (b : Burst) : Burst := if b.frozen then b else { b with frozen := true, x := b.x.held, y := b.y.held }

/-- A feed move under a freeze (R111): a MOVING one freezes, a CUTTING one freezes when its cut ends. -/
def Feed.freeze (f : Feed) : Feed :=
  match f.state with
  | .moving => { f with state := .frozen, x := f.x.held, y := f.y.held }
  | .cutting => { f with freezeAfterCut := true }
  | .frozen => f
  | .searchEnded => f

/-- A freeze (R111). -/
def freeze (s : State) : State :=
  { s with motion := { s.motion with burst := s.motion.burst.map Burst.freeze, feed := s.motion.feed.map Feed.freeze } }

/-- Test a FROZEN burst for resumption (R112). -/
def testResume (s : State) : State :=
  match s.motion.burst with
  | Option.none => s
  | some b =>
    if b.frozen ∧ s.line.permission ∧ s.shaft.turningForwardInside then
      emitBurst (forwardCounts s.shaft.angle s.shaft.window.closeAt) b s
    else s

/-- The homing in progress ends (R119): idle, and HOME_DONE with its outcome and the pu travelled. -/
def endHoming (found : Bool) (travel : Nat) (s : State) : State :=
  raiseNotice (.homeDone found travel) { s with motion := { s.motion with homing := Option.none } }

/-- The homing has found XHOME asserted (R119). -/
def homingFound (travel : Nat) (s : State) : State :=
  endHoming true travel { s with motion := { s.motion with x := 0, ex := 0, xKnown := true } }

/-- A feed move under ESTOP (R116): a CUTTING one is frozen at the start of the CUTTING part, its cut not done. -/
def Feed.estop (f : Feed) : Feed :=
  match f.state with
  | .cutting => { f with state := .frozen, part := .first, cutDone := false, freezeAfterCut := false }
  | .moving => f
  | .frozen => f
  | .searchEnded => f

/-- The assertion of ESTOP at the Motion Output (R116, R119): CUT low, and a homing ends NOT_FOUND, its
travel by the k_x in force now (log 46). -/
def estopMotion (s : State) : State :=
  let t := { s with motion := { s.motion with feed := s.motion.feed.map Feed.estop, cutTimer := Option.none } }
  match t.motion.homing with
  | Option.none => t
  | some h => endHoming false (h.travel / t.params.kX) t

end Sys2Proof.Machine
end

