-- ==== Sys2Proof/Machine/Line.lean ====
section
/-! DEFINITION. The Line Controller's operations (chapter 9): modes, stops, the Fault Record, the resume sequence, the
watch on the stitch stream, holds. -/

namespace Sys2Proof.Machine

/-! ## Modes (R145, R146) -/

/-- The stitching permission in a mode (R106, R145): an AT_SEGMENT hold keeps the permission it finds. -/
def permissionIn (m : Mode) (p : Option StopPurpose) (k : Option StopKind) (old : Bool) : Bool :=
  match m with
  | .running => true
  | .stopping => old && decide (p = some .hold) && decide (k = some .atSegment)
  | _ => false

/-- The modes that set the resume step to none (R148). -/
def Mode.endsResume : Mode → Bool
  | .idle => true
  | .threading => true
  | .holding => true
  | .faulted => true
  | _ => false

/-- The modes' part of the Line Controller after a change of mode. -/
def Line.inMode (l : Line) (m : Mode) (p : Option StopPurpose) (k : Option StopKind) : Line :=
  let entersFeeding := decide (m = .feeding) && decide (l.effective ≠ .feeding)
  { l with
    effective := m, stopPurpose := p, stopKind := k
    holdOrigin := if m = .stopping ∧ p = some .hold then l.holdOrigin else Option.none
    resumeStep := if m.endsResume then .none else l.resumeStep
    permission := permissionIn m p k l.permission
    parkedCount := if entersFeeding then 0 else l.parkedCount
    parkHanded := if entersFeeding then false else l.parkHanded }

/-- Change the effective mode, the stop purpose and the stop kind (R146). A change of mode, or of purpose within
STOPPING, raises MODE_CHANGED; leaving THREADING ends a jog (R155); FEEDING entered lets a new search begin (R113). -/
def setMode (m : Mode) (p : Option StopPurpose) (k : Option StopKind) (why : Reason) (s : State) : State :=
  let a := if s.line.effective = .threading ∧ m ≠ .threading then jogEnd s else s
  let b := { a with
    line := a.line.inMode m p k
    motion := if m = .feeding ∧ s.line.effective ≠ .feeding then
        { a.motion with feed := a.motion.feed.map fun f => { f with reentered := true } }
      else a.motion }
  if s.line.effective ≠ m ∨ s.line.stopPurpose ≠ p then
    raiseNotice (.modeChanged m p k b.line.requested why) b
  else b

/-- Set the requested mode. -/
def setRequested (r : ReqMode) (s : State) : State := { s with line := { s.line with requested := r } }

/-- Set the resume step (R148). -/
def setStep (r : ResumeStep) (s : State) : State := { s with line := { s.line with resumeStep := r } }

/-- Withdraw the stitching permission (R106). -/
def withdraw (s : State) : State := { s with line := { s.line with permission := false } }

/-! ## Stops (R153, R159) -/

/-- Enter FAULTED (R159): a latched THREAD of action AT_ONCE or AT_STITCH sets overlap_pending. -/
def enterFaulted (why : Reason) (s : State) : State :=
  let t := setMode .faulted Option.none Option.none why s
  if t.line.faults.threadStop then { t with line := { t.line with overlapPending := true } } else t

/-- A hold or fault stop reaches its end. `why` is the reason FAULTED is given; HOLDING is given STOP_DONE. -/
def reachStop (why : Reason) (s : State) : State :=
  if s.line.effective = .stopping then
    match s.line.stopPurpose with
    | some .hold => setMode .holding Option.none Option.none .stopDone s
    | some .fault => enterFaulted why s
    | _ => s
  else s

/-- Carry on an AT_STITCH stop (R153): wait for an EMITTING burst and for a move in hand; with the shaft stopped the stop
is reached; otherwise the Governor is given a park order. -/
def stitchStop (why : Reason) (s : State) : State :=
  if s.motion.emitting then s
  else if s.motion.feedRunning then s
  else if s.shaft.stopped then reachStop why s
  else
    let p := parkOrder s
    if p.2 then reachStop why p.1 else p.1

/-- Carry out an AT_ONCE stop (R153, R159): freeze, stop at once, and the stop is reached when the shaft is stopped. -/
def stopNow (why : Reason) (s : State) : State :=
  let t := stopAtOnce (freeze s)
  if t.shaft.stopped then reachStop why t else t

/-- Begin a fault stop (R159). -/
def faultStop (k : StopKind) (s : State) : State :=
  let t := setMode .stopping (some .fault) (some k) .fault s
  if k = .atOnce then stopNow .fault t else stitchStop .fault t

/-! ## The Fault Record (R157 to R159) -/

/-- The stop kind of an action; stop in place is carried out as AT_STITCH (R158). -/
def FaultAction.stopKind : FaultAction → StopKind
  | .atOnce => .atOnce
  | .atStitch => .atStitch
  | .report => .atStitch
  | .inPlace => .atStitch

/-- The stronger of two stop kinds (R152, R159). -/
def StopKind.stronger (a b : StopKind) : StopKind := if a.strength < b.strength then b else a

/-- Carry out a latched source's action (R159). Every latching with AT_ONCE action is a freeze and a stop at once,
whatever the mode (R98, R111; log 34). -/
def faultAction (act : FaultAction) (s : State) : State :=
  if act = .report then s
  else
    let k := act.stopKind
    let t := if k = .atOnce then stopAtOnce (freeze s) else s
    match t.line.effective with
    | .idle => enterFaulted .fault t
    | .threading => enterFaulted .fault t
    | .holding => enterFaulted .fault t
    | .faulted => t
    | .running => faultStop k t
    | .feeding => faultStop k t
    | .stopping =>
      match t.line.stopPurpose with
      | some .fault => if k = .atOnce ∧ t.line.stopKind ≠ some .atOnce then faultStop .atOnce t else t
      | some .hold => faultStop (StopKind.stronger k (t.line.stopKind.getD .atStitch)) t
      | _ => faultStop k t

/-- Hand a source to the Line Controller (R157). `breakRef` is the break_ref a THREAD carries. -/
def latch (src : FaultSource) (breakRef : Option Ref) (s : State) : State :=
  if s.line.faults.has src then s
  else
    let act := actionOf s.params src
    let ref := if src = .thread then (if s.orderActive then breakRef else Option.none) else s.stitchInHand
    let f := s.line.faults
    let first := f.latched.isEmpty
    let f' : FaultRecord :=
      { latched := f.latched ++ [(src, act)]
        firstSource := if first then some src else f.firstSource
        firstRef := if first then ref else f.firstRef }
    let t := raiseNotice (.fault src act ref f'.code) { s with line := { s.line with faults := f' } }
    faultAction act (if act = .atOnce then recompute t else t)

/-! ## The resume sequence (R148), last step first -/

/-- Enter RUNNING with a start order (R148, R164). A frozen burst is tested as the permission is granted (R112). -/
def enterRunning (why : Reason) (p : Purpose) (ceilings : List Nat) (s : State) : State :=
  testResume (startOrder p ceilings (setMode .running Option.none Option.none why s))

/-- Step 6 with no record change in hand: a STITCH or TACK head starts the line, any other head keeps it FEEDING. -/
def headStepBase (s : State) : State :=
  let t := setStep .none s
  match t.planner.headStitch with
  | some _ => enterRunning .record .stitching [] t
  | Option.none => t

/-- Step 5 before a step 6 with no record change in hand. -/
def restoreStepBase (s : State) : State :=
  match s.planner.headStitch with
  | Option.none => headStepBase s
  | some (st, _) =>
    let a := askRestore st.bars (setStep .restore s)
    if a.2 then headStepBase a.1 else a.1

/-- A BAR_CHANGE record completes (R127): the change is no longer in hand and the record leaves the queue. -/
def completeRecordChange (s : State) : State := removeHead (dropChange s)

/-- Whether a RECORD change is in hand. -/
def State.recordChangeInHand (s : State) : Bool :=
  match s.bars.change with
  | some c => decide (c.kind = .record)
  | Option.none => false

/-- Step 6, HEAD (R148): a head BAR_CHANGE whose own change is still in hand is begun again (R127). -/
def headStep (s : State) : State :=
  match s.planner.head with
  | some (.barChange t _) =>
    if s.recordChangeInHand then
      let u := beginChange .record t (setStep .none s)
      if u.changeDone then restoreStepBase (completeRecordChange u) else u
    else headStepBase s
  | _ => headStepBase s

/-- Step 5, RESTORE (R148, R128). -/
def restoreStep (s : State) : State :=
  match s.planner.headStitch with
  | Option.none => headStep s
  | some (st, _) =>
    let a := askRestore st.bars (setStep .restore s)
    if a.2 then headStep a.1 else a.1

/-- The ceilings of the replay list (R99). -/
def State.replayCeilings (s : State) : List Nat := s.line.replay.map Stitch.ceiling

/-- The end of step 4's restore (R164): replay begin, RUNNING, and a start order with purpose REPLAY. -/
def startReplay (s : State) : State :=
  enterRunning .record .replay s.replayCeilings (replayBegin s)

/-- Step 4, REPLAY (R148, R164). -/
def replayStep (s : State) : State :=
  match s.line.replay with
  | [] => restoreStep s
  | st :: _ =>
    let a := askRestore st.bars (setStep .replay s)
    if a.2 then startReplay a.1 else a.1

/-- The number of entries at the newest end of a history whose bars equal the newest entry's (R162). -/
def sameBarsRun (h : List Stitch) : Nat :=
  match h.reverse with
  | [] => 0
  | t :: rest => 1 + (rest.takeWhile fun u => decide (u.bars = t.bars)).length

/-- The newest n entries of a history, oldest first (R162). -/
def newest (n : Nat) (h : List Stitch) : List Stitch := h.drop (h.length - n)

/-- The figure b of R162. -/
def State.overlapCount (s : State) : Nat :=
  max s.line.replay.length (min s.params.overlap (sameBarsRun s.line.history))

/-- The sum of the steps of some entries on each axis. -/
def sumSteps (h : List Stitch) : Int × Int := (h.foldr (fun t a => t.stepX + a) 0, h.foldr (fun t a => t.stepY + a) 0)

/-- The back move of R163: the negated sum of the steps of the last b entries less those of the last r. -/
def State.backMoveSteps (s : State) : Int × Int :=
  let whole := sumSteps (newest s.overlapCount s.line.history)
  let done := sumSteps (newest s.line.replay.length s.line.history)
  (-(whole.1 - done.1), -(whole.2 - done.2))

/-- A back move is in hand. -/
def Motion.backMoveInHand (m : Motion) : Bool := (m.feed.map fun f => decide (f.source = .backMove)).getD false

/-- Step 3, BACK_MOVE (R148, R163). A back move handed over before a stop and not begun is computed again. -/
def backMoveStep (s : State) : State :=
  if s.line.overlapPending then
    if s.motion.backMoveInHand then setStep .backMove s
    else if s.overlapCount = 0 then
      replayStep { s with
        motion := { s.motion with backMove := Option.none }
        line := { s.line with overlapPending := false, replay := [] } }
    else
      let t := { s with
        motion := { s.motion with backMove := some s.backMoveSteps }
        line := { s.line with recoveryCount := s.overlapCount } }
      setStep .backMove t
  else replayStep s

/-- The end of step 2's restore (R148): RUNNING, and a start order with purpose STITCHING, or REPLAY for a replay stitch
with a new replay begin (R164, log 18). -/
def startFrozen (s : State) : State :=
  match s.motion.burst with
  | Option.none => s
  | some b =>
    match b.source with
    | .head => enterRunning .record .stitching [] s
    | .replay => startReplay s

/-- Step 2, FROZEN (R148). -/
def frozenStep (s : State) : State :=
  match s.motion.burst with
  | Option.none => backMoveStep s
  | some b =>
    let a := askRestore b.stitch.bars (setStep .frozen s)
    if a.2 then startFrozen a.1 else a.1

/-- Take up the resume step the line stands at, in FEEDING (R148). -/
def takeStep (s : State) : State :=
  match s.line.resumeStep with
  | .park => frozenStep s
  | .frozen => frozenStep s
  | .backMove => backMoveStep s
  | .replay => replayStep s
  | .restore => restoreStep s
  | .head => restoreStep s
  | .none => restoreStep s

/-- The park-done report at the Line Controller (R148, R149, R153). -/
def parkDone (s : State) : State :=
  if s.line.effective = .stopping then
    match s.line.stopPurpose with
    | some .feed => takeStep (setMode .feeding Option.none Option.none .stopDone s)
    | some .endOfPanel => takeStep (setMode .feeding Option.none Option.none .stopDone s)
    | _ => reachStop .stopDone s
  else s

/-- Give the Governor a park order; a park done at once is reported at once (R94). -/
def orderPark (s : State) : State :=
  let p := parkOrder s
  if p.2 then parkDone p.1 else p.1

/-- Stop for the stitch stream (R148, R149): STOPPING with kind PARK. -/
def stopForRecord (p : StopPurpose) (s : State) : State :=
  orderPark (setMode .stopping (some p) (some .park) .record s)

/-- Whether a record is the LEAD_OUT feed move, which begins the panel's last phase (R149). -/
def PlanRecord.isLeadOut : PlanRecord → Bool
  | .feed .leadOut _ _ _ => true
  | _ => false

/-- The watch of R149 on what stands next to be stitched. -/
def watch (replayEmptied : Bool) (s : State) : State :=
  if s.line.effective = .running ∧ s.motion.burst.isNone ∧ s.line.replay = [] then
    match s.planner.head with
    | Option.none => s
    | some r =>
      match r.stitch? with
      | some (st, _) =>
        if replayEmptied ∧ st.bars ≠ s.bars.engaged then stopForRecord .feed s else s
      | Option.none => stopForRecord (if r.isLeadOut then .endOfPanel else .feed) s
  else s

/-- The resume step ends with the burst of step 2 (R148), whatever stop is under way. It ends with the last stitch of a replay
too, so that STATUS shows none during a park of R149 that follows: R148 names no end of step 4 (the model's choice,
log 48). -/
def endStep (replayEmptied : Bool) (s : State) : State :=
  if s.line.resumeStep = .frozen ∨ replayEmptied then setStep .none s else s

/-- A burst has completed (R108 hand-off 6, R109, R148 step 2, R149, R153): `last` is the last_of_segment flag of a head
record. In RUNNING the end of step 2 with overlap_pending goes on to step 3. Under an AT_SEGMENT hold the stitching of R153
goes first: the recovery waits for the next resume sequence (the model's choice, log 14). -/
def lineBurstDone (last replayEmptied : Bool) (s : State) : State :=
  let t := endStep replayEmptied s
  if t.stitchStopOn then stitchStop .stopDone t
  else if t.segmentStopOn then
    if last ∨ (t.line.replay = [] ∧ t.planner.headIsStop) then stitchStop .stopDone (withdraw t) else t
  else if t.line.effective = .running then
    if s.line.resumeStep = .frozen ∧ t.line.overlapPending then stopForRecord .feed (setStep .backMove t)
    else watch replayEmptied t
  else t

/-- A restore has been done (R128, R148): the sequence goes on from its step. -/
def restoreDone (s : State) : State :=
  if s.line.effective = .feeding then
    match s.line.resumeStep with
    | .frozen => startFrozen s
    | .replay => startReplay s
    | .restore => headStep s
    | _ => s
  else s

/-- A record has completed in FEEDING (R149): the new head is looked at. -/
def lineRecordDone (s : State) : State :=
  if s.stitchStopOn then stitchStop .stopDone s
  else if s.line.effective = .feeding then takeStep s
  else s

/-- A feed record has completed (R149, R150). -/
def lineFeedDone (s : State) : State :=
  if s.line.effective = .feeding ∧ ¬ s.orderActive then
    setMode .idle Option.none Option.none .scheduleEmpty (setRequested .idle s)
  else lineRecordDone s

/-- A back move has completed (R163). -/
def lineBackMoveDone (s : State) : State :=
  let t := { s with line := { s.line with
    overlapPending := false, replay := newest s.line.recoveryCount s.line.history } }
  if t.stitchStopOn then stitchStop .stopDone t
  else if t.line.effective = .feeding then replayStep t
  else t

/-- Append a completed head record to the Stitch History (R161). -/
def appendHistory (st : Stitch) (s : State) : State :=
  let h := s.line.history ++ [st]
  { s with line := { s.line with history := h.drop (h.length - Config.historyCapacity) } }

/-- A count at the Line Controller (R151). -/
def lineCount (d : Direction) (s : State) : State :=
  if s.line.effective = .feeding then
    let n := s.line.parkedCount + (match d with | .forward => 1 | .reverse => -1)
    let t := { s with line := { s.line with parkedCount := n } }
    if mag n = 17 ∧ ¬ s.line.parkHanded then
      latch .park Option.none { t with line := { t.line with parkHanded := true } }
    else t
  else s

/-- The stopped event at the Line Controller (R153, R159): an AT_ONCE stop is reached. -/
def lineStopped (s : State) : State :=
  if s.line.effective = .stopping ∧ s.line.stopKind = some .atOnce then reachStop .stopDone s else s

/-! ## Running and holding (R147, R152 to R154) -/

/-- Begin the resume sequence at step 1, PARK (R148). -/
def beginResume (why : Reason) (s : State) : State :=
  orderPark (setMode .stopping (some .feed) (some .park) why (setStep .park s))

/-- Cancel a hold (R154). With origin FEEDING the Governor is given nothing: a park that an AT_STITCH hold ordered with the
shaft turning goes on in FEEDING, its park-done report is ignored, and only a start order that the step taken up gives
cancels it (the model's choice, log 20). A start order is given before a frozen burst is tested (log 17). What became due under the hold,
whatever its kind, is not made up for on the return to RUNNING: neither step 3 of R148 after the burst of step 2, nor the
park of R149 for the bars of the head after the last replay stitch (the model's choice, log 14). -/
def cancelHold (why : Reason) (s : State) : State :=
  match s.line.holdOrigin with
  | some .feeding =>
    let t := setMode .feeding Option.none Option.none why s
    if t.bars.change.isSome then t else takeStep t
  | some .stopFeed =>
    let t := setMode .stopping (some .feed) (some .park) why s
    if t.gov.state = .halted then orderPark t else t
  | some .stopEnd =>
    let t := setMode .stopping (some .endOfPanel) (some .park) why s
    if t.gov.state = .halted then orderPark t else t
  | _ =>
    let t := setMode .running Option.none Option.none why s
    let u := if t.gov.state = .parking ∨ t.gov.state = .halted then
        (if t.line.replay = [] then startOrder .stitching [] t else startOrder .replay t.replayCeilings t)
      else t
    watch false (testResume u)

/-- Decide a RUN (R147) for its reason: REQUEST, or INPUT for START. -/
def decideRun (why : Reason) (s : State) : State × Reply :=
  let held := s.stoppingForHold
  if ¬ (s.line.effective = .idle ∨ s.line.effective = .threading ∨ s.line.effective = .holding ∨ held = true) then
    (s, Reply.because .notNow .mode)
  else if s.line.faults.latched ≠ [] then (s, Reply.because .notNow .faults)
  else if ¬ s.motion.xKnown then (s, Reply.because .notNow .xUnknown)
  else if ¬ s.orderActive then (s, Reply.because .notNow .noOrder)
  else
    let t := setRequested .run s
    (if held then cancelHold why t else beginResume why t, Reply.good [])

/-- Carry out a hold's stop (R153): an AT_SEGMENT hold that keeps the permission goes on stitching. -/
def carryHold (k : StopKind) (s : State) : State :=
  match k with
  | .atOnce => stopNow .stopDone s
  | .atSegment => if s.line.permission then s else stitchStop .stopDone s
  | _ => stitchStop .stopDone s

/-- Begin an accepted hold (R152, R153). -/
def beginHold (kind : HoldKind) (origin : HoldOrigin) (why : Reason) (s : State) : State :=
  let t := setRequested .hold { s with line := { s.line with holdOrigin := some origin } }
  carryHold kind.stopKind (setMode .stopping (some .hold) (some kind.stopKind) why t)

/-- Decide a hold (R152) for its reason: REQUEST, or INPUT for HOLD. -/
def decideHold (kind : HoldKind) (why : Reason) (s : State) : State × Reply :=
  match s.line.effective with
  | .running => (beginHold kind .running why s, Reply.good [])
  | .feeding => (beginHold kind .feeding why s, Reply.good [])
  | .stopping =>
    match s.line.stopPurpose with
    | some .endOfPanel => (beginHold kind .stopEnd why s, Reply.good [])
    | some .hold =>
      if (s.line.stopKind.getD .atSegment).strength < kind.stopKind.strength then
        (carryHold kind.stopKind (setMode .stopping (some .hold) (some kind.stopKind) why s), Reply.good [])
      else (s, Reply.good [])
    | some .fault => (s, Reply.because .notNow .faults)
    | _ => (beginHold kind .stopFeed why s, Reply.good [])
  | .holding => (s, Reply.good [])
  | .faulted => (s, Reply.because .notNow .faults)
  | .idle => (s, Reply.because .notNow .mode)
  | .threading => (s, Reply.because .notNow .mode)

/-- Decide a MODE HOLD by its hold kind byte (R147, R152). -/
def decideModeHold (kind : Byte) (s : State) : State × Reply :=
  match holdKindOfByte kind with
  | some k => decideHold k .request s
  | Option.none => (s, Reply.field 1)

/-- Decide a MODE IDLE or MODE THREAD (R155). -/
def decideRest (r : ReqMode) (m : Mode) (s : State) : State × Reply :=
  match s.line.effective with
  | .faulted => (s, Reply.because .notNow .faults)
  | .running => (s, Reply.because .notNow .mode)
  | .stopping => (s, Reply.because .notNow .mode)
  | .feeding => (s, Reply.because .notNow .mode)
  | _ =>
    if s.line.effective = m then (s, Reply.good [])
    else (setMode m Option.none Option.none .request (setRequested r s), Reply.good [])

/-- The line leaves FAULTED as its Fault Record empties (R160 step 4). -/
def leaveFaulted (s : State) : State :=
  if s.line.effective = .faulted then
    if s.orderActive then setMode .holding Option.none Option.none .cleared (setRequested .hold s)
    else setMode .idle Option.none Option.none .cleared (setRequested .idle s)
  else s

/-- Decide a CLEAR_FAULTS (R160). -/
def decideClearFaults (s : State) : State × Reply :=
  if s.stoppingForFault then (s, Reply.because .notNow .none)
  else
    let kept := s.line.faults.latched.filter fun e => s.conditionHolds e.1
    let f : FaultRecord := if kept = [] then ⟨[], Option.none, Option.none⟩ else { s.line.faults with latched := kept }
    let t := clearBroken { s with line := { s.line with faults := f } }
    (if kept = [] then leaveFaulted t else t, Reply.good (u16 f.code))

/-- Decide an ABORT_PANEL (R165). X, its residue e_x among it, is left as it stands, so the residue of an aborted frozen
move can be non-zero (log 28). R99 says that the list of replay ceilings is empty already; where a hold has been reached
with the drive released and purpose REPLAY (log 15) it is not, and stands as it is (the model's choice, log 29). -/
def decideAbort (s : State) : State × Reply :=
  match s.line.effective with
  | .running => (s, Reply.because .notNow .none)
  | .stopping => (s, Reply.because .notNow .none)
  | .feeding => (s, Reply.because .notNow .none)
  | _ =>
    if ¬ s.orderActive then (s, Reply.because .notFound .none)
    else
      let a := abortChange (flushPlan { s with motion := { s.motion with
        burst := Option.none, feed := Option.none, asideFeed := Option.none, backMove := Option.none } })
      let b := { a with line := { a.line with history := [], replay := [], overlapPending := false } }
      (endOrder .aborted (zeroPanel b), Reply.good [])

/-! ## The commands of the line -/

/-- MODE with mode RUN (R147). -/
def execModeRun (tag : Byte) (s : State) : Host.Outcome State Fault Refusal :=
  finish (request 0x0E tag (decideRun .request) s)

/-- MODE with mode HOLD (R152): a kind outside the three is refused with BAD_VALUE (R147). -/
def execModeHold (tag kind : Byte) (s : State) : Host.Outcome State Fault Refusal :=
  finish (request 0x0E tag (decideModeHold kind) s)

/-- MODE with mode IDLE (R155). -/
def execModeIdle (tag : Byte) (s : State) : Host.Outcome State Fault Refusal :=
  finish (request 0x0E tag (decideRest .idle .idle) s)

/-- MODE with mode THREAD (R155). -/
def execModeThread (tag : Byte) (s : State) : Host.Outcome State Fault Refusal :=
  finish (request 0x0E tag (decideRest .thread .threading) s)

/-- ABORT_PANEL (R165). -/
def execAbortPanel (tag : Byte) (s : State) : Host.Outcome State Fault Refusal :=
  finish (request 0x0F tag decideAbort s)

/-- CLEAR_FAULTS (R160). -/
def execClearFaults (tag : Byte) (s : State) : Host.Outcome State Fault Refusal :=
  finish (request 0x12 tag decideClearFaults s)

/-- START_INPUT (R156): a MODE RUN with no reply. -/
def execStartInput (s : State) : Host.Outcome State Fault Refusal :=
  finish (live (fun s => (decideRun .input s).1) s)

/-- HOLD_INPUT (R156): a hold of hold_input_kind with no reply; ignored when that is NONE. -/
def execHoldInput (s : State) : Host.Outcome State Fault Refusal :=
  finish (live (fun s =>
    match s.params.holdInputKind with
    | some k => (decideHold k .input s).1
    | Option.none => s) s)

/-- Set the level of a pin; levels follow while RESETN is asserted too. -/
def setPins (p : Pins) (s : State) : State := { s with pins := p }

/-- JOG_PRESSED (R155): a jog begins in THREADING. -/
def execJogPressed (s : State) : Host.Outcome State Fault Refusal :=
  finish (live (fun s => if s.line.effective = .threading then jogBegin s else s)
    (setPins { s.pins with jog := true } s))

/-- JOG_RELEASED (R91, R155). -/
def execJogReleased (s : State) : Host.Outcome State Fault Refusal :=
  finish (live jogEnd (setPins { s.pins with jog := false } s))

/-- ESTOP_ASSERTED (R130, R156, R158): valves off, CUT low, homing ended, and ESTOP handed to the Fault Record. -/
def execEstopAsserted (s : State) : Host.Outcome State Fault Refusal :=
  finish (live (fun s => latch .estop Option.none (estopMotion (estopBars s))) (setPins { s.pins with estop := true } s))

/-- ESTOP_RELEASED (R158): its condition is gone. -/
def execEstopReleased (s : State) : Host.Outcome State Fault Refusal :=
  finish (setPins { s.pins with estop := false } s)

/-- DRVFLT_ASSERTED (R158): DRIVE is handed to the Fault Record. -/
def execDrvfltAsserted (s : State) : Host.Outcome State Fault Refusal :=
  finish (live (latch .drive Option.none) (setPins { s.pins with drvflt := true } s))

/-- DRVFLT_RELEASED (R158): its condition is gone. -/
def execDrvfltReleased (s : State) : Host.Outcome State Fault Refusal :=
  finish (setPins { s.pins with drvflt := false } s)

end Sys2Proof.Machine
end

