-- ==== Sys2Proof/Machine/Audit.lean ====
section
/-! DEFINITION. The Travel Audit (chapter 10): starting and stopping, the three counters, the computation. -/

namespace Sys2Proof.Machine

/-- The counters' upper end (R167). -/
def auditLimit : Nat := 65535

/-- Start an audit (R168, R169): counters and revolutions 0, COUNTING. -/
def startAudit (s : State) : State :=
  { s with audit := { s.audit with state := .counting, cCmd := 0, cRoll := 0, cWheel := 0, revolutions := 0 } }

/-- A slip in per mille of one travel against the one before it, clamped for the record (R172); 0 when the travel before
it is 0. -/
def slipOf (before after : Nat) : Int :=
  if before = 0 then 0
  else min 1000 (max (-32768) (truncDiv (((before : Int) - (after : Int)) * 1000) (before : Int)))

/-- A result number's successor (R167): 65535 is followed by 1. -/
def nextResult (n : Nat) : Nat := if auditLimit ≤ n then 1 else n + 1

/-- The record an audit ending now computes (R172, R173). An INCONCLUSIVE one, to which R172 applies no tolerance, records
drive_tol and mat_tol as they stand (the model's choice, log 45). -/
def State.auditRecord (s : State) (cause : EndCause) : AuditRecord :=
  let a := s.audit
  let p := s.params
  let tCmd := a.cCmd / p.kY
  let tRoll := a.cRoll * 100 / p.rollPer100
  let tWheel := a.cWheel * 100 / p.wheelPer100
  let drive := slipOf tCmd tRoll
  let material := slipOf tRoll tWheel
  let enough := decide (500 ≤ tCmd)
  let failed := decide (p.driveTol < mag drive) || decide (p.matTol < mag material)
  { number := nextResult a.resultNumber, cause := cause
    cCmd := a.cCmd, cRoll := a.cRoll, cWheel := a.cWheel, revolutions := a.revolutions
    tCmd := tCmd, tRoll := tRoll, tWheel := tWheel
    driveSlip := if enough then drive else 0, materialSlip := if enough then material else 0
    driveTol := p.driveTol, matTol := p.matTol
    verdict := if enough then (if failed then .fail else .pass) else .inconclusive }

/-- End an audit (R172, R173, R169): the record, AUDIT_DONE, FEED_SLIP on FAIL, and the restart of auto_audit. -/
def endAudit (cause : EndCause) (s : State) : State :=
  let r := s.auditRecord cause
  let a := raiseNotice (.auditDone r.number r.cause r.verdict r.driveSlip r.materialSlip)
    { s with audit := { s.audit with state := .done, resultNumber := r.number, last := some r } }
  let b := if r.verdict = .fail then latch .feedSlip Option.none a else a
  if b.params.autoAudit then startAudit b else b

/-- An audit ends when a counter has reached the limit (R171). -/
def endAtLimit (cause : EndCause) (count : Nat) (s : State) : State :=
  if count = auditLimit then endAudit cause s else s

/-- Add to C_cmd (R171): the gate is judged once for the whole count; past the limit the rest is discarded. Adding no
pulses counts nothing. -/
def addCmd (n : Nat) (s : State) : State :=
  if s.auditCounts ∧ n ≠ 0 then
    let c := min auditLimit (s.audit.cCmd + n)
    endAtLimit .cmd c { s with audit := { s.audit with cCmd := c } }
  else s

/-- Add 1 to C_roll (R171). -/
def addRoll (s : State) : State :=
  if s.auditCounts then
    let c := min auditLimit (s.audit.cRoll + 1)
    endAtLimit .roll c { s with audit := { s.audit with cRoll := c } }
  else s

/-- Add 1 to C_wheel (R171). -/
def addWheel (s : State) : State :=
  if s.auditCounts then
    let c := min auditLimit (s.audit.cWheel + 1)
    endAtLimit .wheel c { s with audit := { s.audit with cWheel := c } }
  else s

/-- A forward-revolution index at the Travel Audit (R171). -/
def auditIndex (s : State) : State :=
  if s.auditCounts then { s with audit := { s.audit with revolutions := min auditLimit (s.audit.revolutions + 1) } }
  else s

/-- An audit state's code (log 23: the order of R167). -/
def AuditState.code : AuditState → Nat
  | .idle => 0
  | .counting => 1
  | .done => 2

/-- Decide an AUDIT_START (R168). -/
def decideAuditStart (s : State) : State × Reply := (startAudit s, Reply.good (u8 s.audit.state.code))

/-- Decide an AUDIT_STOP (R168). -/
def decideAuditStop (s : State) : State × Reply :=
  if s.audit.state = .counting then
    let r := s.auditRecord .stop
    (endAudit .stop s, Reply.good (u8 r.verdict.code ++ u16 r.number))
  else (s, Reply.because .notNow .none)

/-- The 31 bytes of an audit result (12 section 12.2). -/
def AuditRecord.bytes (r : AuditRecord) : List Byte :=
  flag true ++ u16 r.number ++ u8 r.cause.code ++ u16 r.cCmd ++ u16 r.cRoll ++ u16 r.cWheel ++ u16 r.revolutions
  ++ u16 r.driveTol ++ u16 r.tCmd ++ u32 r.tRoll ++ u32 r.tWheel ++ s16 r.driveSlip ++ s16 r.materialSlip
  ++ u16 r.matTol ++ u8 r.verdict.code

/-- Decide an AUDIT_RESULT (R174). -/
def decideAuditResult (s : State) : State × Reply :=
  (s, Reply.good (match s.audit.last with
    | some r => r.bytes
    | Option.none => List.replicate 31 0))

/-- AUDIT_START (R168). -/
def execAuditStart (tag : Byte) (s : State) : Host.Outcome State Fault Refusal :=
  finish (request 0x16 tag decideAuditStart s)

/-- AUDIT_STOP (R168). -/
def execAuditStop (tag : Byte) (s : State) : Host.Outcome State Fault Refusal :=
  finish (request 0x17 tag decideAuditStop s)

/-- AUDIT_RESULT (R174). -/
def execAuditResult (tag : Byte) (s : State) : Host.Outcome State Fault Refusal :=
  finish (request 0x18 tag decideAuditResult s)

/-- FEED_ROLLER_EDGE (R171): a change of FRA, FRB or both adds 1; levels that have not changed are no edge. -/
def execFeedRollerEdge (fra frb : Bool) (s : State) : Host.Outcome State Fault Refusal :=
  let changed := fra != s.pins.fra || frb != s.pins.frb
  finish (live (fun s => if changed then addRoll s else s) (setPins { s.pins with fra := fra, frb := frb } s))

/-- MEASURING_WHEEL_EDGE (R171): a change of MWA, MWB or both adds 1; levels that have not changed are no edge. -/
def execMeasuringWheelEdge (mwa mwb : Bool) (s : State) : Host.Outcome State Fault Refusal :=
  let changed := mwa != s.pins.mwa || mwb != s.pins.mwb
  finish (live (fun s => if changed then addWheel s else s) (setPins { s.pins with mwa := mwa, mwb := mwb } s))

end Sys2Proof.Machine
end

