-- ==== Sys2Proof/Machine/Motion.lean ====
section
/-! DEFINITION. The Motion Output's bursts, feed moves and homing (chapter 6), with the hand-offs each completion makes. -/

namespace Sys2Proof.Machine

/-! ## Bursts (section 6.3) -/

/-- The burst becomes none. -/
def dropBurst (s : State) : State := { s with motion := { s.motion with burst := Option.none } }

/-- The Y pulses of a stitch (R108, R109). -/
def State.yPulses (s : State) (st : Stitch) : Nat := mag st.stepY * s.params.kY

/-- A burst of the head record completes: the hand-offs of R108, in order. -/
def completeHeadBurst (b : Burst) (s : State) : State :=
  let a := appendHistory b.stitch (removeHead s)
  let c := countStitch (addCmd (a.yPulses b.stitch) a)
  lineBurstDone b.last false (dropBurst (monitorBurst b.stitch.ref .plan c))

/-- A burst of a replay stitch completes: the hand-offs of R109. -/
def completeReplayBurst (b : Burst) (s : State) : State :=
  let a := replayFormed { s with line := { s.line with replay := s.line.replay.tail } }
  let c := monitorBurst b.stitch.ref .replay (addCmd (a.yPulses b.stitch) a)
  lineBurstDone false (decide (c.line.replay = [])) (dropBurst c)

/-- The burst in hand completes (R108, R109). -/
def completeBurst (b : Burst) (s : State) : State :=
  match b.source with
  | .head => completeHeadBurst b s
  | .replay => completeReplayBurst b s

/-- A burst whose pulses are all emitted. -/
def Burst.spent (b : Burst) : Bool := decide (b.x.left = 0) && decide (b.y.left = 0)

/-- The burst of a stitch, with its pulses to emit (R106). -/
def burstOf (p : Params) (source : BurstSource) (st : Stitch) (last : Bool) : Burst :=
  { frozen := false, source := source, stitch := st, last := last
    x := AxisMove.of (st.stepX * p.kX), y := AxisMove.of (st.stepY * p.kY) }

/-- Begin a burst (R106): with no pulses it completes at once, otherwise it is EMITTING over the window in progress. -/
def openBurst (b : Burst) (s : State) : State :=
  let t := { s with motion := { s.motion with burst := some b } }
  if b.spent then completeBurst b t
  else emitBurst (forwardCounts t.shaft.window.openAt t.shaft.window.closeAt) b t

/-- WINDOW_OPEN at the Motion Output (R106). -/
def motionOpen (s : State) : State :=
  if s.line.permission ∧ s.motion.burst.isNone then
    match s.line.replay with
    | st :: _ => openBurst (burstOf s.params .replay st false) s
    | [] =>
      match s.planner.head with
      | Option.none => s
      | some r =>
        match r.stitch? with
        | some (st, last) => openBurst (burstOf s.params .head st last) (recordBegun r s)
        | Option.none => s
  else s

/-- WINDOW_CLOSE at the Motion Output (R110): a burst still EMITTING is an overrun. -/
def motionClose (s : State) : State :=
  if s.motion.emitting then
    latch .overrun Option.none { s with motion := { s.motion with burst := s.motion.burst.map Burst.freeze } }
  else s

/-! ## Feed moves (section 6.5) -/

/-- Put the feed move in hand. -/
def setFeed (f : Feed) (s : State) : State := { s with motion := { s.motion with feed := some f } }

/-- The feed becomes none. -/
def dropFeed (s : State) : State := { s with motion := { s.motion with feed := Option.none } }

/-- Whether the head is the GAP of an order that is cut, with a gap of at least 1 pu (R116). -/
def State.cutGap (s : State) : Bool :=
  match s.planner.head with
  | some (.feed .gap _ dy _) => decide (dy ≠ 0) && ((s.schedule.activeOrder.map fun o => o.spec.cut).getD false)
  | _ => false

/-- The Y step of the head feed record. -/
def State.headStepY (s : State) : Int :=
  match s.planner.head with
  | some (.feed _ _ dy _) => dy
  | _ => 0

/-- Whether the head is a GAP record. -/
def Planner.headIsGap (p : Planner) : Bool :=
  match p.head with
  | some (.feed .gap _ _ _) => true
  | _ => false

/-- A feed record completes (R113): it leaves the queue, the Stitch History is cleared, a GAP ends the order as DONE. -/
def completeFeed (s : State) : State :=
  let gap := s.planner.headIsGap
  let a := removeHead s
  let b := { a with line := { a.line with history := [] } }
  lineFeedDone (dropFeed (if gap then endOrder .done b else b))

/-- The feed move in hand completes: a record (R113) or the back move of recovery (R117). -/
def completeMove (f : Feed) (s : State) : State :=
  match f.source with
  | .record => completeFeed s
  | .backMove => lineBackMoveDone (dropFeed s)

/-- Begin the cut pulse (R116): CUT goes high for cut_time ms. -/
def beginCut (f : Feed) (s : State) : State :=
  let t := setFeed { f with state := .cutting, part := .first, cutDone := false, freezeAfterCut := false
                            x := f.x.held, y := f.y.held } s
  { t with motion := { t.motion with cutTimer := some t.params.cutTime } }

/-- The pulses of a MOVING feed are all emitted: a mark search has reached its limit (R115), which also
ends the wait of a stop that awaited it, a FIRST part is cut (R116),
any other move is complete (R113). -/
def feedSpent (f : Feed) (s : State) : State :=
  if f.source = .record ∧ s.planner.head.map PlanRecord.phase = some .markSearch then
    let t := latch .markMissing Option.none
      (setFeed { f with state := .searchEnded, reentered := false, x := f.x.held, y := f.y.held } s)
    if t.stitchStopOn then stitchStop .stopDone t else t
  else if f.source = .record ∧ f.part = .first ∧ s.cutGap then beginCut f s
  else completeMove f s

/-- Make a feed MOVING (R113, R105): DIR outputs set, each axis at its minimum interval. -/
def moveFeed (f : Feed) (s : State) : State :=
  let g := { f with state := .moving, x := f.x.timed s.params.iminX, y := f.y.timed s.params.iminY }
  let t := { s with motion := { s.motion with
    feed := some g, xdir := f.x.dir s.motion.xdir, ydir := f.y.dir s.motion.ydir } }
  if f.x.left = 0 ∧ f.y.left = 0 then feedSpent g t else t

/-- A feed move not yet begun. R102 gives a part to a GAP with cut only: that any other move holds, and STATUS reports, FIRST
is the model's choice (log 43). -/
def Feed.fresh (source : FeedSource) (x y : Int) : Feed :=
  { state := .moving, source := source, part := .first, cutDone := false, x := AxisMove.of x, y := AxisMove.of y
    freezeAfterCut := false, reentered := false }

/-- The X pulses of a LEAD_IN bound now (R48, R114). -/
def State.leadInPulses (s : State) (target : Int) : Int := (target - s.motion.x) * s.params.kX - s.motion.ex

/-- Begin the feed move of a FEED record (R113 to R116). -/
def beginFeed (kind : FeedKind) (stepX stepY : Int) (s : State) : State :=
  let kX : Int := s.params.kX
  let kY : Int := s.params.kY
  match kind with
  | .markSearch => moveFeed (Feed.fresh .record 0 (s.params.markLimit * kY)) s
  | .leadIn target => moveFeed (Feed.fresh .record (s.leadInPulses target) (stepY * kY)) s
  | .gap =>
    if s.cutGap then moveFeed (Feed.fresh .record 0 (stepY / 2 * kY)) s
    else moveFeed (Feed.fresh .record (stepX * kX) (stepY * kY)) s
  | _ => moveFeed (Feed.fresh .record (stepX * kX) (stepY * kY)) s

/-- Panel Y is zeroed by the first beginning of a LEAD_IN of an order with no MARK_SEARCH (R104, R114). -/
def State.leadInZeroes (s : State) : Bool :=
  !s.planner.headBegun && !((s.schedule.activeOrder.map fun o => o.spec.onMark).getD false)

/-- Begin the head record, a FEED or END (R113). -/
def beginHead (s : State) : State :=
  match s.planner.head with
  | some (.endMark r) => lineRecordDone (removeHead (recordBegun (.endMark r) s))
  | some (.feed kind dx dy r) =>
    let t := match kind with
      | .leadIn _ => if s.leadInZeroes then zeroPanel s else s
      | _ => s
    beginFeed kind dx dy (recordBegun (.feed kind dx dy r) t)
  | _ => s

/-- Resume a FROZEN feed move (R113, R114, R116). -/
def resumeFeed (f : Feed) (s : State) : State :=
  match f.source with
  | .backMove => moveFeed f s
  | .record =>
    match s.planner.head with
    | some (.feed (.leadIn target) _ _ _) => moveFeed { f with x := AxisMove.of (s.leadInPulses target) } s
    | _ => moveFeed f s

/-- Begin the back move handed over (R117). -/
def beginBackMove (m : Int × Int) (s : State) : State :=
  moveFeed (Feed.fresh .backMove (m.1 * s.params.kX) (m.2 * s.params.kY))
    { s with motion := { s.motion with backMove := Option.none } }

/-- The feed move of the head record makes room for the back move (R117): a FROZEN one is kept aside (R111; log 19), a
search that has ended is set aside for good (R115). -/
def setAside (s : State) : State :=
  match s.motion.feed with
  | Option.none => s
  | some f =>
    { s with motion := { s.motion with
        feed := Option.none, asideFeed := if f.state = .frozen then some f else s.motion.asideFeed } }

/-- Begin the head record, or go on with its FROZEN feed move, in hand or aside (R113, R115). -/
def takeUpHead (s : State) : State :=
  match s.motion.feed with
  | some f => if f.state = .frozen then resumeFeed f s else beginHead (dropFeed s)
  | Option.none =>
    match s.motion.asideFeed with
    | some f => resumeFeed f { s with motion := { s.motion with asideFeed := Option.none } }
    | Option.none => beginHead s

/-- Nothing of the resume sequence stands before the head record: no step under way and no replay stitch left (R117, R148,
R163). -/
def State.headFree (s : State) : Bool := decide (s.line.resumeStep = .none) && decide (s.line.replay = [])

/-- With no other feed move to go on with: begin the back move handed over, else take up the head record when it is its turn
(R117, R148 step 6). -/
def beginNextFeed (s : State) : State :=
  match s.motion.backMove with
  | some m => beginBackMove m (setAside s)
  | Option.none => if s.headFree then takeUpHead s else s

/-- FEED_BEGIN's work, in FEEDING with the shaft stopped (R113, R115, R117). A FROZEN back move goes on. The head record, its
FROZEN move with it, waits behind the back move and the replay (R117, R148, R163): that this move stands aside meanwhile,
out of the one feed move in hand of R102, is the model's choice (log 19). -/
def feedBegin (s : State) : State :=
  if s.line.effective = .feeding ∧ s.shaft.stopped then
    match s.motion.feed with
    | Option.none => beginNextFeed s
    | some f =>
      if f.state = .frozen ∧ f.source = .backMove then resumeFeed f s
      else if f.state = .frozen ∨ (f.state = .searchEnded ∧ f.reentered) then beginNextFeed s
      else s
  else s

/-! ## Pulses (R103, R105, R107) -/

/-- An axis of a burst or feed. -/
def AxisMove.emitted (a : AxisMove) : AxisMove := { a with left := a.left - 1, waiting := false }

/-- Emit a burst's next pulse on an axis; the last pulse of both axes completes the burst. -/
def burstPulse (axis : Axis) (b : Burst) (s : State) : State :=
  let b' := match axis with
    | .x => { b with x := b.x.emitted }
    | .y => { b with y := b.y.emitted }
  let positive := match axis with
    | .x => b.x.positive
    | .y => b.y.positive
  let t := movePulse axis positive { s with motion := { s.motion with burst := some b' } }
  if b'.spent then completeBurst b' t else t

/-- Emit a feed move's next pulse on an axis: a Y pulse is handed to the Travel Audit, the last pulse ends the part. -/
def feedPulse (axis : Axis) (f : Feed) (s : State) : State :=
  let f' := match axis with
    | .x => { f with x := f.x.emitted }
    | .y => { f with y := f.y.emitted }
  let positive := match axis with
    | .x => f.x.positive
    | .y => f.y.positive
  let t := movePulse axis positive (setFeed f' s)
  let u := match axis with
    | .x => t
    | .y => addCmd 1 t
  if f'.x.left = 0 ∧ f'.y.left = 0 then feedSpent f' u else u

/-- The axis of a burst or feed as it stands. -/
def Burst.axis (b : Burst) : Axis → AxisMove
  | .x => b.x
  | .y => b.y

/-- The axis of a feed. -/
def Feed.axis (f : Feed) : Axis → AxisMove
  | .x => f.x
  | .y => f.y

/-- Mark a burst's pulse as held back. -/
def Burst.wait (b : Burst) : Axis → Burst
  | .x => { b with x := { b.x with waiting := true } }
  | .y => { b with y := { b.y with waiting := true } }

/-- Mark a feed's pulse as held back. -/
def Feed.wait (f : Feed) : Axis → Feed
  | .x => { f with x := { f.x with waiting := true } }
  | .y => { f with y := { f.y with waiting := true } }

/-- A step pulse of an axis falls due (R105, R107): it is emitted, or held back outside the window. The timer of an axis
runs while its move is being emitted, has pulses left and holds none back. -/
def stepDue (axis : Axis) (s : State) : State :=
  match s.motion.burst with
  | some b =>
    if b.frozen ∨ (b.axis axis).left = 0 ∨ (b.axis axis).waiting then s
    else if s.shaft.pulsesAllowed then burstPulse axis b s
    else { s with motion := { s.motion with burst := some (b.wait axis) } }
  | Option.none =>
    match s.motion.feed with
    | some f =>
      if f.state ≠ .moving ∨ (f.axis axis).left = 0 ∨ (f.axis axis).waiting then s
      else if s.shaft.pulsesAllowed then feedPulse axis f s
      else setFeed (f.wait axis) s
    | Option.none => s

/-- Emit the pulse an axis holds back (R105). -/
def emitHeld (axis : Axis) (s : State) : State :=
  match s.motion.burst with
  | some b => if !b.frozen && (b.axis axis).waiting then burstPulse axis b s else s
  | Option.none =>
    match s.motion.feed with
    | some f => if f.state = .moving ∧ (f.axis axis).waiting then feedPulse axis f s else s
    | Option.none => s

/-! ## Homing (section 6.6) -/

/-- The greatest homing travel in pu (R119). -/
def homingLimit : Nat := 2600

/-- Emit a homing pulse (R119). Every pulse counted is judged by the k_x in force now, and only as a pulse is emitted: what a
change of k_x during a homing does is the model's choice (log 46). -/
def homingPulse (h : Homing) (s : State) : State :=
  let n := h.travel + 1
  if homingLimit * s.params.kX ≤ n then endHoming false homingLimit s
  else { s with motion := { s.motion with homing := some ⟨n, s.params.homeInterval, false⟩ } }

/-- A homing pulse falls due (R105, R119). -/
def homingDue (s : State) : State :=
  match s.motion.homing with
  | Option.none => s
  | some h =>
    if h.waiting then s
    else if s.shaft.pulsesAllowed then homingPulse h s
    else { s with motion := { s.motion with homing := some { h with waiting := true } } }

/-- Emit the homing pulse held back (R105). -/
def emitHeldHoming (s : State) : State :=
  match s.motion.homing with
  | Option.none => s
  | some h => if h.waiting then homingPulse h s else s

/-- Every pulse held back is emitted at the first moment the gate of R105 is open again. -/
def emitWaiting (s : State) : State :=
  if s.shaft.pulsesAllowed then emitHeldHoming (emitHeld .y (emitHeld .x s)) else s

/-- Whether any pulse is held back. -/
def State.anyWaiting (s : State) : Bool :=
  (s.motion.burst.map fun b => !b.frozen && (b.x.waiting || b.y.waiting)).getD false
  || (s.motion.feed.map fun f => decide (f.state = .moving) && (f.x.waiting || f.y.waiting)).getD false
  || (s.motion.homing.map fun h => h.waiting).getD false

/-- Whether a LEAD_IN of the ACTIVE order is still to be completed (R118 check 4; log 36). -/
def State.leadInAhead (s : State) : Bool := s.planner.queue.any PlanRecord.isLeadIn

/-- Start a homing (R119): an XHOME already asserted ends it at once with a travel of 0. -/
def startHoming (s : State) : State :=
  let t := { s with motion := { s.motion with
    xKnown := false, x := 0, ex := 0, xdir := false, homing := some ⟨0, s.params.homeInterval, false⟩ } }
  if t.pins.xhome then homingFound 0 t else t

/-- Decide a HOME_X (R118). -/
def decideHomeX (s : State) : State × Reply :=
  if ¬ (s.line.effective = .idle ∨ s.line.effective = .threading) then (s, Reply.because .notNow .mode)
  else if ¬ s.shaft.stopped then (s, Reply.because .notNow .shaft)
  else if s.motion.homing.isSome then (s, Reply.because .notNow .homing)
  else if s.orderActive ∧ ¬ s.leadInAhead then (s, Reply.because .notNow .order)
  else (startHoming s, Reply.good [])

/-- XHOME takes a level (R119): an assertion ends a homing, its travel by the k_x in force now (log 46). -/
def xhomeLevel (level : Bool) (s : State) : State :=
  match s.motion.homing with
  | Option.none => s
  | some h => if level then homingFound (h.travel / s.params.kX) s else s

/-- A rising MARK edge (R115): it ends a MOVING mark search. -/
def markEdge (s : State) : State :=
  match s.motion.feed with
  | Option.none => s
  | some f =>
    if f.state = .moving ∧ f.source = .record ∧ s.planner.head.map PlanRecord.phase = some .markSearch then
      completeFeed (zeroPanel s)
    else s

/-- The cut timer runs out (R116): CUT falls, cut_done, and the SECOND part is fed, or stands frozen (R111), which also ends
the wait of a stop that awaited it (log 15). -/
def cutEnds (s : State) : State :=
  if s.motion.cutTimer.isNone then s
  else
    let t := { s with motion := { s.motion with cutTimer := Option.none } }
    match t.motion.feed with
    | Option.none => t
    | some f =>
      if f.state = .cutting then
        let second := t.headStepY - t.headStepY / 2
        let g := { f with part := .second, cutDone := true, freezeAfterCut := false
                          y := AxisMove.of (second * t.params.kY) }
        if f.freezeAfterCut then
          let u := setFeed { g with state := .frozen } t
          if u.stitchStopOn then stitchStop .stopDone u else u
        else moveFeed g t
      else t

/-! ## The commands -/

/-- STEP_PULSE_DUE (R105, R107, R113). -/
def execStepPulseDue (axis : Axis) (s : State) : Host.Outcome State Fault Refusal := finish (live (stepDue axis) s)

/-- FEED_BEGIN (R113). -/
def execFeedBegin (s : State) : Host.Outcome State Fault Refusal := finish (live feedBegin s)

/-- MARK_EDGE (R115). -/
def execMarkEdge (s : State) : Host.Outcome State Fault Refusal := finish (live markEdge s)

/-- CUT_TIME_EXPIRY (R116). -/
def execCutTimeExpiry (s : State) : Host.Outcome State Fault Refusal := finish (live cutEnds s)

/-- HOME_PULSE_DUE (R119). -/
def execHomePulseDue (s : State) : Host.Outcome State Fault Refusal := finish (live homingDue s)

/-- XHOME_ASSERTED (R119). -/
def execXhomeAsserted (level : Bool) (s : State) : Host.Outcome State Fault Refusal :=
  finish (live (xhomeLevel level) (setPins { s.pins with xhome := level } s))

/-- HOME_X (R118). -/
def execHomeX (tag : Byte) (s : State) : Host.Outcome State Fault Refusal :=
  finish (request 0x10 tag decideHomeX s)

end Sys2Proof.Machine
end

