-- ==== Sys2Proof/Machine/Changes.lean ====
section
/-! DEFINITION. The commands of the Needle Bar Unit (chapter 7): changes begun, timers, confirmation inputs, forced
moves. -/

namespace Sys2Proof.Machine

/-- A change that stands complete ends (R125, R127 to R129): a record leaves the queue, a restore is reported done, a
forced move only ends. -/
def settleChange (s : State) : State :=
  match s.bars.change with
  | Option.none => s
  | some c =>
    if s.changeDone then
      match c.kind with
      | .record => lineRecordDone (completeRecordChange s)
      | .restore => restoreDone (dropChange s)
      | .force _ => dropChange s
    else s

/-- A change that waited for the shaft to stop begins (R124). -/
def beginWaiting (s : State) : State :=
  match s.bars.change with
  | Option.none => s
  | some c => if c.waiting ∧ s.shaft.stopped then settleChange (beginChange c.kind c.target s) else s

/-- BAR_CHANGE_BEGIN's work (R127): the head BAR_CHANGE begins in FEEDING with the shaft stopped, no change in hand and
nothing of the resume sequence before it (log 19); a waiting change begins. -/
def barChangeBegin (s : State) : State :=
  if s.bars.change.isSome then beginWaiting s
  else
    match s.planner.head with
    | some (.barChange t r) =>
      if s.line.effective = .feeding ∧ s.shaft.stopped ∧ s.line.resumeStep = .none ∧ s.line.replay = [] then
        settleChange (beginChange .record t (recordBegun (.barChange t r) s))
      else s
    | _ => s

/-- A bar's dead time ends (R124 step 3). While a change waits for the shaft no valve is touched (R124): a dead time that a
replaced change left running then ends with both valves off and no timer (the model's choice, log 42), and the waiting
change starts the bar's sequence anew as it begins. -/
def deadTimeEnds (b : Bar) (s : State) : State :=
  if (s.bars.get b).timer.isDead then
    if s.changeWaits then setBar b (stopBarTimer (s.bars.get b)) s else settleChange (energizeBar b s)
  else s

/-- Whether a timer runs bar_timeout. -/
def BarTimer.isConfirm : BarTimer → Bool
  | .confirm _ => true
  | _ => false

/-- A forced move of this bar ends at its timeout (R126, R129). -/
def endForce (b : Bar) (s : State) : State :=
  match s.bars.change with
  | some c => if c.kind = .force b then dropChange s else s
  | Option.none => s

/-- A bar's bar_timeout runs out (R126), one that a replaced change left running among them (the model's choice, log 42). -/
def barTimesOut (b : Bar) (s : State) : State :=
  let r := s.bars.get b
  if r.timer.isConfirm then
    latch .barTimeout Option.none (endForce b (setBar b { r with timedOut := true, timer := .idle } s))
  else s

/-- A bar's confirmation inputs have changed (R123, R125): a released bar is judged again, a moving bar is confirmed, a
held bar does not act. -/
def barInputs (b : Bar) (s : State) : State :=
  let r := s.bars.get b
  if r.released then setBar b { r with state := judgedState (s.pins.bup.mem b) (s.pins.bdn.mem b) } s
  else settleChange (confirmBar b s)

/-- The direction a byte names (12 section 12.1): UP 0, DOWN 1. -/
def directionOfByte (d : Byte) : Option Bool := if d = 0 then some false else if d = 1 then some true else Option.none

/-- The target set of a forced move: the bar alone for DOWN, {} for UP (log 26). -/
def forceTarget (b : Bar) (down : Bool) : BarSet := if down then BarSet.none.put b true else BarSet.none

/-- Decide a FORCE_BAR (R129). With the bar and the direction both bad, check 1 names the bar (the model's choice,
log 22). -/
def decideForceBar (bar direction : Byte) (s : State) : State × Reply :=
  match Bar.ofNat bar.toNat with
  | Option.none => (s, Reply.field 0)
  | some b =>
    match directionOfByte direction with
    | Option.none => (s, Reply.field 1)
    | some down =>
      if s.line.effective ≠ .threading then (s, Reply.because .notNow .mode)
      else if ¬ s.shaft.stopped ∨ s.pins.jog then (s, Reply.because .notNow .shaft)
      else if s.bars.change.isSome then (s, Reply.because .notNow .change)
      else (settleChange (beginChange (.force b) (forceTarget b down) s), Reply.good [])

/-- FORCE_BAR (R129). -/
def execForceBar (tag bar direction : Byte) (s : State) : Host.Outcome State Fault Refusal :=
  finish (request 0x11 tag (decideForceBar bar direction) s)

/-- BAR_CHANGE_BEGIN (R127). -/
def execBarChangeBegin (s : State) : Host.Outcome State Fault Refusal := finish (live barChangeBegin s)

/-- DEAD_TIME_EXPIRY (R124). -/
def execDeadTimeExpiry (bar : Bar) (s : State) : Host.Outcome State Fault Refusal := finish (live (deadTimeEnds bar) s)

/-- BAR_TIMEOUT (R126). -/
def execBarTimeout (bar : Bar) (s : State) : Host.Outcome State Fault Refusal := finish (live (barTimesOut bar) s)

/-- While RESETN is asserted every bar is released and its state follows its inputs, with no hand-off (R123, R131). -/
def judgeReleased (b : Bar) (s : State) : State :=
  { s with bars := s.bars.put b (BarRec.released0 (judgedState (s.pins.bup.mem b) (s.pins.bdn.mem b))) }

/-- BAR_INPUT_CHANGE (R123, R125). -/
def execBarInputChange (bar : Bar) (bup bdn : Bool) (s : State) : Host.Outcome State Fault Refusal :=
  let t := setPins { s.pins with bup := s.pins.bup.put bar bup, bdn := s.pins.bdn.put bar bdn } s
  finish (if t.resetAsserted then judgeReleased bar t else barInputs bar t)

end Sys2Proof.Machine
end

