-- ==== Sys2Proof/Machine/Threads.lean ====
section
/-! DEFINITION. The Thread Monitor's scans, its evaluation at a WINDOW_OPEN, and the NEEDLES report (chapter 8). -/

namespace Sys2Proof.Machine

/-- Judge the needles at an occasion that is not suppressed (R140, R141). -/
def evaluate (ref : Ref) (s : State) : State :=
  let broken := s.breaks
  let t := { s with monitor := { s.monitor with needles := judgeNeedles ref s } }
  match broken with
  | [] => t
  | lowest :: _ =>
    latch .thread (some ref) (raiseNotice (.needleBroken broken.length lowest ref t.monitor.brokenCount) t)

/-- WINDOW_OPEN at the Thread Monitor (R135, R139): the occasion, then the formed stitch, the scan-fault flag and the
motion-seen flags are cleared. -/
def monitorOpen (s : State) : State :=
  let t :=
    match s.monitor.formedStitch with
    | Option.none => s
    | some f =>
      if s.occasion then
        if s.suppressed then { s with monitor := { s.monitor with suppress := s.monitor.suppress - 1 } }
        else evaluate f.ref s
      else s
  { t with monitor := { t.monitor with formedStitch := Option.none, scanFault := false, seen := 0 } }

/-- Whether a WINDOW_OPEN now declares a break. -/
def State.breakDue (s : State) : Bool := s.occasion && !s.suppressed && !s.breaks.isEmpty

/-- The scan timer runs out (R133): it restarts, and a scan of the chain as it is now begins. -/
def scanBegins (s : State) : State :=
  match s.monitor.scanTimer with
  | Option.none => s
  | some _ =>
    { s with monitor := { s.monitor with
        scanTimer := some s.params.scanPeriod, scanning := some (8 * s.params.chainBytes) } }

/-- The guard byte of a sound chain (R133). -/
def goodGuard : Byte := 0xA5

/-- TSDOUT at the rising edge of clock k + 1 of a scan (R133 step 3): the guard byte, most significant bit first, then
low. -/
def sentBit (k : Nat) : Bool := decide (k < 8) && goodGuard.getLsbD (7 - k)

/-- The part's three outputs to the sensor chain (12 section 12.7). -/
structure ChainPins where
  tsload : Bool
  tsclk : Bool
  tsdout : Bool
deriving DecidableEq, Repr

/-- The levels of the chain outputs in the microsecond that begins t µs after a scan of n stages began (R133): TSLOAD high
for 2 µs, then n + 8 clocks, each 1 µs high and 1 µs low, TSDOUT changing at each falling edge; all low after the scan.
TSDOUT holds the first guard bit from the scan's beginning (log 30). -/
def scanPins (n t : Nat) : ChainPins :=
  if t < 2 + 2 * (n + 8) then
    { tsload := decide (t < 2), tsclk := decide (2 ≤ t) && decide (t % 2 = 0), tsdout := sentBit ((t - 1) / 2) }
  else ⟨false, false, false⟩

/-- The levels of TSLOAD, TSCLK and TSDOUT (R133, R144): t µs into the scan in progress, and low outside a scan. -/
def Monitor.outputs (m : Monitor) (t : Nat) : ChainPins :=
  match m.scanning with
  | some n => scanPins n t
  | Option.none => ⟨false, false, false⟩

/-- The returned guard (R133 step 4): the last 8 of the n + 8 bits received, the first of them most significant. -/
def returnedGuard (n : Nat) (received : BitVec 104) : Byte :=
  BitVec.ofNat 8 ((List.range 8).foldl (fun g j => 2 * g + (if received.getLsbD (n + j) then 1 else 0)) 0)

/-- The needles 0..n − 1. -/
def needleMask (n : Nat) : BitVec 96 := BitVec.ofNat 96 (2 ^ n - 1)

/-- A failed scan (R134). -/
def scanFailed (s : State) : State :=
  let t := { s with monitor := { s.monitor with scanning := Option.none, scanFault := true, chainFault := true } }
  if s.monitor.chainFault then t else latch .sensorChain Option.none t

/-- The needles a good scan marks as having moved (R135). -/
def movedNeedles (previous : Option Image) (n : Nat) (high : BitVec 96) (stopped : Bool) : BitVec 96 :=
  match previous with
  | Option.none => 0
  | some i => if i.n = n ∧ ¬ stopped then i.high ^^^ high else 0

/-- The sensor levels of needles 0..n − 1 (R133 step 4): the first n bits received. -/
def sensorLevels (n : Nat) (received : BitVec 104) : BitVec 96 := received.setWidth 96 &&& needleMask n

/-- A good scan (R134, R135). -/
def scanGood (n : Nat) (high : BitVec 96) (s : State) : State :=
  { s with monitor := { s.monitor with
      scanning := Option.none, chainFault := false, image := some ⟨n, high⟩
      seen := s.monitor.seen ||| movedNeedles s.monitor.image n high s.shaft.stopped } }

/-- A scan ends (R133 step 4, R134): the bits received are split into the sensor levels and the returned guard, and the
scan is judged by the guard. -/
def scanEnds (received : BitVec 104) (s : State) : State :=
  match s.monitor.scanning with
  | Option.none => s
  | some n => if returnedGuard n received = goodGuard then scanGood n (sensorLevels n received) s else scanFailed s

/-! ## NEEDLES (R143, R190; 12 section 12.5) -/

/-- The references of a reference list as it is built needle by needle, at most 12 (R190). -/
def addReference (refs : List Ref) (st : NeedleState) : List Ref :=
  match st with
  | .broken _ r => if refs.contains r ∨ 12 ≤ refs.length then refs else refs ++ [r]
  | _ => refs

/-- The reference list of a NEEDLES reply (R190). -/
def referenceList (needles : List NeedleState) : List Ref := needles.foldl addReference []

/-- The code of a needle's state in its low seven bits (12 section 12.5). -/
def NeedleState.code (refs : List Ref) : NeedleState → Nat
  | .unused => 0
  | .idle => 1
  | .armed miss => 2 + miss
  | .grace left => 10 + left
  | .broken miss r =>
    match refs.findIdx? fun q => decide (q = r) with
    | some t => 27 + 8 * t + miss - 1
    | Option.none => 123

/-- The twelve bytes of an image: needle i at bit i mod 8 of byte i / 8. -/
def imageBytes (high : BitVec 96) : List Byte := (List.range 12).map fun k => high.extractLsb' (8 * k) 8

/-- The NEEDLES payload after the status byte. -/
def State.needlesBytes (s : State) : List Byte :=
  let m := s.monitor
  let refs := referenceList m.needles
  let high : BitVec 96 := (m.image.map Image.high).getD 0
  u8 s.params.chainBytes ++ flags [m.chainFault, m.image.isSome] ++ u8 m.brokenCount ++ u8 refs.length
  ++ imageBytes high
  ++ m.needles.mapIdx (fun i st =>
      BitVec.ofNat 8 (NeedleState.code refs st + (if m.seen.getLsbD i then 128 else 0)))
  ++ refs.flatMap (fun r => refBytes (some r))

/-- Decide a NEEDLES (R143). -/
def decideNeedles (s : State) : State × Reply := (s, Reply.good s.needlesBytes)

/-- NEEDLES (R143). -/
def execNeedles (tag : Byte) (s : State) : Host.Outcome State Fault Refusal :=
  finish (request 0x14 tag decideNeedles s)

/-- SCAN_TIMER_EXPIRY (R133). -/
def execScanTimerExpiry (s : State) : Host.Outcome State Fault Refusal := finish (live scanBegins s)

/-- SCAN_COMPLETE (R134, R135). -/
def execScanComplete (first : BitVec 96) (rest : BitVec 8) (s : State) : Host.Outcome State Fault Refusal :=
  finish (live (scanEnds (rest ++ first)) s)

end Sys2Proof.Machine
end

