-- ==== Sys2Proof/Machine/ShaftUnit.lean ====
section
/-! DEFINITION. The Shaft Timing Unit (chapter 4): counts, index pulses, the stopped shaft, window events and their
delivery (R78), timing sets. -/

namespace Sys2Proof.Machine

/-! ## Counts (R65 to R71) -/

/-- The place of the levels of SHA and SHB in the forward sequence, in which SHA leads SHB (R65). -/
def quadrature (a b : Bool) : Nat :=
  match a, b with
  | false, false => 0
  | true, false => 1
  | true, true => 2
  | false, true => 3

/-- The direction of a change of the two channels (R65): none when nothing or both changed. -/
def countDirection (old new : Nat) : Option Direction :=
  match (new + 4 - old) % 4 with
  | 1 => some .forward
  | 3 => some .reverse
  | _ => Option.none

/-- Change the Shaft Timing Unit's state. -/
def setShaft (h : Shaft) (s : State) : State := { s with shaft := h }

/-- The position a count leads to. -/
def Shaft.counted (h : Shaft) (d : Direction) : Int := h.position + (match d with | .forward => 1 | .reverse => -1)

/-- Whether a count loses the index reference (R69): the position reaches 4104 or −4104 with angle_valid true. -/
def Shaft.losesIndex (h : Shaft) (d : Direction) : Bool := h.angleValid && decide (4104 ≤ mag (h.counted d))

/-- The modes in which reverse movement is judged (R70). -/
def Mode.judgesReverse : Mode → Bool
  | .running => true
  | .stopping => true
  | .feeding => true
  | _ => false

/-- The reverse-run count after a count (R70). -/
def Shaft.reverseAfter (h : Shaft) (d : Direction) (m : Mode) : Nat :=
  match d with
  | .forward => 0
  | .reverse => if m.judgesReverse then min 65535 (h.reverseRun + 1) else 0

/-- The unit after a count (R65, R66, R69 to R71): the position moves, kept modulo 4096 without a valid angle. -/
def Shaft.count (h : Shaft) (d : Direction) (m : Mode) : Shaft :=
  let lost := h.losesIndex d
  let valid := h.angleValid && !lost
  { h with
    position := if valid then h.counted d else h.counted d % 4096
    angleValid := valid, stopped := false, lastCount := some d
    revStart := if lost then Option.none else h.revStart
    clean := h.clean && decide (d = .forward)
    reverseRun := h.reverseAfter d m
    window := if lost then { h.window with inProgress := false } else h.window }

/-! ## Events of the window and their delivery (R74, R75, R78) -/

/-- WINDOW_OPEN delivered: to the Thread Monitor and the Motion Output. Their order is a free choice where it shows,
which is where a break is declared (log 11; 9.8.1 tells both). -/
def deliverOpen (s : State) : State :=
  if s.breakDue then
    let c := drawChoice s
    if c.1 then monitorOpen (motionOpen c.2) else motionOpen (monitorOpen c.2)
  else motionOpen (monitorOpen s)

/-- WINDOW_CLOSE delivered to the Motion Output and the Thread Monitor. -/
def deliverClose (s : State) : State := monitorClose (motionClose s)

/-- A forward passage reaches the angle the unit stands at (R74, R75): the events it gives, in the order open, stop,
close. -/
def reachAngle (s : State) : State :=
  let h := s.shaft
  if ¬ h.angleValid then s
  else if ¬ h.window.inProgress then
    if h.angle = h.active.windowOpen then
      deliverOpen (setShaft { h with
        window := ⟨true, h.active.windowOpen, h.active.windowClose, h.active.stopAngle, false⟩ } s)
    else s
  else if h.angle = h.window.stopAt ∧ ¬ h.window.stopGiven then
    stopAngleGov (setShaft { h with window := { h.window with stopGiven := true } } s)
  else if h.angle = h.window.closeAt then
    deliverClose (setShaft { h with window := { h.window with inProgress := false } } s)
  else s

/-- Whether the angle the unit stands at gives an event. -/
def Shaft.eventHere (h : Shaft) : Bool :=
  h.angleValid &&
    (if h.window.inProgress then
      (decide (h.angle = h.window.stopAt) && !h.window.stopGiven) || decide (h.angle = h.window.closeAt)
    else decide (h.angle = h.active.windowOpen))

/-! ## ENCODER_COUNT -/

/-- Whether a count is the one at which the Line Controller hands over PARK (R151). -/
def State.parkDue (s : State) (d : Direction) : Bool :=
  decide (s.line.effective = .feeding) && !s.line.parkHanded
  && decide (mag (s.line.parkedCount + (match d with | .forward => 1 | .reverse => -1)) = 17)

/-- What a count does beyond the unit's own state and the Line Controller's parked count: the ENCODER source (R69, R70),
the events of a forward count, the test of a frozen burst (R112), the pulses held back (R105). -/
def countEffects (d : Direction) (encoder : Bool) (s : State) : State :=
  let a := if encoder then latch .encoder Option.none s else s
  let b := if d = .forward then reachAngle a else a
  emitWaiting (testResume b)

/-- A count in a direction (R65). Where the Line Controller hands over PARK at this very count, whether it takes the
count before the other blocks is a free choice (log 11). -/
def takeCount (d : Direction) (s : State) : State :=
  let lost := s.shaft.losesIndex d
  let h := s.shaft.count d s.line.effective
  let encoder := lost || (decide (d = .reverse) && decide (h.reverseRun = 33))
  let t := setShaft h s
  if s.parkDue d then
    let c := drawChoice t
    if c.1 then lineCount d (countEffects d encoder c.2) else countEffects d encoder (lineCount d c.2)
  else countEffects d encoder (lineCount d t)

/-- ENCODER_COUNT (R65): the levels after the edge; a change of neither or of both channels takes no count. -/
def execEncoderCount (sha shb : Bool) (s : State) : Host.Outcome State Fault Refusal :=
  let d := countDirection (quadrature s.pins.sha s.pins.shb) (quadrature sha shb)
  finish (live (fun s => match d with | some d => takeCount d s | Option.none => s)
    (setPins { s.pins with sha := sha, shb := shb } s))

/-! ## INDEX_PULSE (R67 to R69, R72) -/

/-- The class of an index position (R68). -/
inductive IndexClass where
  | forwardRevolution
  | sameIndex
  | reverseRevolution
  | badSpacing
deriving DecidableEq, Repr

/-- The class of the position p at an index pulse (R68). -/
def indexClass (p : Int) : IndexClass :=
  if 4094 ≤ p ∧ p ≤ 4098 then .forwardRevolution
  else if -2 ≤ p ∧ p ≤ 2 then .sameIndex
  else if -4098 ≤ p ∧ p ≤ -4094 then .reverseRevolution
  else .badSpacing

/-- Make the pending set active at an index (R80): with no window in progress the window state is derived. -/
def Shaft.applyAtIndex (h : Shaft) : Shaft :=
  match h.pendingSet with
  | Option.none => h
  | some t =>
    let g := { h with active := t, pendingSet := Option.none }
    if g.window.inProgress then g else { g with window := g.derivedWindow }

/-- Record a revolution start (R71). -/
def Shaft.startRevolution (h : Shaft) (now : Nat) : Shaft := { h with revStart := some now, clean := true }

/-- The measured speed of a period (R72). -/
def speedOf (period : Nat) : Nat := 60000000 / period

/-- Whether a forward-revolution index measures a period (R72). -/
def Shaft.measures (h : Shaft) : Bool := h.revStart.isSome && h.clean

/-- The unit's figures at a forward-revolution index (R72). A period of 0 µs has no stated speed: a free value (log 9). -/
def measureRevolution (now : Nat) (s : State) : State :=
  match s.shaft.revStart with
  | Option.none => setShaft (s.shaft.startRevolution now) s
  | some start =>
    if s.shaft.clean then
      let period := now - start
      let h := s.shaft.startRevolution now
      if period = 0 then
        setShaft { h with period := some 0, speed := Config.freeSpeed s.draws } { s with draws := s.draws + 1 }
      else setShaft { h with period := some period, speed := speedOf period } s
    else setShaft (s.shaft.startRevolution now) s

/-- The jump of a taken index (R68, R76): a forward jump of one or two counts reaches each angle passed over. -/
def indexJump (s : State) : State :=
  let forward := (-s.shaft.position) % 4096
  let at0 := fun (t : State) => setShaft { t.shaft with position := 0 } t
  if forward = 2 then reachAngle (at0 (reachAngle (setShaft { s.shaft with position := -1 } s)))
  else if forward = 1 then reachAngle (at0 s)
  else at0 s

/-- Whether the jump of a taken index gives an event. -/
def State.jumpEvent (s : State) : Bool :=
  let forward := (-s.shaft.position) % 4096
  (decide (forward = 2) && Shaft.eventHere { s.shaft with position := -1 })
  || (decide (forward = 1 ∨ forward = 2) && Shaft.eventHere { s.shaft with position := 0 })

/-- The index event delivered to the Speed Governor and the Travel Audit (R78, R92, R171). Where the Governor's judgement
moves the audit gate, their order is a free choice (log 11). -/
def deliverIndex (measured : Bool) (s : State) : State :=
  let after := indexGov measured s
  if s.audit.state = .counting ∧ after.gateOpen ≠ s.gateOpen then
    let c := drawChoice s
    if c.1 then auditIndex (indexGov measured c.2) else indexGov measured (auditIndex c.2)
  else auditIndex after

/-- A forward-revolution index (R68, R72, R78): the jump and the measured figures with their delivery. Where the jump
gives an event, whether the index event is delivered first is a free choice (log 11). -/
def forwardIndex (now : Nat) (s : State) : State :=
  let deliver := fun (t : State) => deliverIndex t.shaft.measures (measureRevolution now t)
  if s.jumpEvent then
    let c := drawChoice s
    if c.1 then indexJump (deliver c.2) else deliver (indexJump c.2)
  else deliver (indexJump s)

/-- The first index pulse with no valid angle (R67). -/
def firstIndex (now : Nat) (s : State) : State :=
  let h := { s.shaft with position := 0, angleValid := true }
  setShaft ({ h with window := h.derivedWindow }.startRevolution now) s

/-- Bad spacing (R69): the unit trusts the index. -/
def badIndex (now : Nat) (s : State) : State :=
  let h := { s.shaft with position := 0 }
  latch .encoder Option.none (setShaft ({ h with window := h.derivedWindow }.startRevolution now) s)

/-- A same-index or reverse-revolution pulse (R68): the revolution start is discarded. -/
def backIndex (s : State) : State :=
  let t := indexJump s
  setShaft { t.shaft with revStart := Option.none } t

/-- A rising edge of SHI (R67 to R69, R80): the pulse is taken, then a pending timing set becomes active. -/
def takeIndex (now : Nat) (s : State) : State :=
  let t :=
    if ¬ s.shaft.angleValid then firstIndex now s
    else
      match indexClass s.shaft.position with
      | .forwardRevolution => forwardIndex now s
      | .sameIndex => backIndex s
      | .reverseRevolution => backIndex s
      | .badSpacing => badIndex now s
  emitWaiting (setShaft t.shaft.applyAtIndex t)

/-- INDEX_PULSE (R68). -/
def execIndexPulse (now : Nat) (s : State) : Host.Outcome State Fault Refusal := finish (live (takeIndex now) s)

/-! ## STOPPED (R73) -/

/-- The unit as the stopped timer runs out (R73 steps 1 to 3). -/
def Shaft.stop (h : Shaft) : Shaft :=
  let g := { h with stopped := true, period := Option.none, speed := 0, revStart := Option.none, clean := false }
  match g.pendingSet with
  | Option.none => g
  | some t =>
    let k := { g with active := t, pendingSet := Option.none }
    { k with window := k.derivedWindow }

/-- The stopped event at the Speed Governor and then at the Line Controller (R93, R96, R153, R159). -/
def governorStopped (s : State) : State :=
  let g := stoppedGov s
  lineStopped
    (match g.2 with
    | .nothing => g.1
    | .parkDone => parkDone g.1
    | .parkFault => latch .park Option.none g.1)

/-- The stopped timer runs out (R73): the Thread Monitor, a waiting bar change (R124), the pulses held back (R105), the
Governor and the Line Controller. Whether held-back pulses are emitted before the Governor and the Line Controller act
is a free choice (log 11). -/
def shaftStops (s : State) : State :=
  if s.shaft.stopped then s
  else
    let a := beginWaiting (monitorStopped (setShaft s.shaft.stop s))
    if a.anyWaiting then
      let c := drawChoice a
      if c.1 then emitWaiting (governorStopped c.2) else governorStopped (emitWaiting c.2)
    else governorStopped a

/-- STOPPED (R73). -/
def execStopped (s : State) : Host.Outcome State Fault Refusal := finish (live shaftStops s)

/-! ## SET_TIMING and REPHASE (R79 to R81) -/

/-- Decide a SET_TIMING (R79, R80). -/
def decideSetTiming (o c a : BitVec 16) (s : State) : State × Reply :=
  let t : TimingSet := ⟨o.toNat, c.toNat, a.toNat⟩
  let stopAfter := forwardCounts t.windowOpen t.stopAngle
  if 4096 ≤ o.toNat then (s, Reply.field 0)
  else if 4096 ≤ c.toNat then (s, Reply.field 2)
  else if 4096 ≤ a.toNat then (s, Reply.field 4)
  else if t.width < 512 ∨ 2560 < t.width then (s, Reply.field 2)
  else if stopAfter = 0 ∨ t.width ≤ stopAfter then (s, Reply.field 4)
  else if t.width ≠ s.shaft.accepted.width ∧ s.orderActive then (s, Reply.because .notNow .none)
  else
    match (if t.width = s.shaft.accepted.width then Option.none else guardFault s.params t.width) with
    | some axis => (s, Reply.refusal .badValue 2 0 .guard axis)
    | Option.none =>
      if s.shaft.stopped then
        let h := { s.shaft with active := t, pendingSet := Option.none }
        (setShaft { h with window := h.derivedWindow } s, Reply.good (u8 0))
      else (setShaft { s.shaft with pendingSet := some t } s, Reply.good (u8 1))

/-- The phase offset at which the angle reads a (R81). -/
def Shaft.offsetFor (h : Shaft) (a : Nat) : Nat := (((a : Int) - h.position) % 4096).toNat

/-- Decide a REPHASE (R81). R81 ranks neither condition before the other: a turning shaft without a valid angle is
refused with reason SHAFT (the model's choice, log 39). -/
def decideRephase (a : BitVec 16) (s : State) : State × Reply :=
  if 4096 ≤ a.toNat then (s, Reply.field 0)
  else if ¬ s.shaft.stopped then (s, Reply.because .notNow .shaft)
  else if ¬ s.shaft.angleValid then (s, Reply.because .notNow .angle)
  else
    let h := { s.shaft with phaseOffset := s.shaft.offsetFor a.toNat }
    (setShaft { h with window := h.derivedWindow } s, Reply.good (u16 h.phaseOffset))

/-- SET_TIMING (R79, R80). -/
def execSetTiming (tag : Byte) (windowOpen windowClose stopAngle : BitVec 16) (s : State) :
    Host.Outcome State Fault Refusal :=
  finish (request 0x04 tag (decideSetTiming windowOpen windowClose stopAngle) s)

/-- REPHASE (R81). -/
def execRephase (tag : Byte) (angle : BitVec 16) (s : State) : Host.Outcome State Fault Refusal :=
  finish (request 0x05 tag (decideRephase angle) s)

end Sys2Proof.Machine
end

