-- ==== Sys2Proof/Machine/ParamRequests.lean ====
section
/-! DEFINITION. SET_PARAMS and GET_PARAMS (section 11.4): a request judged as a whole, applied as one step. -/

namespace Sys2Proof.Machine

/-- Identity (R181 check 1): the first pair whose identifier names no parameter or repeats an earlier one. -/
def identityFault : Nat → List Nat → List Nat → Option (Nat × Why)
  | _, _, [] => Option.none
  | i, seen, c :: rest =>
    if (ParamId.ofCode c).isNone then some (i, .unknownId)
    else if seen.contains c then some (i, .repeated)
    else identityFault (i + 1) (c :: seen) rest

/-- The pairs as parameters and values. -/
def namedPairs (pairs : List (BitVec 8 × BitVec 32)) : List (ParamId × Int) :=
  pairs.filterMap fun p => (ParamId.ofCode p.1.toNat).map fun id => (id, p.2.toInt)

/-- The index of the first pair that satisfies a test. -/
def firstPair (test : ParamId × Int → Bool) (pairs : List (ParamId × Int)) : Option Nat := pairs.findIdx? test

/-- Whether a value is refused by its range (R181 check 2): above the upper end only where it is not clamped. -/
def outOfRange (p : ParamId × Int) : Bool :=
  decide (p.2 < p.1.range.1) || (decide (p.1.range.2 < p.2) && !p.1.clamped)

/-- Whether a value is clamped (R181 check 2). -/
def isClamped (p : ParamId × Int) : Bool := decide (p.1.range.2 < p.2) && p.1.clamped

/-- A pair after any clamp. -/
def clampPair (p : ParamId × Int) : ParamId × Int := if isClamped p then (p.1, p.1.range.2) else p

/-- Whether a pair changes a parameter that may not change now (R62, R137; R181 check 3). -/
def State.activityFault (s : State) (p : ParamId × Int) : Bool :=
  decide (s.params.get p.1 ≠ p.2)
  && ((p.1.orderBound && s.orderActive) || (p.1.chainBound && (s.orderActive || !s.shaft.stopped)))

/-- The parameters with every pair written (R182). -/
def Params.apply (p : Params) (pairs : List (ParamId × Int)) : Params := pairs.foldl (fun q x => q.set x.1 x.2) p

/-- Whether a fitted needle stands at or beyond the end of the chain (R137). -/
def Params.beyondChain (p : Params) : Bool :=
  (List.range 96).any fun i => p.fitted i && decide (8 * p.chainBytes ≤ i)

/-- The refusal of the consistency checks (R181 check 4), or none. -/
def consistencyFault (s : State) (pairs : List (ParamId × Int)) : Option Reply :=
  let p := s.params.apply pairs
  let chain := match firstPair (fun x => x.1.chainBound) pairs with
    | some k => if p.beyondChain then some (Reply.refusal .badValue k 0 .chain 0) else Option.none
    | Option.none => Option.none
  match chain with
  | some r => some r
  | Option.none =>
    match firstPair (fun x => x.1.guarded) pairs, guardFault p s.shaft.accepted.width with
    | some k, some axis => some (Reply.refusal .badValue k 0 .guard axis)
    | _, _ => Option.none

/-- The Panel Schedule after a change of low_water (R34). -/
def rearm (old : Params) (s : State) : State :=
  if old.lowWater ≠ s.params.lowWater ∧ s.params.lowWater < s.schedule.queuedCount then
    { s with schedule := { s.schedule with armed := true } }
  else s

/-- The Travel Audit after a change of its parameters (R169). -/
def auditParams (old : Params) (s : State) : State :=
  if s.audit.state = .counting then
    if old.kY ≠ s.params.kY ∨ old.rollPer100 ≠ s.params.rollPer100 ∨ old.wheelPer100 ≠ s.params.wheelPer100 then
      startAudit s
    else s
  else if s.params.autoAudit ∧ ¬ old.autoAudit then startAudit s
  else s

/-- The Thread Monitor after a change of the needle map (R137). -/
def refit (old : Params) (s : State) : State :=
  { s with monitor := { s.monitor with
      needles := refitNeedles old s.params s.bars.engaged s.monitor.needles } }

/-- The Speed Governor after a change of its parameters: a change of line_max, creep or decel_depth, which only a jog can
meet with the drive released (R62), recomputes the demand, since it is recomputed whenever an input of it may have changed
(5.2) and never exceeds line_max (R87; log 41). A change of resume_speed or lock_tol waits for the next computation
(R86). -/
def governParams (old : Params) (s : State) : State :=
  if old.lineMax ≠ s.params.lineMax ∨ old.creep ≠ s.params.creep ∨ old.decelDepth ≠ s.params.decelDepth then recompute s
  else s

/-- Write every value together, then let each owning block act on its changes (R182). -/
def applyParams (pairs : List (ParamId × Int)) (s : State) : State :=
  let old := s.params
  governParams old (auditParams old (refit old (rearm old { s with params := s.params.apply pairs })))

/-- Decide a SET_PARAMS (R181, R182). -/
def decideSetParams (pairs : List (BitVec 8 × BitVec 32)) (s : State) : State × Reply :=
  if pairs.length = 0 ∨ 40 < pairs.length then (s, ⟨.badLength, []⟩)
  else
    match identityFault 0 [] (pairs.map fun p => p.1.toNat) with
    | some (k, why) => (s, Reply.refusal .badValue k 0 why 0)
    | Option.none =>
      let named := namedPairs pairs
      match firstPair outOfRange named with
      | some k => (s, Reply.refusal .badValue k 0 .range 0)
      | Option.none =>
        let values := named.map clampPair
        match firstPair s.activityFault values with
        | some k => (s, Reply.refusal .notNow k 0 .none 0)
        | Option.none =>
          match consistencyFault s values with
          | some r => (s, r)
          | Option.none =>
            (applyParams values s, Reply.good (u8 pairs.length ++ u8 (named.filter isClamped).length))

/-- A parameter as an identifier and value pair (12 section 12.1.1). -/
def paramBytes (p : Params) (code : Nat) : List Byte :=
  match ParamId.ofCode code with
  | some id => u8 code ++ s32 (p.get id)
  | Option.none => []

/-- Decide a GET_PARAMS (R183). -/
def decideGetParams (ids : List (BitVec 8)) (s : State) : State × Reply :=
  if 40 < ids.length then (s, ⟨.badLength, []⟩)
  else
    match ids.findIdx? fun c => (ParamId.ofCode c.toNat).isNone with
    | some k => (s, Reply.refusal .badValue k 0 .none 0)
    | Option.none =>
      let codes := if ids = [] then (List.range 34).map (· + 1) else ids.map BitVec.toNat
      (s, Reply.good (codes.flatMap (paramBytes s.params)))

/-- SET_PARAMS (R181, R182). -/
def execSetParams (tag : Byte) (pairs : List (BitVec 8 × BitVec 32)) (s : State) : Host.Outcome State Fault Refusal :=
  finish (request 0x02 tag (decideSetParams pairs) s)

/-- GET_PARAMS (R183). -/
def execGetParams (tag : Byte) (ids : List (BitVec 8)) (s : State) : Host.Outcome State Fault Refusal :=
  finish (request 0x03 tag (decideGetParams ids) s)

end Sys2Proof.Machine
end

