-- ==== Sys2Proof/Machine/Reports.lean ====
section
/-! DEFINITION. The reports of the Link Port (section 11.5, 12.5): GET_INFO, STATUS, HISTORY. Reading changes nothing. -/

namespace Sys2Proof.Machine

/-! ## Codes of the states STATUS reports (log 23: the order in which the defining rule lists them) -/

/-- The kind of a plan record (12 section 12.3). -/
def PlanRecord.kindCode : PlanRecord → Nat
  | .stitch _ _ => 0
  | .tack _ _ => 1
  | .feed _ _ _ _ => 2
  | .barChange _ _ => 3
  | .endMark _ => 4

/-- The stage of the cursor (R42). -/
def Stage.code : Stage → Nat
  | .opening => 0
  | .repeating => 1
  | .between => 2
  | .closing => 3
  | .finished => 4

/-- The governor state (R85). -/
def GovState.code : GovState → Nat
  | .halted => 0
  | .ramping => 1
  | .locked => 2
  | .parking => 3

/-- The governor purpose (12 section 12.3). -/
def Purpose.code : Purpose → Nat
  | .stitching => 0
  | .replay => 1
  | .jog => 2
  | .park => 3

/-- The burst: none, EMITTING, FROZEN (R102). -/
def burstCode (b : Option Burst) : Nat :=
  match b with
  | Option.none => 0
  | some b => if b.frozen then 2 else 1

/-- The burst source (R102). -/
def BurstSource.code : BurstSource → Nat
  | .head => 0
  | .replay => 1

/-- The feed: none, MOVING, CUTTING, FROZEN, SEARCH_ENDED (R102). -/
def feedCode (f : Option Feed) : Nat :=
  match f with
  | Option.none => 0
  | some f =>
    match f.state with
    | .moving => 1
    | .cutting => 2
    | .frozen => 3
    | .searchEnded => 4

/-- The feed part (R102). -/
def FeedPart.code : FeedPart → Nat
  | .first => 0
  | .second => 1

/-- The state of a bar (R122). -/
def BarState.code : BarState → Nat
  | .up => 0
  | .down => 1
  | .lowering => 2
  | .raising => 3
  | .unknown => 4

/-- The kind of change in hand: none, RECORD, RESTORE, FORCE (R132). -/
def changeCode (c : Option Change) : Nat :=
  match c with
  | Option.none => 0
  | some c =>
    match c.kind with
    | .record => 1
    | .restore => 2
    | .force _ => 3

/-! ## STATUS (R184), group by group -/

/-- Bytes 0..16: the line (R145). -/
def State.lineBytes (s : State) : List Byte :=
  let l := s.line
  u8 l.requested.code ++ u8 l.effective.code ++ u8 (codeOr StopPurpose.code l.stopPurpose)
  ++ u8 (codeOr StopKind.code l.stopKind) ++ u8 l.resumeStep.code
  ++ u16 l.faults.code ++ u8 (codeOr FaultSource.code l.faults.firstSource) ++ refBytes l.faults.firstRef
  ++ flag l.overlapPending ++ u8 l.history.length

/-- Bytes 17..25: planning (R63). With the cursor absent the bytes of its repeat, segment and cap are 0 (log 43). -/
def State.planBytes (s : State) : List Byte :=
  let p := s.planner
  u8 p.queue.length ++ u8 (p.queue.takeWhile fun r => !r.isStop).length ++ u8 (codeOr PlanRecord.kindCode p.head)
  ++ match p.cursor with
    | some c => u8 c.stage.code ++ u8 c.repeatNo ++ u16 c.segment ++ u16 c.cap
    | Option.none => u8 absentCode ++ u8 0 ++ u16 0 ++ u16 0

/-- Bytes 26..38: the shaft (R82). -/
def State.shaftBytes (s : State) : List Byte :=
  let h := s.shaft
  u16 h.angle ++ flags [h.angleValid, h.stopped, h.pendingSet.isSome] ++ u16 h.speed ++ u16 h.phaseOffset
  ++ u16 h.active.windowOpen ++ u16 h.active.windowClose ++ u16 h.active.stopAngle

/-- Bytes 39..49: the drive (R100). -/
def State.govBytes (s : State) : List Byte :=
  let g := s.gov
  u8 g.state.code ++ u8 (codeOr Purpose.code g.purpose) ++ u16 g.demand ++ u16 g.applied
  ++ u16 (dutyOf g.applied s.params.lineMax) ++ u8 g.inTol ++ u8 g.outTol ++ u8 g.attempts

/-- Bytes 50..72: motion (R120). With no burst or no feed move in hand the bytes of its source, its part and its counts
are 0, and with a feed move that is not a GAP with cut the part is FIRST, 0 (the model's choices, log 43). -/
def State.motionBytes (s : State) : List Byte :=
  let m := s.motion
  s16 m.x ++ flags [m.xKnown, m.homing.isSome, m.cutTimer.isSome] ++ s32 m.panelY
  ++ u8 (burstCode m.burst) ++ u8 ((m.burst.map fun b => b.source.code).getD 0)
  ++ u16 ((m.burst.map fun b => b.x.left).getD 0) ++ u16 ((m.burst.map fun b => b.y.left).getD 0)
  ++ u8 (feedCode m.feed) ++ u8 ((m.feed.map fun f => f.part.code).getD 0)
  ++ u32 ((m.feed.map fun f => f.x.left).getD 0) ++ u32 ((m.feed.map fun f => f.y.left).getD 0)

/-- The two bytes of a bar (R132). -/
def State.barBytes (s : State) (b : Bar) : List Byte :=
  let r := s.bars.get b
  u8 r.state.code ++ flags [r.vlo, r.vra, s.pins.bup.mem b, s.pins.bdn.mem b, r.timedOut]

/-- Bytes 73..84: the bars and the threads (R132, R143). With no change in hand the bytes of its target set and of its
waiting flag are 0 (log 43). -/
def State.barsBytes (s : State) : List Byte :=
  s.barBytes .b0 ++ s.barBytes .b1 ++ s.barBytes .b2 ++ u8 s.bars.engaged.code
  ++ u8 (changeCode s.bars.change) ++ u8 ((s.bars.change.map fun c => c.target.code).getD 0)
  ++ flag ((s.bars.change.map fun c => c.waiting).getD false)
  ++ u8 s.monitor.brokenCount ++ flag s.monitor.chainFault

/-- Bytes 85..97: the active order (R29, R30). With no ACTIVE order the bytes of its phase, current_repeat and
stitches_executed are 0 (log 43). -/
def State.orderBytes (s : State) : List Byte :=
  (match s.schedule.activeOrder with
    | some o => u16 o.spec.orderId ++ u8 o.phase.code ++ u8 o.currentRepeat ++ u16 o.stitchesExecuted
    | Option.none => u16 0 ++ u8 0 ++ u8 0 ++ u16 0)
  ++ refBytes (s.planner.head.map PlanRecord.ref)

/-- Bytes 98..112: the audit (R174) and the Link Port's own two figures (R184). -/
def State.auditBytes (s : State) : List Byte :=
  let a := s.audit
  u8 a.state.code ++ u16 a.cCmd ++ u16 a.cRoll ++ u16 a.cWheel ++ u16 a.revolutions ++ flag s.gateOpen
  ++ u16 a.resultNumber ++ flag s.params.autoAudit ++ u8 s.link.notices.length ++ flag s.link.busySlot.isSome

/-- The 113 bytes of STATUS after the status byte (12 section 12.5). -/
def State.statusBytes (s : State) : List Byte :=
  s.lineBytes ++ s.planBytes ++ s.shaftBytes ++ s.govBytes ++ s.motionBytes ++ s.barsBytes ++ s.orderBytes
  ++ s.auditBytes

/-- Decide a STATUS (R184). -/
def decideStatus (s : State) : State × Reply := (s, Reply.good s.statusBytes)

/-! ## HISTORY and GET_INFO -/

/-- A HISTORY entry (12 section 12.1.1). -/
def Stitch.entry (t : Stitch) : List Byte :=
  s16 t.stepX ++ s16 t.stepY ++ u8 t.bars.code ++ u16 t.ceiling ++ refBytes (some t.ref)

/-- Decide a HISTORY (R161, R184): at most 16 entries from the first index onward. -/
def decideHistory (first : Byte) (s : State) : State × Reply :=
  if 32 ≤ first.toNat then (s, Reply.field 0)
  else (s, Reply.good (u8 s.line.history.length ++ ((s.line.history.drop first.toNat).take 16).flatMap Stitch.entry))

/-- The 17 bytes of GET_INFO (R188, 12 section 12.1.1). -/
def State.infoBytes (s : State) : List Byte :=
  u16 Config.partCode ++ u8 Config.siliconRevision ++ u32 s.link.baud ++ u8 Config.areas ++ u16 Config.areaRecords
  ++ u8 Config.slotCount ++ u8 Config.scheduleCapacity ++ u8 Config.queueCapacity ++ u8 Config.historyCapacity
  ++ u8 Config.needleCount ++ u8 Config.noticeCapacity ++ u8 Config.largestPayload

/-- Decide a GET_INFO (R188). -/
def decideGetInfo (s : State) : State × Reply := (s, Reply.good s.infoBytes)

/-- STATUS (R184). -/
def execStatus (tag : Byte) (s : State) : Host.Outcome State Fault Refusal := finish (request 0x13 tag decideStatus s)

/-- HISTORY (R161, R184). -/
def execHistory (tag first : Byte) (s : State) : Host.Outcome State Fault Refusal :=
  finish (request 0x15 tag (decideHistory first) s)

/-- GET_INFO (R188). -/
def execGetInfo (tag : Byte) (s : State) : Host.Outcome State Fault Refusal :=
  finish (request 0x01 tag decideGetInfo s)

end Sys2Proof.Machine
end

