-- ==== Sys2Proof/Machine/Link.lean ====
section
/-! DEFINITION. The Link Port's frames (chapter 11): the CRC, frames as bytes, the assembler, the dispatch of a completed
frame to its request, the end of a transmission, and RESET. -/

namespace Sys2Proof.Machine

/-! ## The frame check (R176) -/

/-- One bit of the CRC: polynomial 0x1021, most significant bit first. -/
def crcBit (c : BitVec 16) : BitVec 16 := if c.msb then (c <<< 1) ^^^ 0x1021 else c <<< 1

/-- n bits of the CRC. -/
def crcBits : Nat → BitVec 16 → BitVec 16
  | 0, c => c
  | n + 1, c => crcBits n (crcBit c)

/-- One byte of the CRC. -/
def crcByte (c : BitVec 16) (b : Byte) : BitVec 16 := crcBits 8 (c ^^^ (b.setWidth 16 <<< 8))

/-- The CRC of some bytes (R176): initial value 0xFFFF, no reflection, no final exclusive-or. -/
def crc (bs : List Byte) : BitVec 16 := bs.foldl crcByte 0xFFFF

/-- The two check bytes, high byte first (R176). -/
def checkBytes (bs : List Byte) : List Byte := [(crc bs).extractLsb' 8 8, (crc bs).extractLsb' 0 8]

/-- The start byte of a frame (R176). -/
def startByte : Byte := 0xC3

/-- LEN, KIND, TAG and payload: what the frame check covers (R176). -/
def Frame.body (f : Frame) : List Byte := BitVec.ofNat 8 f.payload.length :: f.kind :: f.tag :: f.payload

/-- A frame as it is sent (12 section 12.1). -/
def Frame.bytes (f : Frame) : List Byte := startByte :: (f.body ++ checkBytes f.body)

/-! ## The assembler (R177) -/

/-- What the assembler does with a byte: it goes on hunting or collecting, or a frame completes. -/
inductive Assembly where
  | hunting
  | collecting (bytes : List Byte)
  | complete (frame : Frame)
deriving DecidableEq, Repr

/-- Judge the bytes collected after the start byte (R177): a LEN above 240 discards at once; the last check byte
completes the frame or, when the CRC does not match, discards it. -/
def judgeBytes (bs : List Byte) : Assembly :=
  match bs with
  | [] => .collecting []
  | len :: rest =>
    if Config.largestPayload < len.toNat then .hunting
    else if rest.length < len.toNat + 4 then .collecting bs
    else
      let body := bs.take (len.toNat + 3)
      if bs.drop (len.toNat + 3) = checkBytes body then
        match rest with
        | kind :: tag :: tail => .complete ⟨kind, tag, tail.take len.toNat⟩
        | _ => .hunting
      else .hunting

/-- Take a byte (R177). -/
def assemble (asm : Option (List Byte)) (b : Byte) : Assembly :=
  match asm with
  | Option.none => if b = startByte then .collecting [] else .hunting
  | some bs => judgeBytes (bs ++ [b])

/-- The assembler's condition after a byte: a completed frame leaves it hunting. -/
def Assembly.asm : Assembly → Option (List Byte)
  | .hunting => Option.none
  | .collecting bs => some bs
  | .complete _ => Option.none

/-- Set the assembler. -/
def setAsm (a : Option (List Byte)) (s : State) : State := { s with link := { s.link with asm := a } }

/-! ## RESET (R187) and the end of a transmission (R186) -/

/-- Decide a RESET (R187): its OK reply is placed, the busy slot is emptied, and the reset waits for the reply's end. -/
def decideReset (s : State) : State × Reply :=
  ({ s with link := { s.link with busySlot := Option.none, resetPending := true } }, Reply.good [])

/-- RESET (R187). -/
def execReset (tag : Byte) (s : State) : Host.Outcome State Fault Refusal := finish (request 0x19 tag decideReset s)

/-- The last byte of the frame being sent has been sent (R186): its slot is freed. -/
def txEnds (s : State) : State :=
  match s.link.tx with
  | Option.none => s
  | some (.reply, _) => { s with link := { s.link with tx := Option.none, replySlot := Option.none } }
  | some (.busy, _) => { s with link := { s.link with tx := Option.none, busySlot := Option.none } }
  | some (.notice, _) => { s with link := { s.link with tx := Option.none } }

/-- FRAME_TRANSMITTED (R186): the slot is freed and the next frame is begun. -/
def execFrameTransmitted (s : State) : Host.Outcome State Fault Refusal := finish (live txEnds s)

/-! ## Completed frames (R178) -/

/-- A little-endian 16-bit field. -/
def le16 (lo hi : Byte) : BitVec 16 := hi ++ lo

/-- The pairs of a SET_PARAMS payload; none when the length is not a whole number of pairs. -/
def readPairs : List Byte → Option (List (BitVec 8 × BitVec 32))
  | [] => some []
  | i :: a :: b :: c :: d :: rest => (readPairs rest).map fun ps => (i, (d ++ c ++ b ++ a : BitVec 32)) :: ps
  | _ => Option.none

/-- The records of a PATTERN_ADD payload after the slot; none when the length is not a whole number of records. -/
def readRecords : List Byte → Option (List (BitVec 64))
  | [] => some []
  | a :: b :: c :: d :: e :: f :: g :: h :: rest =>
    (readRecords rest).map fun rs => (h ++ g ++ f ++ e ++ d ++ c ++ b ++ a : BitVec 64) :: rs
  | _ => Option.none

/-- The panel order record of an ORDER_ADD payload (12 section 12.2); none when the length is not 19. -/
def readOrder : List Byte → Option OrderFields
  | [a0, a1, slot, reps, len, tack, s0, s1, x0, x1, i0, i1, o0, o1, g0, g1, mark, cut, mask] =>
    some { orderId := le16 a0 a1, slot := slot, repeats := reps, stitchLen := len, tack := tack
           speedLimit := le16 s0 s1, xOffset := le16 x0 x1, leadIn := le16 i0 i1, leadOut := le16 o0 o1
           gap := le16 g0 g1, onMark := mark, cut := cut, barMask := mask }
  | _ => Option.none

/-- The command a completed request frame stands for (12 section 12.1). -/
inductive Parsed where
  | command (i : Instr)
  | unknown
  | badLength
  | badMode
deriving DecidableEq, Repr

/-- A request with no content. -/
def parseEmpty (payload : List Byte) (i : Instr) : Parsed := if payload = [] then .command i else .badLength

/-- A request of one byte. -/
def parseOne (payload : List Byte) (f : Byte → Instr) : Parsed :=
  match payload with
  | [a] => .command (f a)
  | _ => .badLength

/-- A request of two bytes. -/
def parseTwo (payload : List Byte) (f : Byte → Byte → Parsed) : Parsed :=
  match payload with
  | [a, b] => f a b
  | _ => .badLength

/-- A MODE by its mode byte (12 section 12.3): the hold kind byte is read only for HOLD (R189). -/
def parseMode (tag m k : Byte) : Parsed :=
  match m.toNat with
  | 0 => .command (.modeIdle tag)
  | 1 => .command (.modeThread tag)
  | 2 => .command (.modeRun tag)
  | 3 => .command (.modeHold tag k)
  | _ => .badMode

/-- Read a completed frame (R178 items 2 and 3, 12 section 12.1). -/
def parseFrame (kind tag : Byte) (payload : List Byte) : Parsed :=
  match kind.toNat with
  | 0x01 => parseEmpty payload (.getInfo tag)
  | 0x02 =>
    match readPairs payload with
    | some ps => if ps.length = 0 ∨ 40 < ps.length then .badLength else .command (.setParams tag ps)
    | Option.none => .badLength
  | 0x03 => if 40 < payload.length then .badLength else .command (.getParams tag payload)
  | 0x04 =>
    match payload with
    | [a, b, c, d, e, f] => .command (.setTiming tag (le16 a b) (le16 c d) (le16 e f))
    | _ => .badLength
  | 0x05 => parseTwo payload fun a b => .command (.rephase tag (le16 a b))
  | 0x06 =>
    match payload with
    | [a, b, c, d, e, f, g] => .command (.patternBegin tag a b (le16 c d) (le16 e f) g)
    | _ => .badLength
  | 0x07 =>
    match payload with
    | [] => .badLength
    | slot :: rest =>
      match readRecords rest with
      | some rs => if rs.length = 0 ∨ 28 < rs.length then .badLength else .command (.patternAdd tag slot rs)
      | Option.none => .badLength
  | 0x08 => parseOne payload fun a => .patternEnd tag a
  | 0x09 => parseOne payload fun a => .patternErase tag a
  | 0x0A => parseOne payload fun a => .patternInfo tag a
  | 0x0B =>
    match readOrder payload with
    | some o => .command (.orderAdd tag o)
    | Option.none => .badLength
  | 0x0C => parseTwo payload fun a b => .command (.orderCancel tag (le16 a b))
  | 0x0D => parseEmpty payload (.scheduleList tag)
  | 0x0E => parseTwo payload (parseMode tag)
  | 0x0F => parseEmpty payload (.abortPanel tag)
  | 0x10 => parseEmpty payload (.homeX tag)
  | 0x11 => parseTwo payload fun a b => .command (.forceBar tag a b)
  | 0x12 => parseEmpty payload (.clearFaults tag)
  | 0x13 => parseEmpty payload (.status tag)
  | 0x14 => parseEmpty payload (.needles tag)
  | 0x15 => parseOne payload fun a => .history tag a
  | 0x16 => parseEmpty payload (.auditStart tag)
  | 0x17 => parseEmpty payload (.auditStop tag)
  | 0x18 => parseEmpty payload (.auditResult tag)
  | 0x19 => parseEmpty payload (.reset tag)
  | _ => .unknown

/-- How each request is decided, for a request that a frame carries. Every row that is not a request has none. -/
def decideRequest : Instr → Option (Byte × Byte × (State → State × Reply))
  | .getInfo t => some (0x01, t, decideGetInfo)
  | .setParams t ps => some (0x02, t, decideSetParams ps)
  | .getParams t ids => some (0x03, t, decideGetParams ids)
  | .setTiming t o c a => some (0x04, t, decideSetTiming o c a)
  | .rephase t a => some (0x05, t, decideRephase a)
  | .patternBegin t sl n x p b => some (0x06, t, decidePatternBegin sl n x p b)
  | .patternAdd t sl rs => some (0x07, t, decidePatternAdd sl rs)
  | .patternEnd t sl => some (0x08, t, decidePatternEnd sl)
  | .patternErase t sl => some (0x09, t, decidePatternErase sl)
  | .patternInfo t sl => some (0x0A, t, decidePatternInfo sl)
  | .orderAdd t o => some (0x0B, t, decideOrderAdd o)
  | .orderCancel t id => some (0x0C, t, decideOrderCancel id)
  | .scheduleList t => some (0x0D, t, decideScheduleList)
  | .modeRun t => some (0x0E, t, decideRun .request)
  | .modeHold t k => some (0x0E, t, decideModeHold k)
  | .modeIdle t => some (0x0E, t, decideRest .idle .idle)
  | .modeThread t => some (0x0E, t, decideRest .thread .threading)
  | .abortPanel t => some (0x0F, t, decideAbort)
  | .homeX t => some (0x10, t, decideHomeX)
  | .forceBar t b d => some (0x11, t, decideForceBar b d)
  | .clearFaults t => some (0x12, t, decideClearFaults)
  | .status t => some (0x13, t, decideStatus)
  | .needles t => some (0x14, t, decideNeedles)
  | .history t f => some (0x15, t, decideHistory f)
  | .auditStart t => some (0x16, t, decideAuditStart)
  | .auditStop t => some (0x17, t, decideAuditStop)
  | .auditResult t => some (0x18, t, decideAuditResult)
  | .reset t => some (0x19, t, decideReset)
  | .resetTakesEffect _ | .resetn | .frameReceived _ _ _ | .interByteGap | .framingErrorOrBreak
  | .frameTransmitted | .encoderCount _ _ | .indexPulse _ | .stopped | .demandPwmPeriod | .stepPulseDue _
  | .feedBegin | .markEdge | .cutTimeExpiry | .homePulseDue | .xhomeAsserted _ | .barChangeBegin
  | .deadTimeExpiry _ | .barTimeout _ | .barInputChange _ _ _ | .estopAsserted | .estopReleased
  | .drvfltAsserted | .drvfltReleased | .startInput | .holdInput | .jogPressed | .jogReleased
  | .scanTimerExpiry | .scanComplete _ _ | .feedRollerEdge _ _ | .measuringWheelEdge _ _ | .byteReceived _
  | .resetnReleased _ => Option.none

/-- Decide a completed frame (R178 items 2 to 4). -/
def decideFrame (kind tag : Byte) (payload : List Byte) (s : State) : State × Reply :=
  match parseFrame kind tag payload with
  | .unknown => (s, ⟨.unknown, []⟩)
  | .badLength => (s, ⟨.badLength, []⟩)
  | .badMode => (s, Reply.field 0)
  | .command i =>
    match decideRequest i with
    | some (_, _, decide) => decide s
    | Option.none => (s, ⟨.unknown, []⟩)

/-- A completed frame is judged (R178, R179): a KIND of 0x80 or above is discarded, as is a payload longer than a frame
can carry (R176). -/
def frameArrives (kind tag : Byte) (payload : List Byte) (s : State) : State :=
  if 0x80 ≤ kind.toNat ∨ Config.largestPayload < payload.length then s
  else request kind tag (decideFrame kind tag payload) s

/-- FRAME_RECEIVED (R178 to R180). -/
def execFrameReceived (kind tag : Byte) (payload : List Byte) (s : State) : Host.Outcome State Fault Refusal :=
  finish (frameArrives kind tag payload s)

/-- Take a byte from LRX (R177): the last check byte of a good frame completes it in this step (log 3). -/
def byteArrives (b : Byte) (s : State) : State :=
  let a := assemble s.link.asm b
  let t := setAsm a.asm s
  match a with
  | .complete f => frameArrives f.kind f.tag f.payload t
  | _ => t

/-- BYTE_RECEIVED (R177). -/
def execByteReceived (byte : Byte) (s : State) : Host.Outcome State Fault Refusal := finish (live (byteArrives byte) s)

/-- INTER_BYTE_GAP (R177): the frame in progress is discarded. -/
def execInterByteGap (s : State) : Host.Outcome State Fault Refusal := finish (live (setAsm Option.none) s)

/-- FRAMING_ERROR_OR_BREAK (R177): the frame in progress is discarded. -/
def execFramingErrorOrBreak (s : State) : Host.Outcome State Fault Refusal := finish (live (setAsm Option.none) s)

end Sys2Proof.Machine
end

