-- ==== Sys2Proof/Machine/Resets.lean ====
section
/-! DEFINITION. The two resets (R187, R188): every block takes the values its own chapter gives. -/

namespace Sys2Proof.Machine

/-- The bars after reset (R123, R132): every bar released and judged from its inputs. -/
def Bars.fromInputs (p : Pins) : Bars :=
  { b0 := BarRec.released0 (judgedState p.bup.b0 p.bdn.b0)
    b1 := BarRec.released0 (judgedState p.bup.b1 p.bdn.b1)
    b2 := BarRec.released0 (judgedState p.bup.b2 p.bdn.b2)
    change := Option.none }

/-- The baud rate the BAUD strap sets (R188). -/
def baudOf (strap : Bool) : Nat := if strap then 460800 else 115200

/-- The sources latched at the end of a reset for asserted inputs, in the order ESTOP, DRIVE (R166). -/
def resetSources (p : Pins) : List FaultSource :=
  (if p.estop then [.estop] else []) ++ (if p.drvflt then [.drive] else [])

/-- The Line Controller after reset (R166): ESTOP and DRIVE latched for asserted inputs, silently. -/
def Line.afterReset (p : Pins) : Line :=
  let sources := resetSources p
  { Line.reset with
    effective := if sources = [] then .idle else .faulted
    faults := ⟨sources.map fun src => (src, .atOnce), sources.head?, Option.none⟩ }

/-- Every block reset, the pins, the waiting commands and the draw counter standing as they are. -/
def resetBlocks (s : State) : State :=
  { State.reset with pins := s.pins, bars := Bars.fromInputs s.pins, draws := s.draws, pending := s.pending }

/-- The end of a reset (R166, R187, R188): the BAUD strap is read and RESET_DONE alone is queued. -/
def endReset (cause : ResetCause) (strap : Bool) (s : State) : State :=
  { resetBlocks s with
    line := Line.afterReset s.pins
    link := { Link.reset with notices := [.resetDone cause], baud := baudOf strap } }

/-- RESETN is asserted (R187): AXEN is low (R105), the scan timer is idle (R144) and nothing is queued until the end of
the reset. -/
def holdReset (s : State) : State :=
  let t := resetBlocks s
  { t with
    resetAsserted := true
    motion := { t.motion with axen := false }
    monitor := { t.monitor with scanTimer := Option.none }
    link := { t.link with notices := [], baud := s.link.baud } }

/-- RESETN (R187). -/
def execResetn (s : State) : Host.Outcome State Fault Refusal := .next (holdReset s)

/-- RESETN_RELEASED (R187, R188): the end of a pin reset. RESET_DONE is left waiting in this step (log 4). -/
def execResetnReleased (strap : Bool) (s : State) : Host.Outcome State Fault Refusal :=
  if s.resetAsserted then .next (endReset .pin strap s) else finish s

/-- RESET_TAKES_EFFECT (R187, R188): after the last byte of the RESET's reply. RESET_DONE is left waiting in this step
(log 4). -/
def execResetTakesEffect (strap : Bool) (s : State) : Host.Outcome State Fault Refusal :=
  if s.link.resetPending ∧ s.link.replySlot = Option.none ∧ ¬ s.resetAsserted then .next (endReset .request strap s)
  else finish s

end Sys2Proof.Machine
end

