-- ==== Sys2Proof/Machine/Dispatch.lean ====
section
/-! DEFINITION. One arm per command: each calls its own meaning. -/

namespace Sys2Proof.Machine

def exec (i : Instr) (s : State) : Host.Outcome State Fault Refusal :=
  match i with
  | .getInfo tag => Sys2Proof.Machine.execGetInfo tag s
  | .setParams tag pairs => Sys2Proof.Machine.execSetParams tag pairs s
  | .getParams tag ids => Sys2Proof.Machine.execGetParams tag ids s
  | .setTiming tag windowOpen windowClose stopAngle => Sys2Proof.Machine.execSetTiming tag windowOpen windowClose stopAngle s
  | .rephase tag angle => Sys2Proof.Machine.execRephase tag angle s
  | .patternBegin tag slot areaCount startX pitch initialBars => Sys2Proof.Machine.execPatternBegin tag slot areaCount startX pitch initialBars s
  | .patternAdd tag slot records => Sys2Proof.Machine.execPatternAdd tag slot records s
  | .patternEnd tag slot => Sys2Proof.Machine.execPatternEnd tag slot s
  | .patternErase tag slot => Sys2Proof.Machine.execPatternErase tag slot s
  | .patternInfo tag slot => Sys2Proof.Machine.execPatternInfo tag slot s
  | .orderAdd tag order => Sys2Proof.Machine.execOrderAdd tag order s
  | .orderCancel tag orderId => Sys2Proof.Machine.execOrderCancel tag orderId s
  | .scheduleList tag => Sys2Proof.Machine.execScheduleList tag s
  | .modeRun tag => Sys2Proof.Machine.execModeRun tag s
  | .modeHold tag kind => Sys2Proof.Machine.execModeHold tag kind s
  | .modeIdle tag => Sys2Proof.Machine.execModeIdle tag s
  | .modeThread tag => Sys2Proof.Machine.execModeThread tag s
  | .abortPanel tag => Sys2Proof.Machine.execAbortPanel tag s
  | .homeX tag => Sys2Proof.Machine.execHomeX tag s
  | .forceBar tag bar direction => Sys2Proof.Machine.execForceBar tag bar direction s
  | .clearFaults tag => Sys2Proof.Machine.execClearFaults tag s
  | .status tag => Sys2Proof.Machine.execStatus tag s
  | .needles tag => Sys2Proof.Machine.execNeedles tag s
  | .history tag first => Sys2Proof.Machine.execHistory tag first s
  | .auditStart tag => Sys2Proof.Machine.execAuditStart tag s
  | .auditStop tag => Sys2Proof.Machine.execAuditStop tag s
  | .auditResult tag => Sys2Proof.Machine.execAuditResult tag s
  | .reset tag => Sys2Proof.Machine.execReset tag s
  | .resetTakesEffect strap => Sys2Proof.Machine.execResetTakesEffect strap s
  | .resetn => Sys2Proof.Machine.execResetn s
  | .frameReceived kind tag payload => Sys2Proof.Machine.execFrameReceived kind tag payload s
  | .interByteGap => Sys2Proof.Machine.execInterByteGap s
  | .framingErrorOrBreak => Sys2Proof.Machine.execFramingErrorOrBreak s
  | .frameTransmitted => Sys2Proof.Machine.execFrameTransmitted s
  | .encoderCount sha shb => Sys2Proof.Machine.execEncoderCount sha shb s
  | .indexPulse now => Sys2Proof.Machine.execIndexPulse now s
  | .stopped => Sys2Proof.Machine.execStopped s
  | .demandPwmPeriod => Sys2Proof.Machine.execDemandPwmPeriod s
  | .stepPulseDue axis => Sys2Proof.Machine.execStepPulseDue axis s
  | .feedBegin => Sys2Proof.Machine.execFeedBegin s
  | .markEdge => Sys2Proof.Machine.execMarkEdge s
  | .cutTimeExpiry => Sys2Proof.Machine.execCutTimeExpiry s
  | .homePulseDue => Sys2Proof.Machine.execHomePulseDue s
  | .xhomeAsserted level => Sys2Proof.Machine.execXhomeAsserted level s
  | .barChangeBegin => Sys2Proof.Machine.execBarChangeBegin s
  | .deadTimeExpiry bar => Sys2Proof.Machine.execDeadTimeExpiry bar s
  | .barTimeout bar => Sys2Proof.Machine.execBarTimeout bar s
  | .barInputChange bar bup bdn => Sys2Proof.Machine.execBarInputChange bar bup bdn s
  | .estopAsserted => Sys2Proof.Machine.execEstopAsserted s
  | .estopReleased => Sys2Proof.Machine.execEstopReleased s
  | .drvfltAsserted => Sys2Proof.Machine.execDrvfltAsserted s
  | .drvfltReleased => Sys2Proof.Machine.execDrvfltReleased s
  | .startInput => Sys2Proof.Machine.execStartInput s
  | .holdInput => Sys2Proof.Machine.execHoldInput s
  | .jogPressed => Sys2Proof.Machine.execJogPressed s
  | .jogReleased => Sys2Proof.Machine.execJogReleased s
  | .scanTimerExpiry => Sys2Proof.Machine.execScanTimerExpiry s
  | .scanComplete first rest => Sys2Proof.Machine.execScanComplete first rest s
  | .feedRollerEdge fra frb => Sys2Proof.Machine.execFeedRollerEdge fra frb s
  | .measuringWheelEdge mwa mwb => Sys2Proof.Machine.execMeasuringWheelEdge mwa mwb s
  | .byteReceived byte => Sys2Proof.Machine.execByteReceived byte s
  | .resetnReleased strap => Sys2Proof.Machine.execResetnReleased strap s

end Sys2Proof.Machine
end

