-- ==== Sys2Proof/Safety.lean ====
section
/-! DEFINITION. The terms statements are made in: when the block takes a request, the state an answered request leaves,
what each command does to the input levels, the frame of a request, and the invariants that every step keeps. Each
invariant is decidable and cites the rules it says. -/

namespace Sys2Proof.Machine

/-! ## Requests -/

/-- The next completed request is taken (R179, R187): the reply slot is empty, no RESET is pending and RESETN is not
asserted. -/
abbrev State.takesRequests (s : State) : Prop :=
  s.resetAsserted = false ∧ s.link.resetPending = false ∧ s.link.replySlot = none

/-- The state with a reply placed in the reply slot (R178, R180). -/
def State.answered (s : State) (kind tag : Byte) (r : Reply) : State :=
  { s with link := { s.link with replySlot := some (replyFrame kind tag r) } }

/-- A notice has been raised (R185, R186): it waits in the Notice Queue, or it is being sent. -/
def State.notified (s : State) (n : Notice) : Prop := n ∈ s.link.notices ∨ s.link.tx = some (.notice, n.frame)

/-- The payload of a request's frame (12 section 12.1); none for a row that is not a request. -/
def requestFrame : Instr → Option (Byte × Byte × List Byte)
  | .getInfo t => some (0x01, t, [])
  | .setParams t ps => some (0x02, t, ps.flatMap fun p => p.1 :: (List.range 4).map fun k => p.2.extractLsb' (8 * k) 8)
  | .getParams t ids => some (0x03, t, ids)
  | .setTiming t o c a => some (0x04, t, u16 o.toNat ++ u16 c.toNat ++ u16 a.toNat)
  | .rephase t a => some (0x05, t, u16 a.toNat)
  | .patternBegin t sl n x p b => some (0x06, t, [sl, n] ++ u16 x.toNat ++ u16 p.toNat ++ [b])
  | .patternAdd t sl rs => some (0x07, t, sl :: rs.flatMap fun r => (List.range 8).map fun k => r.extractLsb' (8 * k) 8)
  | .patternEnd t sl => some (0x08, t, [sl])
  | .patternErase t sl => some (0x09, t, [sl])
  | .patternInfo t sl => some (0x0A, t, [sl])
  | .orderAdd t o =>
    some (0x0B, t, u16 o.orderId.toNat ++ [o.slot, o.repeats, o.stitchLen, o.tack] ++ u16 o.speedLimit.toNat
      ++ u16 o.xOffset.toNat ++ u16 o.leadIn.toNat ++ u16 o.leadOut.toNat ++ u16 o.gap.toNat
      ++ [o.onMark, o.cut, o.barMask])
  | .orderCancel t id => some (0x0C, t, u16 id.toNat)
  | .scheduleList t => some (0x0D, t, [])
  | .modeIdle t => some (0x0E, t, [0, 0])
  | .modeThread t => some (0x0E, t, [1, 0])
  | .modeRun t => some (0x0E, t, [2, 0])
  | .modeHold t k => some (0x0E, t, [3, k])
  | .abortPanel t => some (0x0F, t, [])
  | .homeX t => some (0x10, t, [])
  | .forceBar t b d => some (0x11, t, [b, d])
  | .clearFaults t => some (0x12, t, [])
  | .status t => some (0x13, t, [])
  | .needles t => some (0x14, t, [])
  | .history t f => some (0x15, t, [f])
  | .auditStart t => some (0x16, t, [])
  | .auditStop t => some (0x17, t, [])
  | .auditResult t => some (0x18, t, [])
  | .reset t => some (0x19, t, [])
  | .resetTakesEffect _ | .resetn | .frameReceived _ _ _ | .interByteGap | .framingErrorOrBreak
  | .frameTransmitted | .encoderCount _ _ | .indexPulse _ | .stopped | .demandPwmPeriod | .stepPulseDue _
  | .feedBegin | .markEdge | .cutTimeExpiry | .homePulseDue | .xhomeAsserted _ | .barChangeBegin
  | .deadTimeExpiry _ | .barTimeout _ | .barInputChange _ _ _ | .estopAsserted | .estopReleased
  | .drvfltAsserted | .drvfltReleased | .startInput | .holdInput | .jogPressed | .jogReleased
  | .scanTimerExpiry | .scanComplete _ _ | .feedRollerEdge _ _ | .measuringWheelEdge _ _ | .byteReceived _
  | .resetnReleased _ => none

/-- The levels of the inputs after a command: an input event sets its own pins, every other command leaves all of them
(log 5). -/
def pinsAfter (c : Instr) (p : Pins) : Pins :=
  match c with
  | .encoderCount a b => { p with sha := a, shb := b }
  | .xhomeAsserted v => { p with xhome := v }
  | .barInputChange b up dn => { p with bup := p.bup.put b up, bdn := p.bdn.put b dn }
  | .estopAsserted => { p with estop := true }
  | .estopReleased => { p with estop := false }
  | .drvfltAsserted => { p with drvflt := true }
  | .drvfltReleased => { p with drvflt := false }
  | .jogPressed => { p with jog := true }
  | .jogReleased => { p with jog := false }
  | .feedRollerEdge a b => { p with fra := a, frb := b }
  | .measuringWheelEdge a b => { p with mwa := a, mwb := b }
  | .getInfo _ | .setParams _ _ | .getParams _ _ | .setTiming _ _ _ _ | .rephase _ _ | .patternBegin _ _ _ _ _ _
  | .patternAdd _ _ _ | .patternEnd _ _ | .patternErase _ _ | .patternInfo _ _ | .orderAdd _ _ | .orderCancel _ _
  | .scheduleList _ | .modeRun _ | .modeHold _ _ | .modeIdle _ | .modeThread _ | .abortPanel _ | .homeX _
  | .forceBar _ _ _ | .clearFaults _ | .status _ | .needles _ | .history _ _ | .auditStart _ | .auditStop _
  | .auditResult _ | .reset _ | .resetTakesEffect _ | .resetn | .frameReceived _ _ _ | .interByteGap
  | .framingErrorOrBreak | .frameTransmitted | .indexPulse _ | .stopped | .demandPwmPeriod | .stepPulseDue _
  | .feedBegin | .markEdge | .cutTimeExpiry | .homePulseDue | .barChangeBegin | .deadTimeExpiry _ | .barTimeout _
  | .startInput | .holdInput | .scanTimerExpiry | .scanComplete _ _ | .byteReceived _ | .resetnReleased _ => p

/-- The assembler after some bytes none of which completes a frame. -/
def collect (asm : Option (List Byte)) (bs : List Byte) : Option (List Byte) :=
  bs.foldl (fun a b => (assemble a b).asm) asm

/-- The lengths the table of 12 section 12.1 allows a request KIND. -/
def allowedLength (kind n : Nat) : Bool :=
  match kind with
  | 0x02 => decide (n % 5 = 0 ∧ 5 ≤ n ∧ n ≤ 200)
  | 0x03 => decide (n ≤ 40)
  | 0x04 => decide (n = 6)
  | 0x05 => decide (n = 2)
  | 0x06 => decide (n = 7)
  | 0x07 => decide (n % 8 = 1 ∧ 9 ≤ n ∧ n ≤ 225)
  | 0x08 => decide (n = 1)
  | 0x09 => decide (n = 1)
  | 0x0A => decide (n = 1)
  | 0x0B => decide (n = 19)
  | 0x0C => decide (n = 2)
  | 0x0E => decide (n = 2)
  | 0x11 => decide (n = 2)
  | 0x15 => decide (n = 1)
  | _ => decide (n = 0)

/-- The running points of a pattern after the origin (R5, R12): the point after each STITCH and JUMP. -/
def runningPoints : Int × Int → List Segment → List (Int × Int)
  | _, [] => []
  | p, .stitch dx dy _ :: rest => (p.1 + dx, p.2 + dy) :: runningPoints (p.1 + dx, p.2 + dy) rest
  | p, .jump dx dy :: rest => (p.1 + dx, p.2 + dy) :: runningPoints (p.1 + dx, p.2 + dy) rest
  | p, .bars _ :: rest => runningPoints p rest
  | p, .speed _ :: rest => runningPoints p rest
  | p, .tack _ :: rest => runningPoints p rest

/-- The move of a STITCH or JUMP is in range (R5). -/
abbrev moveInRange (dx dy : Int) : Prop :=
  -2400 ≤ dx ∧ dx ≤ 2400 ∧ -10000 ≤ dy ∧ dy ≤ 10000 ∧ (dx ≠ 0 ∨ dy ≠ 0)

/-- The eight bytes of a record (12 section 12.2) read as this segment, every field in the range R5 gives it. -/
def Segment.reads (x : Segment) (w : BitVec 64) : Prop :=
  match x with
  | .stitch dx dy len =>
    w.extractLsb' 0 8 = 1 ∧ (w.extractLsb' 16 16).toInt = dx ∧ (w.extractLsb' 32 16).toInt = dy
    ∧ (w.extractLsb' 48 8).toNat = len ∧ moveInRange dx dy ∧ (len = 0 ∨ (10 ≤ len ∧ len ≤ 80))
  | .jump dx dy =>
    w.extractLsb' 0 8 = 2 ∧ (w.extractLsb' 16 16).toInt = dx ∧ (w.extractLsb' 32 16).toInt = dy ∧ moveInRange dx dy
  | .bars set =>
    w.extractLsb' 0 8 = 3 ∧ set = ⟨w.getLsbD 16, w.getLsbD 17, w.getLsbD 18⟩ ∧ w.extractLsb' 19 5 = 0
    ∧ set.isEmpty = false
  | .speed cap =>
    w.extractLsb' 0 8 = 4 ∧ (w.extractLsb' 16 16).toNat = cap ∧ (cap = 0 ∨ (60 ≤ cap ∧ cap ≤ 2000))
  | .tack n => w.extractLsb' 0 8 = 5 ∧ (w.extractLsb' 16 8).toNat = n ∧ 1 ≤ n ∧ n ≤ 6

/-- A segment that is a STITCH. -/
def Segment.isStitch : Segment → Bool
  | .stitch _ _ _ => true
  | _ => false

/-- A segment that is a JUMP. -/
def Segment.isJump : Segment → Bool
  | .jump _ _ => true
  | _ => false

/-- A pattern that closes (R10): segment 0 is no JUMP, some segment is a STITCH, and every running point lies in the frame
and not behind the origin. -/
abbrev closesWell (startX : Nat) (xs : List Segment) : Prop :=
  (xs.head?.map Segment.isJump ≠ some true) ∧ xs.any Segment.isStitch = true
  ∧ ∀ p ∈ runningPoints (0, 0) xs, 0 ≤ startX + p.1 ∧ startX + p.1 ≤ 2400 ∧ 0 ≤ p.2

/-- The next records a cursor plans (R41), at most n. -/
def planned (s : State) : Nat → Cursor → List PlanRecord
  | 0, _ => []
  | n + 1, c =>
    match planNext s planFuel c with
    | none => []
    | some (r, c') => r :: planned s n c'

/-- The cursor after the next `n` records of a cursor's order have been planned (R42). -/
def cursorAfter (s : State) : Nat → Cursor → Cursor
  | 0, c => c
  | n + 1, c =>
    match planNext s planFuel c with
    | none => c
    | some (_, c') => cursorAfter s n c'

/-- The drive with nothing turning it and nothing asked (R101). -/
abbrev Gov.idle (g : Gov) : Prop := g.state = .halted ∧ g.purpose = none ∧ g.released = false ∧ g.demand = 0 ∧ g.applied = 0

/-- No move in hand at the Motion Output (R102). -/
abbrev Motion.still (m : Motion) : Prop := m.burst = none ∧ m.feed = none ∧ m.asideFeed = none ∧ m.backMove = none ∧ m.homing = none

/-! ## Invariants -/

/-- The record of one slot (R1, R3): EMPTY reads zero; a slot that owns areas keeps its run inside the memory, its
segments inside its run and its fields in range; only a READY slot is counted or has at-close figures. -/
abbrev SlotShape (r : Slot) : Prop :=
  (r.state = .empty → r = Slot.empty)
  ∧ (r.state ≠ .empty →
      1 ≤ r.areaCount ∧ r.firstArea + r.areaCount ≤ 16 ∧ r.segmentCount ≤ 256 * r.areaCount
      ∧ r.startX ≤ 2400 ∧ 1 ≤ r.pitch ∧ r.pitch ≤ 10000 ∧ r.initialBars.isEmpty = false)
  ∧ (r.state ≠ .ready → r.useCount = 0 ∧ r.atClose = AtClose.zero)
  ∧ (r.state = .ready → 1 ≤ r.segmentCount)

/-- A place of segment memory is one of a slot's segments (R1). -/
def Slot.holds (r : Slot) (a : Nat) : Bool :=
  decide (r.state ≠ .empty) && decide (256 * r.firstArea ≤ a) && decide (a < 256 * r.firstArea + r.segmentCount)

/-- The Pattern Store (R1, R3, R4): sixteen slots, each area owned by at most one, at most one slot LOADING, every segment
of every slot present and no other place filled, the memory in its canonical form. -/
abbrev StoreShape (t : Store) : Prop :=
  t.slots.length = 16
  ∧ SegMem.wf t.segMem = true
  ∧ (∀ i < 16, SlotShape (t.slot i))
  ∧ (∀ i < 16, ∀ j < 16, i ≠ j → ∀ a < 16, ((t.slot i).owns a && (t.slot j).owns a) = false)
  ∧ (∀ i < 16, ∀ j < 16, (t.slot i).state = .loading → (t.slot j).state = .loading → i = j)
  ∧ (∀ i < 16, ∀ k < (t.slot i).segmentCount, (t.segment i k).isSome = true)
  ∧ (∀ c ∈ t.segMem, (List.range 16).any (fun i => (t.slot i).holds c.1) = true)

/-- The head order is ACTIVE and every order behind it QUEUED (R25). -/
def activeAtHead : List Order → Bool
  | [] => true
  | o :: rest => decide (o.state = .active) && rest.all fun x => decide (x.state = .queued)

/-- The Panel Schedule and the use counts (R16, R25): at most 8 orders with distinct ids, the ACTIVE one at the head, and
each slot's use_count the number of orders that name it, which are all on READY slots. -/
abbrev ScheduleShape (s : State) : Prop :=
  s.store.slots.length = 16
  ∧ s.schedule.orders.length ≤ 8
  ∧ (s.schedule.orders.map fun o => o.spec.orderId).Nodup
  ∧ activeAtHead s.schedule.orders = true
  ∧ (∀ o ∈ s.schedule.orders, o.spec.slot < 16)
  ∧ (∀ i < 16, (s.store.slot i).useCount = (s.schedule.orders.filter fun o => decide (o.spec.slot = i)).length)
  ∧ (∀ i < 16, 0 < (s.store.slot i).useCount → (s.store.slot i).state = .ready)

/-- A GAP record, the last record of an order (R53). -/
def PlanRecord.isGap : PlanRecord → Bool
  | .feed .gap _ _ _ => true
  | _ => false

/-- The Plan Queue and the cursor (R37, R42, R54): at most 8 records, all of the ACTIVE order; a cursor exactly while an
order is ACTIVE, holding that order; no record without one; a GAP last, with the cursor FINISHED. -/
abbrev PlanShape (s : State) : Prop :=
  activeAtHead s.schedule.orders = true
  ∧ s.planner.queue.length ≤ 8
  ∧ s.planner.cursor.map (fun c => c.order) = s.schedule.activeOrder.map (fun o => o.spec)
  ∧ (s.orderActive = false → s.planner.queue = [])
  ∧ (∀ r ∈ s.planner.queue, s.schedule.activeOrder.map (fun o => o.spec.orderId) = some r.ref.orderId)
  ∧ s.planner.queue.dropLast.any PlanRecord.isGap = false
  ∧ (s.planner.queue.any PlanRecord.isGap = true → s.planner.cursor.map (fun c => c.stage) = some .finished)

/-- The Notice Queue (R185): at most 9 notices, no two of one kind. -/
abbrev NoticeShape (k : Link) : Prop := k.notices.length ≤ 9 ∧ (k.notices.map Notice.kind).Nodup

/-- The Speed Governor (R84 to R86, R92, R96): HALTED means held, purpose none and demand 0; held means applied demand 0;
RAMPING and LOCKED mean released; PARKING means purpose PARK, held exactly once braked; the counts in range. -/
abbrev GovShape (g : Gov) : Prop :=
  (g.released = false → g.applied = 0)
  ∧ (g.state = .halted → g.released = false ∧ g.purpose = none ∧ g.demand = 0)
  ∧ (g.state = .ramping ∨ g.state = .locked → g.released = true ∧ g.purpose ≠ none ∧ g.purpose ≠ some .park)
  ∧ (g.state = .parking → g.purpose = some .park ∧ g.released = !g.braked)
  ∧ (g.state ≠ .parking → g.armed = false ∧ g.braked = false)
  ∧ (g.braked = true → g.armed = true)
  ∧ (g.replayCeilings ≠ [] → g.purpose = some .replay)
  ∧ g.inTol ≤ 3 ∧ g.settled ≤ g.inTol ∧ g.armCount ≤ g.inTol ∧ g.outTol ≤ 2 ∧ g.attempts ≤ 3

/-- The held demand (R87, R98): within every term of the limit, and 0 while an AT_ONCE source is latched. -/
abbrev DemandShape (s : State) : Prop :=
  s.gov.demand ≤ limitOf s ∧ (s.line.faults.atOnce = true → s.gov.demand = 0)

/-- X while it is not known (R102, R119): it reads 0 with residue 0, and a homing leaves it unknown. -/
abbrev MotionShape (m : Motion) : Prop :=
  (m.xKnown = false → m.x = 0 ∧ m.ex = 0) ∧ (m.homing ≠ none → m.xKnown = false)

/-- One bar (R122 to R125): its two valves never both energized, and in each state only the valves R122 allows; during
the dead time both off; the bar_timeout runs only for a moving bar whose target valve is energized. -/
abbrev BarShape (r : BarRec) : Prop :=
  (r.vlo && r.vra) = false
  ∧ (r.state = .down ∨ r.state = .lowering → r.vra = false)
  ∧ (r.state = .up ∨ r.state = .raising → r.vlo = false)
  ∧ (r.state = .unknown → r.released = true)
  ∧ (r.released = true → r.vlo = false ∧ r.vra = false ∧ r.timer = .idle ∧ r.timedOut = false
      ∧ r.state ≠ .lowering ∧ r.state ≠ .raising)
  ∧ (r.timer.isDead = true → (r.state = .lowering ∨ r.state = .raising) ∧ r.vlo = false ∧ r.vra = false)
  ∧ (r.timer.isConfirm = true → (r.state = .lowering ∧ r.vlo = true) ∨ (r.state = .raising ∧ r.vra = true))

/-- A bar as a change with a target for it begins with the shaft stopped (R124, with R125 where dead_time is 0): held at the
target it stands; moving there with the target valve energized it gets a fresh bar_timeout; still in its dead time that
goes on; otherwise its sequence starts, a dead_time of 0 energizing the target valve at once. -/
def State.judgedBar (s : State) (b : Bar) (down : Bool) : BarRec :=
  let r := s.bars.get b
  let moving : BarState := if down then .lowering else .raising
  let off : BarRec := ⟨moving, down && r.vlo, !down && r.vra, false, false, .deadTime s.params.deadTime⟩
  let on : BarRec := { off with vlo := down, vra := !down, timer := .confirm s.params.barTimeout }
  let up := s.pins.bup.mem b
  let dn := s.pins.bdn.mem b
  if r.heldAt down then r
  else if r.state = moving ∧ (if down then r.vlo else r.vra) then
    { r with timer := .confirm s.params.barTimeout, timedOut := false }
  else if r.state = moving ∧ r.timer.isDead then r
  else if 1 ≤ s.params.deadTime then off
  else if (if down then dn && !up else up && !dn) then
    { on with state := if down then .down else .up, timer := .idle }
  else on

/-- The three bars. -/
abbrev BarsShape (u : Bars) : Prop := BarShape u.b0 ∧ BarShape u.b1 ∧ BarShape u.b2

/-- The Line Controller (R145, R148, R157): stop purpose, kind and hold origin stand exactly in the modes that carry
them; the stitching permission is granted while RUNNING and, else, only STOPPING for an AT_SEGMENT hold; no resume step
where the line stands; no source latched twice; FAULTED or STOPPING for FAULT only with a source latched. -/
abbrev LineShape (l : Line) : Prop :=
  l.stopPurpose.isSome = decide (l.effective = .stopping)
  ∧ l.stopKind.isSome = decide (l.effective = .stopping)
  ∧ (l.stopPurpose = some .feed ∨ l.stopPurpose = some .endOfPanel → l.stopKind = some .park)
  ∧ (l.stopPurpose = some .hold ∨ l.stopPurpose = some .fault → l.stopKind ≠ some .park)
  ∧ l.holdOrigin.isSome = decide (l.stopPurpose = some .hold)
  ∧ (l.effective = .running → l.permission = true)
  ∧ (l.permission = true →
      l.effective = .running ∨ (l.stopPurpose = some .hold ∧ l.stopKind = some .atSegment))
  ∧ (l.effective.endsResume = true → l.resumeStep = .none)
  ∧ (l.faults.latched.map fun e => e.1).Nodup
  ∧ (l.faults.latched = [] ↔ l.faults.firstSource = none)
  ∧ (l.effective = .faulted ∨ l.stopPurpose = some .fault → l.faults.latched ≠ [])

/-- The Stitch History and the replay list hold at most 32 entries (R145, R161). -/
abbrev HistoryShape (l : Line) : Prop := l.history.length ≤ 32 ∧ l.replay.length ≤ 32

/-- The parameters (R61, R137, 12 section 12.6): each in its range, no fitted needle beyond the chain, and the
configuration guard holding for the window width most recently accepted. -/
abbrev ParamShape (s : State) : Prop :=
  (∀ id ∈ ParamId.all, id.range.1 ≤ s.params.get id ∧ s.params.get id ≤ id.range.2)
  ∧ s.params.beyondChain = false
  ∧ guardFault s.params s.shaft.accepted.width = none

/-- The Travel Audit (R167, R171): no counter past 65535, none at 65535 while COUNTING, and the last result numbered by
the result number. -/
abbrev AuditShape (a : Audit) : Prop :=
  a.cCmd ≤ 65535 ∧ a.cRoll ≤ 65535 ∧ a.cWheel ≤ 65535 ∧ a.revolutions ≤ 65535 ∧ a.resultNumber ≤ 65535
  ∧ (a.state = .counting → a.cCmd < 65535 ∧ a.cRoll < 65535 ∧ a.cWheel < 65535)
  ∧ (a.last.map fun r => r.number) = (if a.resultNumber = 0 then none else some a.resultNumber)

/-- A timing set that SET_TIMING accepts (R79). -/
abbrev TimingShape (t : TimingSet) : Prop :=
  t.windowOpen < 4096 ∧ t.windowClose < 4096 ∧ t.stopAngle < 4096 ∧ 512 ≤ t.width ∧ t.width ≤ 2560
  ∧ 1 ≤ forwardCounts t.windowOpen t.stopAngle ∧ forwardCounts t.windowOpen t.stopAngle < t.width

/-- The Shaft Timing Unit (R66, R70, R79): the position's range with and without a valid angle, the phase offset's, and
the timing sets. -/
abbrev ShaftShape (h : Shaft) : Prop :=
  (h.angleValid = true → -4103 ≤ h.position ∧ h.position ≤ 4103)
  ∧ (h.angleValid = false → 0 ≤ h.position ∧ h.position ≤ 4095)
  ∧ h.phaseOffset < 4096 ∧ h.reverseRun ≤ 65535
  ∧ TimingShape h.active ∧ (∀ t ∈ h.pendingSet, TimingShape t)

/-- The state of a needle against its fitted flag and its bar (R136, R138). -/
def needleFits (fitted down : Bool) : NeedleState → Bool
  | .unused => !fitted
  | .idle => fitted && !down
  | .grace _ => fitted && down
  | .armed _ => fitted && down
  | .broken _ _ => fitted

/-- The Needle Table (R136 to R138): 96 records, UNUSED exactly when not fitted, IDLE only on a bar that is not DOWN, GRACE
and ARMED only on a bar that is DOWN; while RESETN is asserted no needle is fitted (R144). -/
abbrev NeedleShape (s : State) : Prop :=
  s.monitor.needles.length = 96
  ∧ (∀ i < 96, needleFits (s.params.fitted i) (s.bars.engaged.mem (needleBar i))
      (s.monitor.needles.getD i .unused) = true)
  ∧ (s.resetAsserted = true → ∀ i < 96, s.params.fitted i = false)

end Sys2Proof.Machine
end

