-- ==== Sys2Proof/WellFormed.lean ====
section
/-! DEFINITION. Which commands a sender can form: the counts that a payload's length allows (12 section 12.1). -/

namespace Sys2Proof

/-- A command that a frame or an event can carry. The widths of fields are in their types; what is left to check is
the number of pairs, identifiers, records and payload bytes. -/
def Instr.wellFormed : Instr → Bool
  | .getInfo _ => true
  | .setParams _ pairs => 1 ≤ pairs.length && pairs.length ≤ 40
  | .getParams _ ids => ids.length ≤ 40
  | .setTiming _ _ _ _ => true
  | .rephase _ _ => true
  | .patternBegin _ _ _ _ _ _ => true
  | .patternAdd _ _ records => 1 ≤ records.length && records.length ≤ 28
  | .patternEnd _ _ => true
  | .patternErase _ _ => true
  | .patternInfo _ _ => true
  | .orderAdd _ _ => true
  | .orderCancel _ _ => true
  | .scheduleList _ => true
  | .modeRun _ => true
  | .modeHold _ _ => true
  | .modeIdle _ => true
  | .modeThread _ => true
  | .abortPanel _ => true
  | .homeX _ => true
  | .forceBar _ _ _ => true
  | .clearFaults _ => true
  | .status _ => true
  | .needles _ => true
  | .history _ _ => true
  | .auditStart _ => true
  | .auditStop _ => true
  | .auditResult _ => true
  | .reset _ => true
  | .resetTakesEffect _ => true
  | .resetn => true
  | .frameReceived _ _ payload => payload.length ≤ 240
  | .interByteGap => true
  | .framingErrorOrBreak => true
  | .frameTransmitted => true
  | .encoderCount _ _ => true
  | .indexPulse _ => true
  | .stopped => true
  | .demandPwmPeriod => true
  | .stepPulseDue _ => true
  | .feedBegin => true
  | .markEdge => true
  | .cutTimeExpiry => true
  | .homePulseDue => true
  | .xhomeAsserted _ => true
  | .barChangeBegin => true
  | .deadTimeExpiry _ => true
  | .barTimeout _ => true
  | .barInputChange _ _ _ => true
  | .estopAsserted => true
  | .estopReleased => true
  | .drvfltAsserted => true
  | .drvfltReleased => true
  | .startInput => true
  | .holdInput => true
  | .jogPressed => true
  | .jogReleased => true
  | .scanTimerExpiry => true
  | .scanComplete _ _ => true
  | .feedRollerEdge _ _ => true
  | .measuringWheelEdge _ _ => true
  | .byteReceived _ => true
  | .resetnReleased _ => true

end Sys2Proof
end

