-- ==== Sys2Proof/Certificates/Slice0/Obligations.lean ====
section
/-! DEFINITION. The statements for the provers. Each says what a command or the machine does, in the terms of Safety.lean
and of the model's own operations. A completion statement's conclusion is that `exec` answers a next state, the state
the rules give; where it is an equation of states, every field it does not write is unchanged. -/

open Sys2Proof Sys2Proof.Machine

/-! ## The machine -/

/-- A step takes the command at the front of the queue and is `exec` of it with the queue's rest; on an empty queue the
block idles (the model's choice, log 1). -/
def Obligations.StepTakesFrontCommand : Prop :=
  (∀ (c : Instr) (rest : List Instr) (s : State),
    s.pending = c :: rest → step s = exec c { s with pending := rest })
  ∧ ∀ s : State, s.pending = [] → step s = .next s

/-- No command stops the block (the model's Fault has no constructor, log 37): every command in every state answers a
next state, which keeps the waiting commands and moves only the input levels that the command is about. -/
def Obligations.EveryCommandCompletes : Prop :=
  ∀ (c : Instr) (s : State), ∃ t, exec c s = .next t ∧ t.pending = s.pending ∧ t.pins = pinsAfter c s.pins

/-! ## Invariants that every step keeps -/

/-- Segment memory and the slots (R1, R3, R4). -/
def Obligations.PatternStoreShapeKept : Prop :=
  ∀ s t : State, StoreShape s.store → step s = .next t → StoreShape t.store

/-- The schedule's order and the use counts (R16, R25). -/
def Obligations.ScheduleAndUseCountsKept : Prop :=
  ∀ s t : State, ScheduleShape s → step s = .next t → ScheduleShape t

/-- The Plan Queue belongs to the ACTIVE order and never holds more than 8 records (R37, R42, R54). -/
def Obligations.PlanQueueFollowsActiveOrderKept : Prop :=
  ∀ s t : State, PlanShape s → step s = .next t → PlanShape t

/-- The Notice Queue holds at most 9 notices and never two of one kind (R185). -/
def Obligations.NoticeKindsDistinctKept : Prop :=
  ∀ s t : State, NoticeShape s.link → step s = .next t → NoticeShape t.link

/-- The governor's states, outputs and counts agree (R84 to R86, R92, R96). That the list of replay ceilings is empty
outside purpose REPLAY, a park among them, is read from R94 and R99 (log 29), and the counts of settled revolutions and of
those that count toward an arming are the model's figures for the proviso of R95 (log 13). -/
def Obligations.GovernorStatesAgreeKept : Prop :=
  ∀ s t : State, GovShape s.gov → step s = .next t → GovShape t.gov

/-- X reads 0 while it is not known, and a homing leaves it unknown (R102, R119). -/
def Obligations.UnknownXReadsZeroKept : Prop :=
  ∀ s t : State, MotionShape s.motion → step s = .next t → MotionShape t.motion

/-- The lower and raise valves of one bar are never energized together (R124), and each bar's state, valves and timer
agree (R122, R123, R125). -/
def Obligations.ValvesInterlockedKept : Prop :=
  ∀ s t : State, BarsShape s.bars → step s = .next t → BarsShape t.bars

/-- The Line Controller's fields agree with its mode (R145, R148, R157), and the Stitch History and the replay list hold
at most 32 entries (R145, R161). -/
def Obligations.LineFieldsAgreeWithModeKept : Prop :=
  ∀ s t : State, step s = .next t →
    (LineShape s.line → LineShape t.line) ∧ (HistoryShape s.line → HistoryShape t.line)

/-- Every parameter stays in its range, no fitted needle passes the chain's end, and the configuration guard holds (R61,
R137, 12 section 12.6). -/
def Obligations.ParametersStayInRangeKept : Prop :=
  ∀ s t : State, ParamShape s → step s = .next t → ParamShape t

/-- The audit counters never pass 65535, and none stands there while an audit is COUNTING (R167, R171). -/
def Obligations.AuditCountersBoundedKept : Prop :=
  ∀ s t : State, AuditShape s.audit → step s = .next t → AuditShape t.audit

/-- The position's range with and without a valid angle, and the accepted timing sets (R66, R70, R79). -/
def Obligations.ShaftPositionRangeKept : Prop :=
  ∀ s t : State, ShaftShape s.shaft → step s = .next t → ShaftShape t.shaft

/-- The Needle Table agrees with the needle map and the bars (R136 to R138). -/
def Obligations.NeedleTableAgreesKept : Prop :=
  ∀ s t : State, NeedleShape s → step s = .next t → NeedleShape t

/-- Every one of these invariants holds right after reset. -/
def Obligations.ResetStateMeetsEveryInvariant : Prop :=
  StoreShape State.reset.store ∧ ScheduleShape State.reset ∧ PlanShape State.reset ∧ NoticeShape State.reset.link
  ∧ GovShape State.reset.gov ∧ DemandShape State.reset ∧ MotionShape State.reset.motion ∧ BarsShape State.reset.bars ∧ LineShape State.reset.line
  ∧ HistoryShape State.reset.line ∧ ParamShape State.reset ∧ AuditShape State.reset.audit
  ∧ ShaftShape State.reset.shaft ∧ NeedleShape State.reset

/-! ## The message link -/

/-- R186: the transmitter sends one frame at a time and no command but its end and a reset takes it away; when it becomes
free the slot of the frame just sent is freed and it begins the reply, else the BUSY reply, else the front notice, else
it waits. A notice raised at an idle line is sent at once, ahead of what its step raises after it; one raised with the
line taken enters the queue (R185). That a notice raised as a request is decided waits behind the request's own reply is
read from R179 (log 4). That a RESET_DONE still waiting goes before a FAULT that has entered ahead of it is the model's
choice (log 4), made because R188 calls RESET_DONE the first notice after a reset. -/
def Obligations.TransmitterSendsByPriority : Prop :=
  (∀ s : State, s.link.tx ≠ none → transmit s = s)
  ∧ (∀ (s : State) (f : Frame), s.resetAsserted = false → s.link.tx = none → s.link.replySlot = some f →
      transmit s = { s with link := { s.link with tx := some (.reply, f) } })
  ∧ (∀ (s : State) (f : Frame), s.resetAsserted = false → s.link.resetPending = false → s.link.tx = none →
      s.link.replySlot = none → s.link.busySlot = some f →
      transmit s = { s with link := { s.link with tx := some (.busy, f) } })
  ∧ (∀ s : State, s.resetAsserted = false → s.link.resetPending = false →
      s.link.tx = none → s.link.replySlot = none → s.link.busySlot = none →
      (∀ (n : Notice) (rest : List Notice), s.link.notices = n :: rest → (∀ m ∈ rest, m.kind ≠ 0x60) →
        transmit s = { s with link := { s.link with tx := some (.notice, n.frame), notices := rest } })
      ∧ ∀ (cause : ResetCause) (before after : List Notice), s.link.notices = before ++ .resetDone cause :: after →
          (∀ m ∈ before, m.kind ≠ 0x60) →
        transmit s = { s with link := { s.link with
          tx := some (.notice, (Notice.resetDone cause).frame), notices := before ++ after } })
  ∧ (∀ s : State, s.link.replySlot = none → s.link.busySlot = none → s.link.notices = [] → transmit s = s)
  ∧ (∀ (n : Notice) (s : State),
      let queued : State := { s with link := { s.link with notices := noticesWith s.link.notices n } }
      (s.resetAsserted = false → s.link.resetPending = false → s.link.tx = none → s.link.replySlot = none →
        s.link.busySlot = none → s.link.notices = [] →
        raiseNotice n s = { s with link := { s.link with tx := some (.notice, n.frame) } })
      ∧ (s.link.tx ≠ none ∨ s.link.resetPending = true ∧ s.link.replySlot = none → raiseNotice n s = queued)
      ∧ inRequest (raiseNotice n) s = queued)
  ∧ (∀ (c : Instr) (s t : State), s.link.tx ≠ none → exec c s = .next t → c ≠ .frameTransmitted → c ≠ .resetn →
      (∀ strap, c ≠ .resetTakesEffect strap ∧ c ≠ .resetnReleased strap) → t.link.tx = s.link.tx)
  ∧ ∀ (s : State) (src : TxSource) (f : Frame), s.resetAsserted = false → s.link.tx = some (src, f) →
      exec .frameTransmitted s = .next (transmit { s with link := { s.link with
        tx := none
        replySlot := if src = .reply then none else s.link.replySlot
        busySlot := if src = .busy then none else s.link.busySlot } })

/-- R185: a notice of a kind already waiting takes that notice's place; otherwise a FAULT enters at the front and any other
kind at the back; the queue keeps at most 9 notices of distinct kinds, and one of them leaves it exactly as its
transmission begins. -/
def Obligations.NoticeEntersByKind : Prop :=
  (∀ (q : List Notice) (n : Notice) (i : Nat), (∃ m ∈ q, m.kind = n.kind) →
    (noticesWith q n)[i]? = (q[i]?).map fun m => if m.kind = n.kind then n else m)
  ∧ (∀ (q : List Notice) (n : Notice), (∀ m ∈ q, m.kind ≠ n.kind) →
      noticesWith q n = if n.kind = 0x62 then n :: q else q ++ [n])
  ∧ (∀ (q : List Notice) (n : Notice), (q.map Notice.kind).Nodup →
      ((noticesWith q n).map Notice.kind).Nodup ∧ (noticesWith q n).length ≤ 9)
  ∧ ∀ s : State,
      ((transmit s).link.notices = s.link.notices
        ∧ ∀ f, (transmit s).link.tx = some (.notice, f) → s.link.tx = some (.notice, f))
      ∨ ∃ (before : List Notice) (n : Notice) (after : List Notice), s.link.notices = before ++ n :: after
          ∧ s.link.tx = none ∧ (transmit s).link.tx = some (.notice, n.frame)
          ∧ (transmit s).link.notices = before ++ after

/-- R178 and R179: a frame of KIND 0x80 or above is discarded; from an accepted RESET until the reset takes effect, and
while RESETN is asserted, every frame that completes is discarded without reply (R187); otherwise, with the reply slot occupied a frame is answered BUSY into an
empty busy slot and discarded with both slots full; a KIND that names no request is answered UNKNOWN and a length the
request does not allow BAD_LENGTH, each changing nothing but the reply slot. R147: a MODE whose mode byte, or whose kind
byte for HOLD, is outside its codes is refused with BAD_VALUE.
That a refusal's detail bytes with nothing named in them are 0 is the model's choice (log 22). -/
def Obligations.FramesJudgedInOrder : Prop :=
  (∀ (kind tag : Byte) (payload : List Byte) (s : State), s.link.resetPending = true ∨ s.resetAsserted = true →
    exec (.frameReceived kind tag payload) s = .next (transmit s))
  ∧ ∀ (kind tag : Byte) (payload : List Byte) (s : State), payload.length ≤ 240 → s.resetAsserted = false →
    s.link.resetPending = false →
    (0x80 ≤ kind.toNat → exec (.frameReceived kind tag payload) s = .next (transmit s))
    ∧ (kind.toNat < 0x80 → s.link.replySlot ≠ none → s.link.busySlot = none →
        exec (.frameReceived kind tag payload) s =
          .next (transmit { s with link := { s.link with busySlot := some ⟨kind + 0x80, tag, [1]⟩ } }))
    ∧ (kind.toNat < 0x80 → s.link.replySlot ≠ none → s.link.busySlot ≠ none →
        exec (.frameReceived kind tag payload) s = .next (transmit s))
    ∧ (s.link.replySlot = none → kind.toNat < 0x80 → kind.toNat = 0 ∨ 0x19 < kind.toNat →
        exec (.frameReceived kind tag payload) s =
          .next (transmit { s with link := { s.link with replySlot := some ⟨kind + 0x80, tag, [2]⟩ } }))
    ∧ (s.link.replySlot = none → 1 ≤ kind.toNat → kind.toNat ≤ 0x19 → allowedLength kind.toNat payload.length = false →
        exec (.frameReceived kind tag payload) s =
          .next (transmit { s with link := { s.link with replySlot := some ⟨kind + 0x80, tag, [3]⟩ } }))
    ∧ (s.link.replySlot = none → kind = 0x0E → ∀ mode hold : Byte, payload = [mode, hold] →
        (3 < mode.toNat → exec (.frameReceived kind tag payload) s =
          .next (transmit { s with link := { s.link with replySlot := some ⟨0x8E, tag, [4, 0, 0, 0, 0, 0, 0]⟩ } }))
        ∧ (mode = 3 → 2 < hold.toNat → exec (.frameReceived kind tag payload) s =
          .next (transmit { s with link := { s.link with replySlot := some ⟨0x8E, tag, [4, 1, 0, 0, 0, 0, 0]⟩ } })))

/-- Decode and encode agree for every request (12 section 12.1): the frame of a well-formed request, received whole, does
exactly what the request does, whatever the state. -/
def Obligations.RequestFrameIsItsCommand : Prop :=
  ∀ (c : Instr) (kind tag : Byte) (payload : List Byte) (s : State), c.wellFormed = true →
    requestFrame c = some (kind, tag, payload) → exec (.frameReceived kind tag payload) s = exec c s

/-- Decode and encode agree for the frame itself (R176, R177): a hunting assembler given the bytes of a frame collects
all but the last, and the last completes that very frame. -/
def Obligations.FrameBytesAreReceived : Prop :=
  ∀ f : Frame, f.payload.length ≤ 240 → ∃ before last bs,
    f.bytes = before ++ [last] ∧ collect none before = some bs ∧ assemble (some bs) last = .complete f

/-- R177: what a byte does to the assembler. Hunting, only 0xC3 begins a frame; a LEN above 240 discards at once; KIND, TAG,
the LEN payload bytes and the first check byte are collected in turn, 0xC3 among them; a wrong check discards; the last
good byte completes the frame, which is judged; a gap, a framing error or a break discards. That the judgement
comes in the step of that last byte, which performs FRAME_RECEIVED itself, is the model's choice (log 3). -/
def Obligations.AssemblerTakesBytes : Prop :=
  (∀ (b : Byte) (s : State), s.resetAsserted = false → s.link.asm = none → b ≠ 0xC3 →
    exec (.byteReceived b) s = .next (transmit s))
  ∧ (∀ s : State, s.resetAsserted = false → s.link.asm = none →
      exec (.byteReceived 0xC3) s = .next (transmit { s with link := { s.link with asm := some [] } }))
  ∧ (∀ (b : Byte) (s : State), s.resetAsserted = false → s.link.asm = some [] →
      exec (.byteReceived b) s = .next (transmit { s with link := { s.link with
        asm := if 240 < b.toNat then none else some [b] } }))
  ∧ (∀ (len b : Byte) (taken : List Byte) (s : State), s.resetAsserted = false → s.link.asm = some (len :: taken) →
      len.toNat ≤ 240 → taken.length < len.toNat + 3 →
      exec (.byteReceived b) s = .next (transmit { s with link := { s.link with asm := some (len :: taken ++ [b]) } }))
  ∧ (∀ (f : Frame) (c0 c1 : Byte) (s : State), s.resetAsserted = false → f.payload.length ≤ 240 →
      s.link.asm = some (f.body ++ [c0]) →
      exec (.byteReceived c1) s =
        if [c0, c1] = checkBytes f.body then
          exec (.frameReceived f.kind f.tag f.payload) { s with link := { s.link with asm := none } }
        else .next (transmit { s with link := { s.link with asm := none } }))
  ∧ ∀ s : State, s.resetAsserted = false →
      exec .interByteGap s = .next (transmit { s with link := { s.link with asm := none } })
      ∧ exec .framingErrorOrBreak s = .next (transmit { s with link := { s.link with asm := none } })

/-- R187 and R188: RESET is answered OK and waits for its reply's end; then, and at the release of RESETN, every block has
its reset values, ESTOP and DRIVE latched silently for asserted inputs (R166), the bars judged from their inputs (R123),
the chain outputs low (R144), XSTEP, YSTEP, XDIR, YDIR and CUT low and AXEN high (R121; with no pulse since the reset,
log 30), and RESET_DONE alone waiting. The values of `State.reset` that the spec does not give are
the model's (log 6, 7). The assertion of RESETN resets every block at once and holds it: that no notice waits, that the
line, the bars and the monitor have their reset values and that no byte is taken until the release is read from R187
(log 8). -/
def Obligations.ResetsRestoreEveryBlock : Prop :=
  let judged : Pins → Bars := fun p =>
    ⟨BarRec.released0 (judgedState p.bup.b0 p.bdn.b0), BarRec.released0 (judgedState p.bup.b1 p.bdn.b1),
      BarRec.released0 (judgedState p.bup.b2 p.bdn.b2), none⟩
  let chainLow : State → Prop := fun t => ∀ us, t.monitor.outputs us = ⟨false, false, false⟩
  (∀ (tag : Byte) (s : State), s.takesRequests →
    exec (.reset tag) s = .next (transmit { s with link := { s.link with
      busySlot := none, resetPending := true, replySlot := some ⟨0x99, tag, [0]⟩ } }))
  ∧ (∀ (strap : Bool) (s : State),
      let after : ResetCause → State := fun cause =>
        { State.reset with
          pins := s.pins, pending := s.pending, draws := s.draws, bars := judged s.pins
          line := { State.reset.line with
            effective := if s.pins.estop || s.pins.drvflt then .faulted else .idle
            faults :=
              ⟨(if s.pins.estop then [(.estop, .atOnce)] else []) ++ (if s.pins.drvflt then [(.drive, .atOnce)] else []),
                if s.pins.estop then some .estop else if s.pins.drvflt then some .drive else none, none⟩ }
          link := { State.reset.link with
            notices := [.resetDone cause], baud := if strap then 460800 else 115200 } }
      (s.resetAsserted = false → s.link.resetPending = true → s.link.replySlot = none →
        exec (.resetTakesEffect strap) s = .next (after .request))
      ∧ (s.resetAsserted = true → exec (.resetnReleased strap) s = .next (after .pin))
      ∧ ∀ cause, chainLow (after cause)
        ∧ (after cause).motion.outputs none none = ⟨false, false, false, false, false, true⟩)
  ∧ (∀ s : State,
      let held : State :=
        { State.reset with
          pins := s.pins, pending := s.pending, draws := s.draws, bars := judged s.pins, resetAsserted := true
          motion := { State.reset.motion with axen := false }
          monitor := { State.reset.monitor with scanTimer := none }
          link := { State.reset.link with notices := [], baud := s.link.baud } }
      exec .resetn s = .next held ∧ chainLow held
      ∧ held.motion.outputs none none = ⟨false, false, false, false, false, false⟩)
  ∧ ∀ (b : Byte) (s : State), s.resetAsserted = true → exec (.byteReceived b) s = .next s

/-! ## Reports -/

/-- Reading changes nothing but the reply slot: GET_INFO (R188), STATUS (R184), NEEDLES (R143, R190), SCHEDULE_LIST (R35),
AUDIT_RESULT (R174), PATTERN_INFO (R15), HISTORY (R161, R184), GET_PARAMS (R183). The layouts are those of 12 sections
12.1.1, 12.2 and 12.5: a SCHEDULE_LIST entry, a HISTORY entry, an AUDIT_RESULT and the NEEDLES payload byte by byte, and of
STATUS its length, the whole group of the active order and one field of every other group. The zeros of the order group
with no ACTIVE order (log 43), a refused HISTORY, and the detail bytes of a refusal (log 22) are the model's choices. -/
def Obligations.ReportsAnswerAndChangeNothing : Prop :=
  (∀ (tag : Byte) (s : State), s.takesRequests →
    exec (.getInfo tag) s = .next (transmit (s.answered 0x01 tag (Reply.good
      ([0x80, 0x02, 0x01] ++ u32 s.link.baud ++ [16, 0x00, 0x01, 16, 8, 8, 32, 96, 9, 240]))))
    ∧ exec (.status tag) s = .next (transmit (s.answered 0x13 tag (Reply.good s.statusBytes)))
    ∧ exec (.needles tag) s = .next (transmit (s.answered 0x14 tag (Reply.good s.needlesBytes)))
    ∧ exec (.scheduleList tag) s = .next (transmit (s.answered 0x0D tag (Reply.good
        (u8 s.schedule.orders.length ++ u8 s.params.lowWater ++ flag s.schedule.armed
          ++ s.schedule.orders.flatMap Order.entry))))
    ∧ exec (.auditResult tag) s = .next (transmit (s.answered 0x18 tag (Reply.good
        ((s.audit.last.map AuditRecord.bytes).getD (List.replicate 31 0)))))
    ∧ (∀ slot : Byte,
        let r := s.store.slot slot.toNat
        (slot.toNat < 16 → exec (.patternInfo tag slot) s = .next (transmit (s.answered 0x0A tag (Reply.good
          ([slot] ++ u8 r.state.code ++ u8 r.firstArea ++ u8 r.areaCount ++ u16 r.segmentCount ++ u16 r.startX
            ++ u16 r.pitch ++ u8 r.initialBars.code ++ s16 r.atClose.xMin ++ s16 r.atClose.xMax
            ++ u32 r.atClose.yMax.toNat ++ s16 r.atClose.endDx ++ u32 r.atClose.endDy.toNat
            ++ flag r.atClose.continuous ++ u8 r.useCount)))))
        ∧ (16 ≤ slot.toNat → exec (.patternInfo tag slot) s = .next (transmit (s.answered 0x0A tag (Reply.field 0)))))
    ∧ (∀ first : Byte,
        (first.toNat < 32 → exec (.history tag first) s = .next (transmit (s.answered 0x15 tag (Reply.good
          (u8 s.line.history.length ++ ((s.line.history.drop first.toNat).take 16).flatMap Stitch.entry)))))
        ∧ (32 ≤ first.toNat → exec (.history tag first) s = .next (transmit (s.answered 0x15 tag (Reply.field 0)))))
    ∧ ∀ ids : List (BitVec 8), ids.length ≤ 40 →
        let known : BitVec 8 → Prop := fun c => 1 ≤ c.toNat ∧ c.toNat ≤ 34
        ((∀ c ∈ ids, known c) → exec (.getParams tag ids) s = .next (transmit (s.answered 0x03 tag (Reply.good
          (((if ids = [] then (List.range 34).map (· + 1) else ids.map BitVec.toNat).map fun c =>
            u8 c ++ s32 (s.params.get ((ParamId.all[c - 1]?).getD .lineMax))).flatten)))))
        ∧ ∀ (before after : List (BitVec 8)) (c : BitVec 8), ids = before ++ c :: after → (∀ d ∈ before, known d) →
            ¬ known c →
            exec (.getParams tag ids) s = .next (transmit (s.answered 0x03 tag
              (Reply.refusal .badValue before.length 0 .none 0))))
  ∧ (∀ s : State,
    s.statusBytes.length = 113
    ∧ s.statusBytes[0]? = some (BitVec.ofNat 8 s.line.requested.code)
    ∧ s.statusBytes[1]? = some (BitVec.ofNat 8 s.line.effective.code)
    ∧ s.statusBytes[5]? = some (BitVec.ofNat 8 s.line.faults.code)
    ∧ s.statusBytes[16]? = some (BitVec.ofNat 8 s.line.history.length)
    ∧ s.statusBytes[17]? = some (BitVec.ofNat 8 s.planner.queue.length)
    ∧ s.statusBytes[26]? = some (BitVec.ofNat 8 s.shaft.angle)
    ∧ s.statusBytes[39]? = some (BitVec.ofNat 8 s.gov.state.code)
    ∧ s.statusBytes[60]? = some (BitVec.ofNat 8 ((s.motion.burst.map fun b => b.x.left).getD 0 / 256))
    ∧ s.statusBytes[79]? = some (BitVec.ofNat 8 s.bars.engaged.code)
    ∧ s.statusBytes[83]? = some (BitVec.ofNat 8 s.monitor.brokenCount)
    ∧ (s.statusBytes.drop 85).take 13 =
        (match s.schedule.activeOrder with
          | some o => u16 o.spec.orderId ++ [BitVec.ofNat 8 o.phase.code, BitVec.ofNat 8 o.currentRepeat]
              ++ u16 o.stitchesExecuted
          | none => List.replicate 6 0)
        ++ (match s.planner.queue with
          | r :: _ => u16 r.ref.orderId ++ [BitVec.ofNat 8 r.ref.repeatNo] ++ u16 r.ref.segment ++ u16 r.ref.stitch
          | [] => List.replicate 7 0)
    ∧ s.statusBytes[98]? = some (BitVec.ofNat 8 s.audit.state.code)
    ∧ s.statusBytes[111]? = some (BitVec.ofNat 8 s.link.notices.length))
  ∧ (∀ s : State, s.monitor.needles.length = 96 →
      let m := s.monitor
      let broken : List Ref := m.needles.filterMap fun st =>
        match st with
        | .broken _ r => some r
        | _ => none
      let refs := (broken.reverse.dedup.reverse).take 12
      let code : NeedleState → Nat := fun st =>
        match st with
        | .unused => 0
        | .idle => 1
        | .armed miss => 2 + miss
        | .grace left => 10 + left
        | .broken miss r => if r ∈ refs then 26 + 8 * refs.idxOf r + miss else 123
      s.needlesBytes.length = 112 + 7 * refs.length
      ∧ s.needlesBytes.take 4 = [BitVec.ofNat 8 s.params.chainBytes,
          BitVec.ofNat 8 ((if m.chainFault then 1 else 0) + (if m.image.isSome then 2 else 0)),
          BitVec.ofNat 8 broken.length, BitVec.ofNat 8 refs.length]
      ∧ (∀ i < 96, (s.needlesBytes[4 + i / 8]?).map (fun b => b.getLsbD (i % 8)) =
          some (((m.image.map Image.high).getD 0).getLsbD i))
      ∧ (∀ (i : Nat) (st : NeedleState), m.needles[i]? = some st →
          s.needlesBytes[16 + i]? = some (BitVec.ofNat 8 (code st + if m.seen.getLsbD i then 128 else 0)))
      ∧ s.needlesBytes.drop 112 = (refs.map fun r =>
          u16 r.orderId ++ [BitVec.ofNat 8 r.repeatNo] ++ u16 r.segment ++ u16 r.stitch).flatten)
  ∧ (∀ o : Order, o.entry =
      u16 o.spec.orderId ++ [BitVec.ofNat 8 o.spec.slot, BitVec.ofNat 8 o.spec.repeats, BitVec.ofNat 8 o.spec.stitchLen,
        BitVec.ofNat 8 o.spec.tack] ++ u16 o.spec.speedLimit ++ s16 o.spec.xOffset ++ u16 o.spec.leadIn
      ++ u16 o.spec.leadOut ++ u16 o.spec.gap ++ flag o.spec.onMark ++ flag o.spec.cut ++ [BitVec.ofNat 8 o.spec.barMask.code]
      ++ if o.state = .active then [1, BitVec.ofNat 8 o.phase.code, BitVec.ofNat 8 o.currentRepeat]
          ++ u16 o.stitchesExecuted ++ flag o.started
        else List.replicate 6 0)
  ∧ (∀ t : Stitch, t.entry = s16 t.stepX ++ s16 t.stepY ++ [BitVec.ofNat 8 t.bars.code] ++ u16 t.ceiling
      ++ u16 t.ref.orderId ++ [BitVec.ofNat 8 t.ref.repeatNo] ++ u16 t.ref.segment ++ u16 t.ref.stitch)
  ∧ (∀ r : AuditRecord, r.bytes =
      [1] ++ u16 r.number ++ [BitVec.ofNat 8 r.cause.code] ++ u16 r.cCmd ++ u16 r.cRoll ++ u16 r.cWheel
      ++ u16 r.revolutions ++ u16 r.driveTol ++ u16 r.tCmd ++ u32 r.tRoll ++ u32 r.tWheel ++ s16 r.driveSlip
      ++ s16 r.materialSlip ++ u16 r.matTol ++ [BitVec.ofNat 8 r.verdict.code])
  ∧ (∀ n < 65536, ∃ a b : Byte, u16 n = [a, b] ∧ a.toNat + 256 * b.toNat = n)
  ∧ (∀ z : Int, -32768 ≤ z → z < 32768 → ∃ a b : Byte, s16 z = [a, b] ∧ (b ++ a : BitVec 16).toInt = z)
  ∧ (∀ n < 4294967296, ∃ a b : BitVec 16, u32 n = u16 a.toNat ++ u16 b.toNat ∧ a.toNat + 65536 * b.toNat = n)
  ∧ ∀ z : Int, -2147483648 ≤ z → z < 2147483648 →
      ∃ a b : BitVec 16, s32 z = u16 a.toNat ++ u16 b.toNat ∧ (b ++ a : BitVec 32).toInt = z

/-! ## Patterns -/

/-- R5: a record is accepted exactly when it reads as a segment of one of the five kinds with every field in its range;
the bytes a kind does not use are ignored. -/
def Obligations.SegmentRecordsAccepted : Prop :=
  ∀ (w : BitVec 64) (x : Segment), parseSegment w = .ok x ↔ x.reads w

/-- R2, R6 and R7: a PATTERN_BEGIN is refused by the first of R6's checks that fails; an accepted one gives the slot the
lowest-numbered run of n areas no other slot owns, with its own areas counted as free; with no such run it is refused
NO_ROOM with the length of the longest run.
That a refusal's detail bytes with nothing named in them are 0 is the model's choice (log 22). -/
def Obligations.PatternBeginReservesLowestRun : Prop :=
  ∀ (tag slot areas bars : Byte) (startX pitch : BitVec 16) (s : State), s.takesRequests →
    let i := slot.toNat
    let n := areas.toNat
    let r := s.store.slot i
    let answer : State → Reply → Prop := fun t q =>
      exec (.patternBegin tag slot areas startX pitch bars) s = .next (transmit (t.answered 0x06 tag q))
    let inRange := i < 16
    let alone := ∀ j < 16, j ≠ i → (s.store.slot j).state ≠ .loading
    let unused := ¬ (r.state = .ready ∧ 0 < r.useCount)
    let countOk := 1 ≤ n ∧ n ≤ 16
    let startOk := startX.toNat ≤ 2400
    let pitchOk := 1 ≤ pitch.toNat ∧ pitch.toNat ≤ 10000
    let barsOk := 1 ≤ bars.toNat ∧ bars.toNat ≤ 7
    let free : Nat → Nat → Prop := fun a m => ∀ k < m, ∀ j < 16, j ≠ i → (s.store.slot j).owns (a + k) = false
    (¬ inRange → answer s (Reply.field 0))
    ∧ (inRange → ¬ alone → answer s (Reply.because .inUse .none))
    ∧ (inRange → alone → ¬ unused → answer s (Reply.because .inUse .none))
    ∧ (inRange → alone → unused → ¬ countOk → answer s (Reply.field 1))
    ∧ (inRange → alone → unused → countOk → ¬ startOk → answer s (Reply.field 2))
    ∧ (inRange → alone → unused → countOk → startOk → ¬ pitchOk → answer s (Reply.field 4))
    ∧ (inRange → alone → unused → countOk → startOk → pitchOk → ¬ barsOk → answer s (Reply.field 6))
    ∧ (inRange → alone → unused → countOk → startOk → pitchOk → barsOk →
      (∀ a, a + n ≤ 16 → free a n → (∀ b < a, ¬ free b n) →
        let loading : Slot :=
          ⟨.loading, a, n, 0, startX.toNat, pitch.toNat, ⟨bars.getLsbD 0, bars.getLsbD 1, bars.getLsbD 2⟩, AtClose.zero, 0⟩
        answer { s with store := Store.setSlot (s.store.freeAreas i) i loading }
          (Reply.good (u8 a)))
      ∧ ∀ longest, (∀ a, a + n ≤ 16 → ¬ free a n) → (∃ a, a + longest ≤ 16 ∧ free a longest) →
          (∀ a m, a + m ≤ 16 → free a m → m ≤ longest) →
          answer s (Reply.refusal .noRoom 0 longest .none 0))

/-- R8: a PATTERN_ADD that carries no record or more than 28, names a slot outside 0..15, or names one that is not LOADING is
refused. An accepted one appends its records after the slot's segments and touches no other slot; a record that
fails R5, or one more record than there are places left, and none is appended.
That a refusal's detail bytes with nothing named in them are 0 is the model's choice (log 22). -/
def Obligations.PatternAddAppends : Prop :=
  ∀ (tag slot : Byte) (records : List (BitVec 64)) (s : State), s.takesRequests →
    let i := slot.toNat
    let r := s.store.slot i
    let answer : State → Reply → Prop := fun t q =>
      exec (.patternAdd tag slot records) s = .next (transmit (t.answered 0x07 tag q))
    let carried := 1 ≤ records.length ∧ records.length ≤ 28
    (¬ carried → answer s ⟨.badLength, []⟩)
    ∧ (carried → 16 ≤ i → answer s (Reply.field 0))
    ∧ (carried → i < 16 → r.state ≠ .loading → answer s (Reply.because .notNow .none))
    ∧ (carried → i < 16 → r.state = .loading → StoreShape s.store →
      (∀ xs : List Segment, records.map parseSegment = xs.map Except.ok →
        (r.segmentCount + xs.length ≤ 256 * r.areaCount →
          ∃ t : Store, answer { s with store := t } (Reply.good (u16 (r.segmentCount + xs.length)))
            ∧ t.segments i = s.store.segments i ++ xs
            ∧ t.slot i = { r with segmentCount := r.segmentCount + xs.length }
            ∧ ∀ j < 16, j ≠ i → t.slot j = s.store.slot j ∧ t.segments j = s.store.segments j)
        ∧ (256 * r.areaCount < r.segmentCount + xs.length →
          answer s (Reply.refusal .noRoom 0 (256 * r.areaCount - r.segmentCount) .none 0)))
      ∧ ∀ (before after : List (BitVec 64)) (w : BitVec 64) (off : Nat), records = before ++ w :: after →
          parseSegment w = .error off → (∀ v ∈ before, ∃ x, parseSegment v = .ok x) →
          answer s (Reply.refusal .badValue (1 + 8 * before.length + off) before.length .none 0))

/-- R10 to R12: a PATTERN_END makes the slot READY exactly when the pattern closes well, with the extents, the end and the
continuity of its running points, the origin among them; otherwise the slot becomes EMPTY and the reply names the first
segment that fails and why. R14: a PATTERN_ERASE makes its slot EMPTY and leaves every other slot and its segments; a
slot that orders use is refused with IN_USE. Both refuse a slot outside 0..15, and PATTERN_END one that is not LOADING.
That a refusal's detail bytes with nothing named in them are 0 is the model's choice (log 22). -/
def Obligations.PatternEndAndErase : Prop :=
  ∀ (tag slot : Byte) (s : State), s.takesRequests →
    let i := slot.toNat
    let r := s.store.slot i
    let xs := s.store.segments i
    let points := (0, 0) :: runningPoints (0, 0) xs
    let emptied : State := { s with store := s.store.emptySlot i }
    let ended : State → Reply → Prop := fun t q =>
      exec (.patternEnd tag slot) s = .next (transmit (t.answered 0x08 tag q))
    let erased : State → Reply → Prop := fun t q =>
      exec (.patternErase tag slot) s = .next (transmit (t.answered 0x09 tag q))
    let inX : Int → Prop := fun x => 0 ≤ r.startX + x ∧ r.startX + x ≤ 2400
    (16 ≤ i → ended s (Reply.field 0) ∧ erased s (Reply.field 0))
    ∧ (i < 16 → r.state ≠ .loading → ended s (Reply.because .notNow .none))
    ∧ (i < 16 → r.state = .loading →
      (closesWell r.startX xs → ∃ c : AtClose,
        ended { s with store := s.store.setSlot i { r with state := .ready, atClose := c, useCount := 0 } }
          (Reply.good (u16 r.segmentCount ++ s16 c.xMin ++ s16 c.xMax ++ u32 c.yMax.toNat ++ s16 c.endDx
            ++ u32 c.endDy.toNat ++ flag c.continuous))
        ∧ (∀ p ∈ points, c.xMin ≤ p.1 ∧ p.1 ≤ c.xMax ∧ p.2 ≤ c.yMax)
        ∧ (∃ p ∈ points, p.1 = c.xMin) ∧ (∃ p ∈ points, p.1 = c.xMax) ∧ (∃ p ∈ points, p.2 = c.yMax)
        ∧ points.getLast? = some (c.endDx, c.endDy)
        ∧ c.continuous = decide (c.endDx = 0 ∧ c.endDy = r.pitch))
      ∧ (xs.head?.map Segment.isJump = some true → ended emptied (Reply.refusal .badValue 0 0 .firstJump 0))
      ∧ (xs.head?.map Segment.isJump ≠ some true →
        (∀ (before after : List Segment) (x : Segment), xs = before ++ x :: after →
          (x.isStitch || x.isJump) = true →
          (∀ p ∈ runningPoints (0, 0) before, inX p.1 ∧ 0 ≤ p.2) →
          ∀ p, (runningPoints (0, 0) (before ++ [x])).getLast? = some p →
            (¬ inX p.1 → ended emptied (Reply.refusal .badValue 0 before.length .xRange 0))
            ∧ (inX p.1 → p.2 < 0 → ended emptied (Reply.refusal .badValue 0 before.length .yNegative 0)))
        ∧ (StoreShape s.store → (∀ p ∈ runningPoints (0, 0) xs, inX p.1 ∧ 0 ≤ p.2) →
          xs.any Segment.isStitch = false →
          ended emptied (Reply.refusal .badValue 0 r.segmentCount .noStitch 0))))
    ∧ (i < 16 → r.useCount = 0 → erased emptied (Reply.good []))
    ∧ (i < 16 → 0 < r.useCount → erased s (Reply.because .inUse .none))
    ∧ (i < 16 → StoreShape s.store →
      emptied.store.slot i = Slot.empty ∧ emptied.store.segments i = []
      ∧ ∀ j < 16, j ≠ i → emptied.store.slot j = s.store.slot j ∧ emptied.store.segments j = s.store.segments j)

/-! ## The schedule -/

/-- R21 to R24: an ORDER_ADD whose record has a field outside its range is refused naming the first such field; one that
passes the checks is appended with its speed_limit clamped to line_max and counted on its slot: QUEUED while an order is
ACTIVE, handed to the Planner on an empty schedule. A full schedule, an id in it, a slot that is not READY, an x_offset
out of the frame and a mask that empties a bar set refuse it, in this order, a BARS segment by its index.
That a refusal's detail bytes with nothing named in them are 0 is the model's choice (log 22). -/
def Obligations.OrderAddAdmitsOrRefuses : Prop :=
  ∀ (tag : Byte) (o : OrderFields) (s : State), s.takesRequests →
    let answer : State → Reply → Prop := fun t q => exec (.orderAdd tag o) s = .next (transmit (t.answered 0x0B tag q))
    let faults : List (Nat × Bool) :=
      [(0, decide (o.orderId = 0)), (2, decide (15 < o.slot.toNat)),
       (3, decide (o.repeats.toNat < 1 ∨ 64 < o.repeats.toNat)),
       (4, decide (o.stitchLen.toNat < 10 ∨ 80 < o.stitchLen.toNat)), (5, decide (6 < o.tack.toNat)),
       (6, decide (o.speedLimit.toNat < 60 ∨ 2000 < o.speedLimit.toNat)),
       (8, decide (o.xOffset.toInt < -2400 ∨ 2400 < o.xOffset.toInt)), (10, decide (2000 < o.leadIn.toNat)),
       (12, decide (2000 < o.leadOut.toNat)), (14, decide (5000 < o.gap.toNat)), (16, decide (1 < o.onMark.toNat)),
       (17, decide (1 < o.cut.toNat)), (18, decide (o.barMask.toNat < 1 ∨ 7 < o.barMask.toNat))]
    let sound := ∀ f ∈ faults, f.2 = false
    let mask : BarSet := ⟨o.barMask.getLsbD 0, o.barMask.getLsbD 1, o.barMask.getLsbD 2⟩
    let spec : OrderSpec :=
      { orderId := o.orderId.toNat, slot := o.slot.toNat, repeats := o.repeats.toNat, stitchLen := o.stitchLen.toNat
        tack := o.tack.toNat, speedLimit := min o.speedLimit.toNat s.params.lineMax, xOffset := o.xOffset.toInt
        leadIn := o.leadIn.toNat, leadOut := o.leadOut.toNat, gap := o.gap.toNat
        onMark := decide (o.onMark = 1), cut := decide (o.cut = 1), barMask := mask }
    let r := s.store.slot spec.slot
    let room := s.schedule.orders.length < 8
    let fresh := ∀ x ∈ s.schedule.orders, x.spec.orderId ≠ o.orderId.toNat
    let fits := 0 ≤ r.startX + o.xOffset.toInt + r.atClose.xMin ∧ r.startX + o.xOffset.toInt + r.atClose.xMax ≤ 2400
    let initialLeft := (r.initialBars.inter mask).isEmpty = false
    let good : Nat → Reply := fun code => Reply.good (u8 code ++ u8 s.schedule.orders.length
      ++ u16 (min o.speedLimit.toNat s.params.lineMax) ++ flag (decide (s.params.lineMax < o.speedLimit.toNat)))
    let order : Order := ⟨spec, .queued, .markSearch, 0, 0, false⟩
    (∀ f, faults.find? (fun x => x.2) = some f → answer s (Reply.field f.1))
    ∧ (sound → ¬ room → answer s (Reply.because .noRoom .none))
    ∧ (sound → room → ¬ fresh → answer s (Reply.because .duplicate .none))
    ∧ (sound → room → fresh → r.state ≠ .ready → answer s (Reply.because .notFound .none))
    ∧ (sound → room → fresh → r.state = .ready → ¬ fits → answer s (Reply.field 8))
    ∧ (sound → room → fresh → r.state = .ready → fits → ¬ initialLeft →
        answer s (Reply.refusal .badValue 18 0 .initial 0))
    ∧ (sound → room → fresh → r.state = .ready → fits → initialLeft →
      (∀ (before after : List Segment) (set : BarSet), s.store.segments spec.slot = before ++ .bars set :: after →
        (∀ u, Segment.bars u ∈ before → (u.inter mask).isEmpty = false) → (set.inter mask).isEmpty = true →
        answer s (Reply.refusal .badValue 18 before.length .none 0))
      ∧ ((∀ set, Segment.bars set ∈ s.store.segments spec.slot → (set.inter mask).isEmpty = false) →
        (s.orderActive = true → answer (inRequest (judgeQueue s.schedule.queuedCount)
          { s with store := s.store.countUse spec.slot
                   schedule := { s.schedule with orders := s.schedule.orders ++ [order] } }) (good 0))
        ∧ (s.orderActive = false → answer (handToPlanner spec
          { s with store := s.store.countUse spec.slot
                   schedule := { s.schedule with orders := s.schedule.orders ++ [order.taken] } }) (good 1))))

/-- R26: an ORDER_CANCEL takes its QUEUED order out of the schedule and off its slot's count; an id of 0, an id the
schedule does not hold and the ACTIVE order are refused. R34: QUEUE_LOW is raised, carrying q and low_water, exactly when
q falls from above low_water to at or below it while armed; that clears armed, and q rising above low_water sets it.
That a QUEUE_LOW raised by the cancel waits behind the request's own reply is the model's reading of R179 (log 4).
That a refusal's detail bytes with nothing named in them are 0 is the model's choice (log 22). -/
def Obligations.OrderCancelAndQueueLow : Prop :=
  (∀ (tag : Byte) (id : BitVec 16) (s : State), s.takesRequests → ScheduleShape s →
    let answer : State → Reply → Prop := fun t q => exec (.orderCancel tag id) s = .next (transmit (t.answered 0x0C tag q))
    (∀ (before after : List Order) (o : Order), s.schedule.orders = before ++ o :: after →
      o.spec.orderId = id.toNat → id.toNat ≠ 0 →
      (o.state = .queued → answer (inRequest (judgeQueue s.schedule.queuedCount)
        { s with store := s.store.dropUse o.spec.slot
                 schedule := { s.schedule with orders := before ++ after } }) (Reply.good []))
      ∧ (o.state = .active → answer s (Reply.because .inUse .none)))
    ∧ (id.toNat = 0 → answer s (Reply.field 0))
    ∧ (id.toNat ≠ 0 → (∀ o ∈ s.schedule.orders, o.spec.orderId ≠ id.toNat) →
        answer s (Reply.because .notFound .none)))
  ∧ ∀ (before : Nat) (s : State),
    let q := s.schedule.queuedCount
    let low := s.params.lowWater
    let t := judgeQueue before s
    (before < q → low < q → t = { s with schedule := { s.schedule with armed := true } })
    ∧ (low < before → q ≤ low → s.schedule.armed = true →
        t = raiseNotice (.queueLow q low) { s with schedule := { s.schedule with armed := false } })
    ∧ (q ≤ before → s.schedule.armed = false ∨ low < q ∨ before ≤ low → t = s)
    ∧ (before < q → q ≤ low → t = s)

/-- R29 to R31: a record that begins for the first time gives the order its phase and current_repeat; the order's first
record also raises PANEL_STARTED, sets started and clears the Stitch History (R161). R32 and R33: as the ACTIVE order
leaves, its slot's use_count falls, PANEL_DONE is raised and the next order becomes ACTIVE with the starting figures of
R27; with none left no cursor stands. -/
def Obligations.OrderBeginsAndEnds : Prop :=
  (∀ (r : PlanRecord) (o : Order) (rest : List Order) (s : State),
    s.schedule.orders = o :: rest → o.state = .active → (∀ x ∈ rest, x.state = .queued) →
    let t := recordBegun r s
    let now : Order := { o with phase := r.phase, currentRepeat := r.ref.repeatNo, started := true }
    (s.planner.headBegun = true → t = s)
    ∧ (s.planner.headBegun = false → o.started = true →
        t = { s with planner := { s.planner with headBegun := true }
                     schedule := { s.schedule with orders := now :: rest } })
    ∧ (s.planner.headBegun = false → o.started = false →
        t = raiseNotice (.panelStarted o.spec.orderId o.spec.slot r.phase) { s with
          planner := { s.planner with headBegun := true }
          schedule := { s.schedule with orders := now :: rest }
          line := { s.line with history := [] } }))
  ∧ ∀ (outcome : PanelOutcome) (o : Order) (rest : List Order) (s : State), ScheduleShape s →
    s.schedule.orders = o :: rest → s.planner.queue = [] →
    let t := endOrder outcome s
    (t.schedule.orders = match rest with
      | [] => []
      | n :: more => { n with state := .active, phase := if n.spec.onMark then .markSearch else .leadIn
                              currentRepeat := 0, stitchesExecuted := 0, started := false } :: more)
    ∧ (t.store.slot o.spec.slot).useCount + 1 = (s.store.slot o.spec.slot).useCount
    ∧ t.notified (.panelDone o.spec.orderId o.spec.slot outcome o.stitchesExecuted)
    ∧ t.planner.cursor.map (fun c => c.order) = rest.head?.map (fun n => n.spec)
    ∧ ScheduleShape t

/-! ## Planning -/

/-- R47: an order handed to the Planner opens with its mark search when it asks for one, its lead-in and the bar change to
the masked initial bars, before anything else. R49 to R55, with R43 to R46: the records of a JUMP, BARS, TACK and STITCH
segment, of the group between two repeats and of the closing group, with their references, bars and flags; a stop inside
the panel stands between `tack` tie tacks of the old bars and as many of the new, and after the GAP nothing is planned.
A SPEED segment makes no record and sets the cap; between the repeats of a continuous pattern whose sets agree nothing
is planned. R42, R46, R49: with the last record of a segment the cursor stands at the next segment, or after the last one
in BETWEEN, or in CLOSING after the last repeat, with the cap lifted; with the last record of the opening and of a group
between two repeats it stands at segment 0 of the next repeat, and with the GAP in FINISHED. R41: the take of an order
appends eight records or all it has, and the removal of the head the cursor's next one. The model's choices here (log 21): a planned
LEAD_IN, which carries its X target and no step_x yet (R48), holds 0 in the place of its step_x; n_stitch is 1 before the
first STITCH segment and keeps its count after the segment; the place is 0 in FINISHED; the cursor moves on as soon as a
group is done; a SPEED segment, and an empty group between two repeats, are passed as the next record is planned. -/
def Obligations.PlanGroupsInOrder : Prop :=
  (∀ (o : OrderSpec) (s : State), s.planner.queue = [] →
    let r := s.store.slot o.slot
    let ref : Nat → Ref := fun place => ⟨o.orderId, 0, 0, place⟩
    let opening : Nat → List PlanRecord := fun place =>
      [.feed (.leadIn (r.startX + o.xOffset)) 0 o.leadIn (ref place),
       .barChange (r.initialBars.inter o.barMask) (ref (place + 1))]
    let whole : List PlanRecord := if o.onMark then .feed .markSearch 0 0 (ref 0) :: opening 1 else opening 0
    let start : Cursor :=
      { order := o, atClose := r.atClose, stage := .opening, repeatNo := 0, segment := 0, place := 0, nStitch := 1, cap := 0
        bars := r.initialBars.inter o.barMask }
    (handToPlanner o s).planner.queue.take whole.length = whole
    ∧ (handToPlanner o s).planner.queue.length ≤ 8
    ∧ (handToPlanner o s).planner.queue = planned s 8 start
    ∧ (handToPlanner o s).planner.cursor = some (cursorAfter s 8 start)
    ∧ cursorAfter s whole.length start = { start with stage := .repeating, repeatNo := 1 })
  ∧ (∀ (c : Cursor) (s : State), c.place = 0 →
    let o := c.order
    let r := s.store.slot o.slot
    let segment := s.store.segment o.slot c.segment
    let first := r.initialBars.inter o.barMask
    let ref : Nat → Ref := fun place => ⟨o.orderId, c.repeatNo, c.segment, place⟩
    let ceiling : Int → Int → Nat := ceilingOf s.params s.shaft.accepted.width c.cap
    let tack : BarSet → Nat → Bool → PlanRecord := fun bars place last =>
      .tack ⟨0, 0, bars, ceiling 0 0, ref place⟩ last
    let tacks : BarSet → Nat → Nat → List PlanRecord := fun bars place n =>
      (List.range n).map fun j => tack bars (place + j) (decide (j + 1 = n))
    let around : List PlanRecord → BarSet → List PlanRecord := fun stop bars =>
      ((List.range o.tack).map fun j => tack c.bars j false) ++ stop ++ tacks bars (o.tack + stop.length) o.tack
    let plans : Nat → List PlanRecord → Cursor → Prop := fun n records next =>
      planned s n c = records ∧ cursorAfter s n c = next
    let nextSegment : BarSet → Nat → Cursor := fun bars n =>
      if c.segment + 1 < r.segmentCount then { c with segment := c.segment + 1, place := 0, bars := bars, nStitch := n }
      else { c with
        segment := c.segment + 1, place := 0, bars := bars, nStitch := n, cap := 0
        stage := if c.repeatNo < o.repeats then .between else .closing }
    let nextRepeat : Cursor := { c with
      stage := .repeating, repeatNo := c.repeatNo + 1, segment := 0, place := 0, bars := first }
    (c.stage = .repeating →
      (∀ dx dy, segment = some (.jump dx dy) →
        plans (2 * o.tack + 1) (around [.feed .jump dx dy (ref o.tack)] c.bars) (nextSegment c.bars c.nStitch))
      ∧ (∀ set, segment = some (.bars set) →
        plans (2 * o.tack + 1) (around [.barChange (set.inter o.barMask) (ref o.tack)] (set.inter o.barMask))
          (nextSegment (set.inter o.barMask) c.nStitch))
      ∧ (∀ n, segment = some (.tack n) → 1 ≤ n → plans n (tacks c.bars 0 n) (nextSegment c.bars c.nStitch))
      ∧ (∀ dx dy len, segment = some (.stitch dx dy len) →
        let n := stitchCount dx dy (if len = 0 then o.stitchLen else len) s.params.capX s.params.capY
        plans n ((List.range n).map fun j =>
          let sx := stitchStep dx n (j + 1)
          let sy := stitchStep dy n (j + 1)
          .stitch ⟨sx, sy, c.bars, ceiling sx sy, ref j⟩ (decide (j + 1 = n))) (nextSegment c.bars n))
      ∧ ∀ cap, segment = some (.speed cap) → ∀ fuel, planNext s (fuel + 1) c = planNext s fuel
          (if c.segment + 1 < r.segmentCount then { c with cap := cap, segment := c.segment + 1 }
          else { c with
            cap := 0, segment := c.segment + 1, stage := if c.repeatNo < o.repeats then .between else .closing }))
    ∧ (c.stage = .between →
      (c.atClose.continuous = false →
        plans (2 * o.tack + 2) (around
          [.feed .join (-c.atClose.endDx) (r.pitch - c.atClose.endDy) (ref o.tack), .barChange first (ref (o.tack + 1))]
          first) nextRepeat)
      ∧ (c.atClose.continuous = true → c.bars ≠ first →
        plans (2 * o.tack + 1) (around [.barChange first (ref o.tack)] first) nextRepeat)
      ∧ (c.atClose.continuous = true → c.bars = first → ∀ fuel, planNext s (fuel + 1) c =
        planNext s fuel { c with stage := .repeating, repeatNo := c.repeatNo + 1, segment := 0 }))
    ∧ (c.stage = .closing → ∀ more, plans (o.tack + 3 + more)
      (tacks c.bars 0 o.tack ++ [.feed .leadOut 0 o.leadOut (ref o.tack), .endMark (ref (o.tack + 1)),
        .feed .gap 0 o.gap (ref (o.tack + 2))])
      { c with stage := .finished, place := 0 }))
  ∧ ∀ s : State, s.planner.queue.length ≤ 8 →
    (∀ c : Cursor, s.planner.cursor = some c → (removeHead s).planner.queue = s.planner.queue.tail ++ planned s 1 c
      ∧ (removeHead s).planner.cursor = some (cursorAfter s 1 c))
    ∧ (s.planner.cursor = none → (removeHead s).planner.queue = s.planner.queue.tail)
    ∧ (removeHead s).planner.headBegun = false

/-- R56 and R57: the length D is the nearest integer to the square root of dx² + dy², at most 10284, and the stitch count
is the least that keeps the stitch length and both axis caps, at most the larger part of the move. -/
def Obligations.StitchLengthAndCount : Prop :=
  (∀ dx dy : Int, mag dx ≤ 2400 → mag dy ≤ 10000 →
    let sq := mag dx * mag dx + mag dy * mag dy
    let d := stitchLength dx dy
    ((d = 0 ∧ sq = 0) ∨ (1 ≤ d ∧ d * d + 1 ≤ sq + d ∧ sq ≤ d * d + d)) ∧ d ≤ 10284)
  ∧ ∀ (dx dy : Int) (len capX capY : Nat), 1 ≤ len → 1 ≤ capX → 1 ≤ capY →
    let n := stitchCount dx dy len capX capY
    (1 ≤ n ∧ stitchLength dx dy ≤ n * len ∧ mag dx ≤ n * capX ∧ mag dy ≤ n * capY)
    ∧ (∀ m, 1 ≤ m → stitchLength dx dy ≤ m * len → mag dx ≤ m * capX → mag dy ≤ m * capY → n ≤ m)
    ∧ (10 ≤ len → dx ≠ 0 ∨ dy ≠ 0 → n ≤ max (mag dx) (mag dy))

/-- R58 and R59: the targets are nearest roundings, ties away from zero, and each step is the difference of two; the steps
of a segment sum to its move, keep its sign or are zero, stay within the cap and differ from one another by at most
1 pu; the record with stitch index i − 1 carries step i. -/
def Obligations.StitchStepsSumToTheMove : Prop :=
  (∀ (d : Int) (n i : Nat), 1 ≤ n →
    (0 ≤ d → stitchTarget d n i = (2 * i * d + n) / (2 * n))
    ∧ (d < 0 → stitchTarget d n i = -((2 * i * -d + n) / (2 * n)))
    ∧ stitchTarget d n 0 = 0 ∧ stitchTarget d n n = d
    ∧ stitchStep d n (i + 1) = stitchTarget d n (i + 1) - stitchTarget d n i)
  ∧ (∀ (d : Int) (cap n : Nat), 1 ≤ n → mag d ≤ n * cap →
    ((List.range n).map fun i => stitchStep d n (i + 1)).sum = d
    ∧ (∀ i < n, mag (stitchStep d n (i + 1)) ≤ cap
        ∧ (0 ≤ d → 0 ≤ stitchStep d n (i + 1)) ∧ (d ≤ 0 → stitchStep d n (i + 1) ≤ 0))
    ∧ ∀ i < n, ∀ j < n, stitchStep d n (i + 1) ≤ stitchStep d n (j + 1) + 1)
  ∧ ∀ (c : Cursor) (k : PlanContext) (dx dy : Int) (n : Nat),
      (c.stitch k dx dy n).stitch? = some
        (⟨stitchStep dx n (c.place + 1), stitchStep dy n (c.place + 1), c.bars,
          ceilingOf k.params k.width c.cap (stitchStep dx n (c.place + 1)) (stitchStep dy n (c.place + 1)), c.ref⟩,
          decide (c.place + 1 = n))

/-- R60 with R107: at any speed up to a stitch's ceiling, the pulses of each axis, spaced by the interval of a burst, take
no longer than the window. -/
def Obligations.StitchAtItsCeilingEndsInsideWindow : Prop :=
  ∀ (p : Params) (width cap speed : Nat) (sx sy : Int),
    1 ≤ width → 1 ≤ speed → speed ≤ ceilingOf p width cap sx sy →
    let period := 60000000 / speed
    let usable := usableTime period width
    (sx ≠ 0 → 1 ≤ p.kX →
      mag sx * p.kX * burstInterval usable (mag sx * p.kX) p.iminX ≤ period * width / 4096)
    ∧ (sy ≠ 0 → 1 ≤ p.kY →
      mag sy * p.kY * burstInterval usable (mag sy * p.kY) p.iminY ≤ period * width / 4096)

/-! ## Parameters and timing -/

/-- R182: a SET_PARAMS whose pairs name distinct parameters with values in range, none barred by R62 or R137 and
consistent together, is applied as one step: every named parameter takes its value, clamped where it is clampable, no
other parameter changes, and the owning blocks act: QUEUE_LOW is armed anew by a lowered low_water (R34), a needle whose
fitted flag changed is initialized (R137), an audit restarts or starts (R169), and a change of line_max, creep or
decel_depth, which only a jog can meet, recomputes the demand (R87; that this moment is one is read from 5.2, log 41). R181: one that fails a check applies
nothing: its reply names the first failing pair of the first failing check, in the order identity, range, activity,
consistency, the chain before the guard.
That a refusal's detail bytes with nothing named in them are 0 is the model's choice (log 22). -/
def Obligations.SetParamsAppliesWholeOrNothing : Prop :=
  (∀ (tag : Byte) (pairs : List (BitVec 8 × BitVec 32)) (s : State), s.takesRequests →
    1 ≤ pairs.length → pairs.length ≤ 40 → (pairs.map fun p => p.1).Nodup →
    (∀ p ∈ pairs, 1 ≤ p.1.toNat ∧ p.1.toNat ≤ 34) →
    let named := namedPairs pairs
    let values := named.map clampPair
    let after := s.params.apply values
    (∀ p ∈ named, p.1.range.1 ≤ p.2 ∧ (p.2 ≤ p.1.range.2 ∨ p.1 = .lowWater ∨ p.1 = .driveTol ∨ p.1 = .matTol)) →
    (∀ p ∈ values, s.params.get p.1 ≠ p.2 →
      (p.1.orderBound = true → s.orderActive = false)
      ∧ (p.1.chainBound = true → s.orderActive = false ∧ s.shaft.stopped = true)) →
    let chainBad := (∃ p ∈ values, p.1.chainBound = true) ∧ after.beyondChain = true
    (¬ chainBad → ((∃ p ∈ values, p.1.guarded = true) → guardFault after s.shaft.accepted.width = none) →
      let restarted := s.audit.state = .counting ∧ (s.params.kY ≠ after.kY ∨ s.params.rollPer100 ≠ after.rollPer100
        ∨ s.params.wheelPer100 ≠ after.wheelPer100)
      let started := s.audit.state ≠ .counting ∧ s.params.autoAudit = false ∧ after.autoAudit = true
      let rearmed := decide (s.params.lowWater ≠ after.lowWater ∧ after.lowWater < s.schedule.queuedCount)
      let governed := s.params.lineMax ≠ after.lineMax ∨ s.params.creep ≠ after.creep
        ∨ s.params.decelDepth ≠ after.decelDepth
      ∃ needles : List NeedleState,
        exec (.setParams tag pairs) s = .next (transmit (State.answered
          { s with
            params := after
            schedule := { s.schedule with armed := s.schedule.armed || rearmed }
            monitor := { s.monitor with needles := needles }
            gov := if governed then { s.gov with demand := demandOf { s with params := after } } else s.gov
            audit := if restarted ∨ started then
                { s.audit with state := .counting, cCmd := 0, cRoll := 0, cWheel := 0, revolutions := 0 }
              else s.audit }
          0x02 tag (Reply.good (u8 pairs.length ++ u8 (named.filter fun p => decide (p.1.range.2 < p.2)).length))))
        ∧ (∀ i : Nat, needles[i]? = (s.monitor.needles[i]?).map fun st =>
            if s.params.fitted i = after.fitted i then st
            else if after.fitted i then (if s.bars.engaged.mem (needleBar i) then .grace after.grace else .idle)
            else .unused)
        ∧ (∀ p ∈ values, after.get p.1 = p.2)
        ∧ ∀ id, (∀ p ∈ values, p.1 ≠ id) → after.get id = s.params.get id)
    ∧ (∀ (before rest : List (ParamId × Int)) (p : ParamId × Int), chainBad → values = before ++ p :: rest →
        p.1.chainBound = true → (∀ q ∈ before, q.1.chainBound = false) →
        exec (.setParams tag pairs) s = .next (transmit (s.answered 0x02 tag
          (Reply.refusal .badValue before.length 0 .chain 0))))
    ∧ ∀ (before rest : List (ParamId × Int)) (p : ParamId × Int) (axis : Nat), ¬ chainBad →
        values = before ++ p :: rest → p.1.guarded = true → (∀ q ∈ before, q.1.guarded = false) →
        guardFault after s.shaft.accepted.width = some axis →
        exec (.setParams tag pairs) s = .next (transmit (s.answered 0x02 tag
          (Reply.refusal .badValue before.length 0 .guard axis))))
  ∧ ∀ (tag : Byte) (pairs : List (BitVec 8 × BitVec 32)) (s : State) (i : Nat) (p : BitVec 8 × BitVec 32),
    s.takesRequests → 1 ≤ pairs.length → pairs.length ≤ 40 → pairs[i]? = some p →
    let refused : Status → Why → Prop := fun st why =>
      exec (.setParams tag pairs) s = .next (transmit (s.answered 0x02 tag (Reply.refusal st i 0 why 0)))
    let known : BitVec 8 × BitVec 32 → Prop := fun q => 1 ≤ q.1.toNat ∧ q.1.toNat ≤ 34
    let first : (BitVec 8 × BitVec 32 → Prop) → Prop := fun bad =>
      bad p ∧ ∀ j < i, ∀ q, pairs[j]? = some q → ¬ bad q
    ((∀ j < i, ∀ q, pairs[j]? = some q → known q) → ((pairs.take i).map fun q => q.1).Nodup →
      (¬ known p → refused .badValue .unknownId)
      ∧ (known p → p.1 ∈ (pairs.take i).map (fun q => q.1) → refused .badValue .repeated))
    ∧ ((∀ q ∈ pairs, known q) → (pairs.map fun q => q.1).Nodup →
      (first (fun q => ∃ id ∈ ParamId.ofCode q.1.toNat, outOfRange (id, q.2.toInt) = true) →
        refused .badValue .range)
      ∧ ((∀ q ∈ namedPairs pairs, outOfRange q = false) →
        first (fun q => ∃ id ∈ ParamId.ofCode q.1.toNat, s.activityFault (clampPair (id, q.2.toInt)) = true) →
        refused .notNow .none))

/-- R79 and R80: a SET_TIMING is refused by the first failing check, naming its field by the offset; an accepted one
becomes active at once with the shaft stopped, with the window state derived (R76), and waits as the pending set while
it turns.
That a refusal's detail bytes with nothing named in them are 0 is the model's choice (log 22). -/
def Obligations.SetTimingChecksAndEffect : Prop :=
  (∀ (tag : Byte) (o c a : BitVec 16) (s : State), s.takesRequests →
    let t : TimingSet := ⟨o.toNat, c.toNat, a.toNat⟩
    TimingShape t →
    (t.width = s.shaft.accepted.width ∨ (s.orderActive = false ∧ guardFault s.params t.width = none)) →
    (s.shaft.stopped = true →
      exec (.setTiming tag o c a) s = .next (transmit (State.answered
        { s with shaft := { s.shaft with
            active := t, pendingSet := none
            window := if forwardCounts t.windowOpen s.shaft.angle < t.width then
                ⟨true, t.windowOpen, t.windowClose, t.stopAngle,
                  decide (forwardCounts t.windowOpen t.stopAngle ≤ forwardCounts t.windowOpen s.shaft.angle)⟩
              else { s.shaft.window with inProgress := false } } }
        0x04 tag (Reply.good [0]))))
    ∧ (s.shaft.stopped = false →
      exec (.setTiming tag o c a) s = .next (transmit (State.answered
        { s with shaft := { s.shaft with pendingSet := some t } } 0x04 tag (Reply.good [1])))))
  ∧ ∀ (tag : Byte) (o c a : BitVec 16) (s : State), s.takesRequests →
    let t : TimingSet := ⟨o.toNat, c.toNat, a.toNat⟩
    let stop := forwardCounts t.windowOpen t.stopAngle
    let inRange := o.toNat < 4096 ∧ c.toNat < 4096 ∧ a.toNat < 4096
    let refused : Reply → Prop := fun r => exec (.setTiming tag o c a) s = .next (transmit (s.answered 0x04 tag r))
    (4096 ≤ o.toNat → refused (Reply.field 0))
    ∧ (o.toNat < 4096 → 4096 ≤ c.toNat → refused (Reply.field 2))
    ∧ (o.toNat < 4096 → c.toNat < 4096 → 4096 ≤ a.toNat → refused (Reply.field 4))
    ∧ (inRange → t.width < 512 ∨ 2560 < t.width → refused (Reply.field 2))
    ∧ (inRange → 512 ≤ t.width → t.width ≤ 2560 → stop = 0 ∨ t.width ≤ stop → refused (Reply.field 4))
    ∧ (TimingShape t → t.width ≠ s.shaft.accepted.width → s.orderActive = true →
        refused (Reply.because .notNow .none))
    ∧ (TimingShape t → t.width ≠ s.shaft.accepted.width → s.orderActive = false →
        ∀ axis, guardFault s.params t.width = some axis → refused (Reply.refusal .badValue 2 0 .guard axis))

/-- R81: an accepted REPHASE makes the angle read a at once, by the phase offset alone; the window state is derived from
it. A turning shaft and an angle that is not valid are refused with their reasons; that a turning shaft with no valid
angle is refused with SHAFT is the model's choice (log 39).
That a refusal's detail bytes with nothing named in them are 0 is the model's choice (log 22). -/
def Obligations.RephaseSetsAngle : Prop :=
  ∀ (tag : Byte) (a : BitVec 16) (s : State), s.takesRequests →
    (a.toNat < 4096 → s.shaft.stopped = true → s.shaft.angleValid = true →
      ∃ h : Shaft,
        exec (.rephase tag a) s =
          .next (transmit (State.answered { s with shaft := h } 0x05 tag (Reply.good (u16 h.phaseOffset))))
        ∧ h.angle = a.toNat ∧ h.phaseOffset < 4096
        ∧ ((h.phaseOffset : Int) + s.shaft.position - a.toNat) % 4096 = 0
        ∧ h = { s.shaft with phaseOffset := h.phaseOffset, window := h.window }
        ∧ h.window =
            (if forwardCounts h.active.windowOpen a.toNat < h.active.width then
              ⟨true, h.active.windowOpen, h.active.windowClose, h.active.stopAngle,
                decide (forwardCounts h.active.windowOpen h.active.stopAngle
                  ≤ forwardCounts h.active.windowOpen a.toNat)⟩
            else { s.shaft.window with inProgress := false }))
    ∧ (4096 ≤ a.toNat → exec (.rephase tag a) s = .next (transmit (s.answered 0x05 tag (Reply.field 0))))
    ∧ (a.toNat < 4096 → s.shaft.stopped = false →
        exec (.rephase tag a) s = .next (transmit (s.answered 0x05 tag (Reply.because .notNow .shaft))))
    ∧ (a.toNat < 4096 → s.shaft.stopped = true → s.shaft.angleValid = false →
        exec (.rephase tag a) s = .next (transmit (s.answered 0x05 tag (Reply.because .notNow .angle))))

/-! ## The shaft -/

/-- R65, R66, R70 and R71: an edge in the forward sequence of SHA and SHB moves the position by +1, one in the reverse
sequence by −1, and a change of neither or of both takes no count. R151: in FEEDING the count also moves the parked
count, with a feed move or a frozen burst in hand too, and the one that carries it to 17 either way hands over PARK, once:
latched anew, it freezes the moves in hand (R111, R159). Here with nothing else acting at the count: no event angle
reached, no index lost, no 33rd reverse count, no pulse held back, and a burst in hand only without the permission
(WindowEventsByAngle tells the others). -/
def Obligations.EncoderCountMovesShaft : Prop :=
  ∀ s : State, s.resetAsserted = false →
    let a := s.pins.sha
    let b := s.pins.shb
    let pos : Int → Int := fun z => if s.shaft.angleValid then z else z % 4096
    let feeding := s.line.effective = .feeding
    let parked : Int → Line := fun d =>
      { s.line with parkedCount := if feeding then s.line.parkedCount + d else s.line.parkedCount }
    let due : Int → Prop := fun d =>
      feeding ∧ s.line.parkHanded = false ∧ (s.line.parkedCount + d).natAbs = 17
    let handed : Instr → Int → Shaft → Prop := fun c d h =>
      ∃ t, exec c s = .next t ∧ t.line.faults.has .park = true ∧ t.line.parkHanded = true
        ∧ t.line.parkedCount = s.line.parkedCount + d ∧ t.shaft = h
        ∧ (s.line.faults.has .park = false → t.line.effective = .stopping ∧ t.line.stopPurpose = some .fault
            ∧ t.line.stopKind = some .atOnce ∧ t.gov.idle
            ∧ t.motion.burst = s.motion.burst.map Burst.freeze ∧ t.motion.feed = s.motion.feed.map Feed.freeze)
    (s.anyWaiting = false → s.motion.burst = none ∨ s.line.permission = false →
      ((s.shaft.angleValid = true → s.shaft.position ≤ 4102) → -4104 < s.shaft.position →
        let h := { s.shaft with
          position := pos (s.shaft.position + 1), stopped := false, lastCount := some .forward, reverseRun := 0 }
        h.eventHere = false →
        (¬ due 1 → exec (.encoderCount (!b) a) s = .next (transmit
          { s with pins := { s.pins with sha := !b, shb := a }, shaft := h, line := parked 1 }))
        ∧ (due 1 → handed (.encoderCount (!b) a) 1 h))
      ∧ ((s.shaft.angleValid = true → -4102 ≤ s.shaft.position) → s.shaft.position < 4104 →
        s.shaft.reverseRun ≠ 32 →
        let h := { s.shaft with
          position := pos (s.shaft.position - 1), stopped := false, lastCount := some .reverse, clean := false
          reverseRun := if s.line.effective = .running ∨ s.line.effective = .stopping ∨ feeding
            then min 65535 (s.shaft.reverseRun + 1) else 0 }
        (¬ due (-1) → exec (.encoderCount b (!a)) s = .next (transmit
          { s with pins := { s.pins with sha := b, shb := !a }, shaft := h, line := parked (-1) }))
        ∧ (due (-1) → handed (.encoderCount b (!a)) (-1) h)))
    ∧ exec (.encoderCount a b) s = .next (transmit s)
    ∧ exec (.encoderCount (!a) (!b)) s = .next (transmit { s with pins := { s.pins with sha := !a, shb := !b } })

/-- R67, R68, R71, R72: the index pulse sets the position to 0. The first one makes the angle valid and only starts a
revolution. In the forward-revolution band 4094..4098 a revolution whose start is recorded and clean measures its period
and speed and is delivered to the Governor; one that is not only starts the next. In the same-index band −2..2 and the
reverse-revolution band −4098..−4094 nothing is measured and the revolution start is discarded. Where position 0 lies one
or two counts ahead the jump gives the events of the angles passed over, in all three bands (R76; that R76 means all
three is read from it, log 31); in the forward band they come before or after the delivery to the Governor (log 11). That
the pulses held back are emitted last, after both, is read from the spec (log 12). R69: at any other position
the pulse is trusted over the count and latches ENCODER. R80: in every class a pending timing set becomes active after the
pulse is taken, the window state derived anew where no window is in progress; that the pulse which makes the angle valid is
such a pulse too is read from it (log 32). Left out here: in
the forward band a counting audit (AuditCountsAndJudges) and a period of 0 µs, whose speed is a free value (log 9). R95: delivered to a released Governor
whose park is not armed, a measured revolution near the demand counts toward the arming, and the third arms it; that a
revolution at another applied demand than the last is counted once the park has begun, but not before, is read from R95
(log 13). -/
def Obligations.IndexPulseTaken : Prop :=
  (∀ (now : Nat) (s : State), s.resetAsserted = false →
    let active : State → State := fun t => { t with shaft := match t.shaft.pendingSet with
      | none => t.shaft
      | some ts =>
        let h := { t.shaft with active := ts, pendingSet := none }
        { h with window := if h.window.inProgress then h.window else h.derivedWindow } }
    (s.shaft.angleValid = false → s.anyWaiting = false →
      exec (.indexPulse now) s = .next (transmit (active { s with shaft := { s.shaft with
        position := 0, angleValid := true, revStart := some now, clean := true
        window := Shaft.derivedWindow { s.shaft with position := 0 } } })))
    ∧ (s.shaft.angleValid = true →
      let p := s.shaft.position
      let one := p = 4095 ∨ p = -1 ∨ p = -4097
      let two := p = 4094 ∨ p = -2 ∨ p = -4098
      let at' : Int → State → State := fun z t => { t with shaft := { t.shaft with position := z } }
      let jump : State → State := fun t =>
        if two then reachAngle (at' 0 (reachAngle (at' (-1) t))) else if one then reachAngle (at' 0 t) else at' 0 t
      let event := (two ∧ (at' (-1) s).shaft.eventHere = true) ∨ ((one ∨ two) ∧ (at' 0 s).shaft.eventHere = true)
      let answers : State → Prop := fun t => exec (.indexPulse now) s = .next (transmit t)
      (4094 ≤ p → p ≤ 4098 → s.audit.state ≠ .counting →
        let closes : Bool → (Shaft → Shaft) → Prop := fun measured figures =>
          let deliver : State → State := fun t => indexGov measured { t with shaft := figures t.shaft }
          let drawn : State := { s with draws := s.draws + 1 }
          (¬ event → s.anyWaiting = false → answers (active (deliver (at' 0 s))))
          ∧ (event → answers (emitWaiting (active (deliver (jump drawn))))
            ∨ answers (emitWaiting (active (jump (deliver drawn)))))
        (∀ start < now, s.shaft.revStart = some start → s.shaft.clean = true → closes true fun h =>
          { h with revStart := some now, clean := true, period := some (now - start), speed := 60000000 / (now - start) })
        ∧ (s.shaft.revStart = none ∨ s.shaft.clean = false →
          closes false fun h => { h with revStart := some now, clean := true }))
      ∧ ((-2 ≤ p ∧ p ≤ 2) ∨ (-4098 ≤ p ∧ p ≤ -4094) →
        let back : State → State := fun t => { t with shaft := { t.shaft with revStart := none } }
        (¬ event → s.anyWaiting = false → answers (active (back (at' 0 s))))
        ∧ (event → answers (emitWaiting (active (back (jump s))))))
      ∧ (¬ (4094 ≤ p ∧ p ≤ 4098) → ¬ (-2 ≤ p ∧ p ≤ 2) → ¬ (-4098 ≤ p ∧ p ≤ -4094) →
        answers (emitWaiting (active (latch .encoder none { s with shaft := { s.shaft with
          position := 0, revStart := some now, clean := true
          window := Shaft.derivedWindow { s.shaft with position := 0 } } }))))))
  ∧ ∀ s : State, s.gov.state = .parking → s.gov.released = true → s.gov.armed = false →
    let t := (indexGov true s).gov
    let near := mag ((s.shaft.speed : Int) - s.gov.applied) ≤ s.params.lockTol
    let moved := s.params.lockTol < mag ((demandOf s : Int) - s.gov.applied)
    (¬ moved → near → t.armCount = min 3 (s.gov.armCount + 1)
      ∧ t.armed = decide (2 ≤ s.gov.inTol ∧ 2 ≤ s.gov.armCount))
    ∧ (moved ∨ ¬ near → t.armCount = 0 ∧ t.armed = false)
    ∧ (parkOrder s).1 = s

/-- R69 and R70: a count that would carry the position to 4104 or −4104 with a valid angle makes the angle invalid and
latches ENCODER, as does the 33rd reverse count of a run while the line is RUNNING, STOPPING or FEEDING. An index pulse
outside the three bands of R68 is trusted over the count: the position becomes 0, the pulse starts a revolution, no
figure is measured, and ENCODER is latched. Here with no pulse held back. -/
def Obligations.EncoderChecksLatch : Prop :=
  (∀ (s : State) (a b : Bool) (d : Direction), s.resetAsserted = false → s.anyWaiting = false →
    countDirection (quadrature s.pins.sha s.pins.shb) (quadrature a b) = some d →
    (s.shaft.losesIndex d = true ∨
      (d = .reverse ∧ s.shaft.reverseRun = 32
        ∧ (s.line.effective = .running ∨ s.line.effective = .stopping ∨ s.line.effective = .feeding))) →
    ∃ t, exec (.encoderCount a b) s = .next t ∧ t.line.faults.has .encoder = true
      ∧ (s.shaft.losesIndex d = true → t.shaft.angleValid = false ∧ t.shaft.window.inProgress = false
          ∧ t.shaft.revStart = none ∧ t.shaft.position = s.shaft.counted d % 4096))
  ∧ ∀ (now : Nat) (s : State), s.resetAsserted = false → s.anyWaiting = false → s.shaft.angleValid = true →
    ¬ (4094 ≤ s.shaft.position ∧ s.shaft.position ≤ 4098) → ¬ (-2 ≤ s.shaft.position ∧ s.shaft.position ≤ 2) →
    ¬ (-4098 ≤ s.shaft.position ∧ s.shaft.position ≤ -4094) →
    ∃ t, exec (.indexPulse now) s = .next t ∧ t.line.faults.has .encoder = true
      ∧ t.shaft.position = 0 ∧ t.shaft.angleValid = true ∧ t.shaft.revStart = some now ∧ t.shaft.clean = true
      ∧ t.shaft.period = s.shaft.period ∧ t.shaft.speed = s.shaft.speed

/-- R74 and R75: a forward count gives the events of the angle it reaches, a reverse count none, and either then tests a
frozen burst (R112) and then emits the pulses held back (R105); this order of the three is read from the spec (log 12). In
FEEDING the Line Controller takes the count too, and at the count that hands over PARK it does so before or after them
(R151, log 11). A window event opens a window only at window_open with none in progress, and the open is delivered to the
Thread Monitor and the Motion Output (R78), in either order where a break is declared (log 11); within a window it gives
STOP_ANGLE once at stop_at, which holds the drive of an armed park (R95), and closes it at close_at; elsewhere nothing is
given. R110: a burst still EMITTING at the close is frozen and latches OVERRUN. R112: a FROZEN burst resumes with the
permission granted and the shaft turning forward inside the window, at intervals of the part that is left. That an axis
with no pulses left then keeps the level of its DIR output is the model's choice (log 28). -/
def Obligations.WindowEventsByAngle : Prop :=
  (∀ s : State, s.resetAsserted = false →
    let pos : Int → Int := fun z => if s.shaft.angleValid then z else z % 4096
    let feeding := s.line.effective = .feeding
    let taken : Bool → Bool → Shaft → Int → Direction → (State → State) → Prop := fun a b h z d events =>
      let rest : State → State := fun t => emitWaiting (testResume (events t))
      let u : State := { s with pins := { s.pins with sha := a, shb := b }, shaft := h }
      let drawn : State := { u with draws := s.draws + 1 }
      let answers : State → Prop := fun t => exec (.encoderCount a b) s = .next (transmit t)
      let due := s.line.parkHanded = false ∧ (s.line.parkedCount + z).natAbs = 17
      (¬ feeding → answers (rest u))
      ∧ (feeding → ¬ due → answers (rest { u with line := { u.line with parkedCount := s.line.parkedCount + z } }))
      ∧ (feeding → due → answers (rest (lineCount d drawn)) ∨ answers (lineCount d (rest drawn)))
    ((s.shaft.angleValid = true → s.shaft.position ≤ 4102) → -4104 < s.shaft.position →
      taken (!s.pins.shb) s.pins.sha { s.shaft with
        position := pos (s.shaft.position + 1), stopped := false, lastCount := some .forward, reverseRun := 0 }
        1 .forward reachAngle)
    ∧ ((s.shaft.angleValid = true → -4102 ≤ s.shaft.position) → s.shaft.position < 4104 → s.shaft.reverseRun ≠ 32 →
      taken s.pins.shb (!s.pins.sha) { s.shaft with
        position := pos (s.shaft.position - 1), stopped := false, lastCount := some .reverse, clean := false
        reverseRun := if s.line.effective = .running ∨ s.line.effective = .stopping ∨ feeding
          then min 65535 (s.shaft.reverseRun + 1) else 0 }
        (-1) .reverse fun t => t))
  ∧ (∀ s : State, s.shaft.angleValid = false → reachAngle s = s)
  ∧ (∀ s : State, s.shaft.angleValid = true →
    (s.shaft.window.inProgress = false → s.shaft.angle ≠ s.shaft.active.windowOpen → reachAngle s = s)
    ∧ (s.shaft.window.inProgress = false → s.shaft.angle = s.shaft.active.windowOpen →
      let opened := { s with shaft := { s.shaft with window :=
        ⟨true, s.shaft.active.windowOpen, s.shaft.active.windowClose, s.shaft.active.stopAngle, false⟩ } }
      let drawn := { opened with draws := s.draws + 1 }
      (s.breakDue = false → reachAngle s = motionOpen (monitorOpen opened))
      ∧ (s.breakDue = true → reachAngle s = motionOpen (monitorOpen drawn) ∨ reachAngle s = monitorOpen (motionOpen drawn))
      ∧ (s.line.permission = false → s.monitor.formedStitch = none →
        reachAngle s = { opened with monitor := { s.monitor with scanFault := false, seen := 0 } }))
    ∧ (s.shaft.window.inProgress = true → s.shaft.angle = s.shaft.window.stopAt → s.shaft.window.stopGiven = false →
      (s.gov.state = .parking → s.gov.armed = true → s.gov.braked = false →
        reachAngle s = { s with
          shaft := { s.shaft with window := { s.shaft.window with stopGiven := true } }
          gov := { s.gov with released := false, applied := 0, braked := true } })
      ∧ (s.gov.state ≠ .parking ∨ s.gov.armed = false ∨ s.gov.braked = true →
        reachAngle s = { s with shaft := { s.shaft with window := { s.shaft.window with stopGiven := true } } }))
    ∧ (s.shaft.window.inProgress = true → s.shaft.angle = s.shaft.window.closeAt →
      s.shaft.angle ≠ s.shaft.window.stopAt →
      (s.motion.emitting = false →
        reachAngle s = { s with
          shaft := { s.shaft with window := { s.shaft.window with inProgress := false } }
          monitor := { s.monitor with
            formedStitch := if s.monitor.pendingStitch = none then s.monitor.formedStitch else s.monitor.pendingStitch
            pendingStitch := none } })
      ∧ ∀ b : Burst, s.motion.burst = some b → b.frozen = false →
        let t := reachAngle s
        t.motion.burst = some { b with
            frozen := true
            x := { b.x with interval := 0, waiting := false }, y := { b.y with interval := 0, waiting := false } }
        ∧ t.line.faults.has .overrun = true ∧ t.shaft = { s.shaft with window := { s.shaft.window with inProgress := false } }
        ∧ (s.line.faults.has .overrun = false → t.gov.idle)
        ∧ (s.line.faults.has .overrun = false → s.line.effective = .running → s.shaft.stopped = false →
          t.line.effective = .stopping ∧ t.line.stopPurpose = some .fault ∧ t.line.stopKind = some .atOnce))
    ∧ (s.shaft.window.inProgress = true → s.shaft.angle ≠ s.shaft.window.closeAt →
      s.shaft.angle ≠ s.shaft.window.stopAt ∨ s.shaft.window.stopGiven = true → reachAngle s = s))
  ∧ ∀ s : State,
    let inside := s.shaft.window.inProgress = true ∧ forwardCounts s.shaft.window.openAt s.shaft.angle
      < forwardCounts s.shaft.window.openAt s.shaft.window.closeAt
    let turning := s.shaft.stopped = false ∧ s.shaft.lastCount = some .forward
    (∀ (b : Burst) (p : Nat), s.motion.burst = some b → b.frozen = true → s.line.permission = true → inside → turning →
      s.shaft.period = some p ∨ (s.shaft.period = none ∧ s.gov.applied ≠ 0 ∧ p = 60000000 / s.gov.applied) →
      let usable := p * forwardCounts s.shaft.angle s.shaft.window.closeAt / 4096 * 7 / 8
      testResume s = { s with motion := { s.motion with
        burst := some { b with
          frozen := false
          x := { b.x with interval := max s.params.iminX (usable / b.x.left), waiting := false }
          y := { b.y with interval := max s.params.iminY (usable / b.y.left), waiting := false } }
        xdir := if b.x.left = 0 then s.motion.xdir else b.x.positive
        ydir := if b.y.left = 0 then s.motion.ydir else b.y.positive } })
    ∧ (s.motion.burstFrozen = false ∨ s.line.permission = false ∨ ¬ inside ∨ ¬ turning → testResume s = s)

/-- R73, R93, R96, R135, R139: the stopped shaft. Its figures are cleared, a pending timing set becomes active, the formed
stitch and the motion-seen flags go; a HALTED Governor does nothing, a RAMPING or LOCKED one loses its lock, a park
inside the window is done, and the third miss latches PARK. A park done for a hold or fault stop that is not AT_ONCE ends it in
HOLDING or FAULTED, and FAULTED sets overlap_pending where a THREAD source is latched that stops the line (R159). A park
done for FEED or END takes the line into FEEDING
(R149), where the parked count starts at 0 (R151), with no RECORD change in hand that a BAR_CHANGE head would begin again
(R127; RunBeginsResumeSequence); off STOPPING, where a cancelled hold can leave a park, its report changes nothing in the
line (the model's choice, log 20); an AT_ONCE stop is reached here (R153, R159). R124: a bar change that waited for the
shaft begins here, every bar of it judged as BarsMoveThroughDeadTime says, whatever the mode; that it comes before the
Governor's and the line's part is read from the spec (log 12). One whose bars are all complete so ends here. R127, R149: a record change then takes its record off the
queue, and in FEEDING the line looks at what comes next. R128, R148: in FEEDING a restore lets the resume sequence go on
from its step (a frozen replay stitch begins the replay anew: log 18). STOPPING, a stop that awaited nothing else is
reached, an AT_STITCH one by the model's reading of R153 (log 15). That a stop reached carries the reason STOP_DONE is read
from R146 (log 16). Here with no pulse held back. -/
def Obligations.StoppedShaftSettles : Prop :=
  (∀ (s : State) (kind : ChangeKind) (target : BarSet), s.resetAsserted = false → s.shaft.stopped = false →
    s.bars.change = some ⟨kind, target, true⟩ → s.anyWaiting = false →
    let judged : Bar → BarRec := fun b => if b ∈ kind.bars then s.judgedBar b (target.mem b) else s.bars.get b
    let complete := ∀ b ∈ kind.bars, (judged b).heldAt (target.mem b) = true
    let ended : Bars := ⟨judged .b0, judged .b1, judged .b2, none⟩
    let held : BarSet → Prop := fun set => ∀ b, (judged b).heldAt (set.mem b) = true
    let feeding := s.line.effective = .feeding
    let stopping := s.line.effective = .stopping
    let steady := s.gov.state ≠ .parking
    let lineAfter : Prop → State → Prop := fun reaches t =>
      (¬ reaches → t.line = s.line)
      ∧ (reaches → s.line.stopPurpose = some .hold → t.line.effective = .holding)
      ∧ (reaches → s.line.stopPurpose = some .fault → t.line.effective = .faulted
        ∧ t.line.overlapPending = (s.line.overlapPending || s.line.faults.threadStop))
    let atOnce := stopping ∧ s.line.stopKind = some .atOnce
    let runs : State → Purpose → List Nat → Prop := fun t p ceilings =>
      t.line.effective = .running ∧ t.line.permission = true ∧ t.bars = ended
      ∧ (s.gov.state = .halted → s.line.faults.atOnce = false → t.gov.state = .ramping ∧ t.gov.released = true
        ∧ t.gov.purpose = some p ∧ t.gov.replayCeilings = ceilings)
    (¬ complete → steady ∨ ¬ stopping ∨ s.line.stopPurpose = some .hold ∨ s.line.stopPurpose = some .fault →
      ∃ t, exec .stopped s = .next t ∧ (∀ b, t.bars.get b = judged b) ∧ t.bars.change = some ⟨kind, target, false⟩
        ∧ t.planner = s.planner ∧ t.shaft = s.shaft.stop ∧ (s.gov.state = .halted → t.gov = s.gov)
        ∧ (steady → lineAfter atOnce t))
    ∧ (complete → steady → stopping → ∃ t, exec .stopped s = .next t ∧ t.bars = ended ∧ t.shaft = s.shaft.stop
      ∧ (kind ≠ .record → t.planner = s.planner ∧ lineAfter atOnce t)
      ∧ (kind = .record → t.planner = (removeHead s).planner ∧ lineAfter
        (atOnce ∨ (s.stitchStopOn = true ∧ s.motion.emitting = false ∧ s.motion.feedRunning = false)) t))
    ∧ (complete → steady → ¬ stopping → ∃ t, exec .stopped s = .next t ∧ t.shaft = s.shaft.stop ∧ t.store = s.store
      ∧ (s.gov.state = .halted → ¬ feeding → t.gov.state = .halted)
      ∧ (¬ feeding ∨ (∃ b, kind = .force b) → t.bars = ended ∧ t.line = s.line ∧ t.motion = s.motion)
      ∧ (kind ≠ .record → t.planner = s.planner)
      ∧ (kind = .record → t.planner = (removeHead s).planner
        ∧ (feeding → s.line.resumeStep = .none → s.line.replay = [] →
          (t.planner.headStitch = none → t.bars = ended ∧ t.line = s.line ∧ t.motion = s.motion)
          ∧ ∀ (st : Stitch) (last : Bool), t.planner.headStitch = some (st, last) →
            (held st.bars → runs t .stitching [] ∧ t.line.resumeStep = .none)
            ∧ (¬ held st.bars → 1 ≤ s.params.deadTime → t.line = { s.line with resumeStep := .restore }
              ∧ t.bars.change = some ⟨.restore, st.bars, false⟩ ∧ t.motion = s.motion)))
      ∧ (kind = .restore → feeding →
        (s.line.resumeStep = .none ∨ s.line.resumeStep = .backMove → t.bars = ended ∧ t.line = s.line)
        ∧ (∀ u : Burst, s.line.resumeStep = .frozen → s.motion.burst = some u →
          (u.source = .head → runs t .stitching [] ∧ t.line.resumeStep = .frozen)
          ∧ (u.source = .replay → runs t .replay s.replayCeilings ∧ t.line.resumeStep = .frozen
            ∧ t.monitor.suppress = s.params.grace))
        ∧ (s.line.resumeStep = .replay →
          runs t .replay s.replayCeilings ∧ t.line.resumeStep = .replay ∧ t.monitor.suppress = s.params.grace)
        ∧ (s.line.resumeStep = .restore →
          (s.planner.headStitch ≠ none → runs t .stitching [] ∧ t.line.resumeStep = .none)
          ∧ (s.planner.headStitch = none → t.bars = ended ∧ t.line = { s.line with resumeStep := .none })))))
  ∧ ∀ s : State, s.resetAsserted = false → s.shaft.stopped = false →
    s.bars.change.map (fun c => c.waiting) ≠ some true → s.anyWaiting = false →
    let h := s.shaft.stop
    let m := { s.monitor with formedStitch := none, scanFault := false, seen := 0 }
    let inPlace := s.gov.state = .parking ∧ s.shaft.angleValid = true ∧ h.insideActive = true
    (h.stopped = true ∧ h.period = none ∧ h.speed = 0 ∧ h.revStart = none ∧ h.clean = false
      ∧ h.position = s.shaft.position ∧ h.active = s.shaft.accepted ∧ h.pendingSet = none
      ∧ (s.shaft.pendingSet = none → h.window = s.shaft.window))
    ∧ (s.line.effective ≠ .stopping → s.gov.state = .halted →
      exec .stopped s = .next (transmit { s with shaft := h, monitor := m }))
    ∧ (s.line.effective ≠ .stopping → s.gov.state = .ramping ∨ s.gov.state = .locked →
      exec .stopped s = .next (transmit { s with
        shaft := h, monitor := m
        gov := { s.gov with state := .ramping, inTol := 0, outTol := 0, settled := 0, armCount := 0 } }))
    ∧ (inPlace → s.line.effective ≠ .stopping → ∃ t, exec .stopped s = .next t ∧ t.gov.idle
      ∧ t.gov.attempts = s.gov.attempts ∧ t.line = s.line ∧ t.shaft = h ∧ t.motion = s.motion ∧ t.planner = s.planner)
    ∧ (inPlace → s.line.effective = .stopping → s.line.stopKind ≠ some .atOnce →
      let ended : Mode → Bool → Prop := fun mode overlap => ∃ t, exec .stopped s = .next t ∧ t.gov.idle
        ∧ t.gov.attempts = s.gov.attempts ∧ t.line = { s.line with
          effective := mode, stopPurpose := none, stopKind := none, holdOrigin := none, resumeStep := .none
          permission := false, overlapPending := s.line.overlapPending || overlap }
        ∧ t.notified (.modeChanged mode none none s.line.requested .stopDone)
        ∧ t.shaft = h ∧ t.motion = s.motion ∧ t.planner = s.planner ∧ t.bars = s.bars
      (s.line.stopPurpose = some .hold → ended .holding false)
      ∧ (s.line.stopPurpose = some .fault → ended .faulted s.line.faults.threadStop))
    ∧ (inPlace → s.line.effective = .stopping →
      s.line.stopPurpose = some .feed ∨ s.line.stopPurpose = some .endOfPanel → s.line.stopKind = some .park →
      s.line.resumeStep = .none → s.planner.headStitch = none →
      (∀ (set : BarSet) (ref : Ref), s.planner.head = some (.barChange set ref) → s.recordChangeInHand = false) →
      ∃ t, exec .stopped s = .next t ∧ t.gov.idle ∧ t.line.effective = .feeding ∧ t.line.stopPurpose = none
        ∧ t.line.stopKind = none ∧ t.line.permission = false ∧ t.line.resumeStep = .none ∧ t.line.parkedCount = 0
        ∧ t.line.parkHanded = false ∧ t.shaft = h ∧ t.planner = s.planner ∧ t.bars = s.bars)
    ∧ (s.gov.state = .halted → s.line.effective = .stopping → s.line.stopKind = some .atOnce →
      let reached : Mode → Bool → Reason → State := fun mode overlap why => { s with
        shaft := h, monitor := m
        line := { s.line with
          effective := mode, stopPurpose := none, stopKind := none, holdOrigin := none, resumeStep := .none
          permission := false, overlapPending := s.line.overlapPending || overlap }
        link := { s.link with
          notices := noticesWith s.link.notices (.modeChanged mode none none s.line.requested why) } }
      (s.line.stopPurpose = some .hold → exec .stopped s = .next (transmit (reached .holding false .stopDone)))
      ∧ (s.line.stopPurpose = some .fault →
        exec .stopped s = .next (transmit (reached .faulted s.line.faults.threadStop .stopDone))))
    ∧ (s.gov.state = .parking → s.shaft.angleValid = false ∨ h.insideActive = false → s.gov.attempts < 3 →
      s.line.faults.atOnce = false → s.line.effective = .stopping → s.line.stopKind ≠ some .atOnce →
      ∃ t, exec .stopped s = .next t ∧ t.gov.state = .parking ∧ t.gov.attempts = s.gov.attempts + 1
        ∧ t.gov.released = true ∧ t.gov.armed = true ∧ t.gov.braked = false ∧ t.gov.applied = t.gov.demand
        ∧ t.gov.inTol = 0 ∧ t.gov.outTol = 0 ∧ t.line = s.line)
    ∧ (s.gov.state = .parking → s.shaft.angleValid = false ∨ h.insideActive = false → 3 ≤ s.gov.attempts →
      s.line.faults.has .park = false → s.line.effective = .stopping →
      ∃ t, exec .stopped s = .next t ∧ t.gov.idle ∧ t.line.faults.has .park = true ∧ t.line.effective = .faulted
        ∧ t.line.overlapPending = (s.line.overlapPending || s.line.faults.threadStop))

/-! ## The Speed Governor -/

/-- R84: at each PWM period DEMAND takes the duty of the applied demand in per mille of line_max, rounded to the nearest
with a half rounded up, and clamped to 1000. -/
def Obligations.DutyIsNearestPerMille : Prop :=
  ∀ (s : State) (d : Nat), s.resetAsserted = false → 1 ≤ s.params.lineMax →
    (s.gov.applied ≤ s.params.lineMax →
      2 * s.params.lineMax * d ≤ 2000 * s.gov.applied + s.params.lineMax →
      2000 * s.gov.applied < 2 * s.params.lineMax * d + s.params.lineMax →
      exec .demandPwmPeriod s = .next (transmit { s with gov := { s.gov with pwmDuty := d } }))
    ∧ (s.params.lineMax ≤ s.gov.applied →
      exec .demandPwmPeriod s = .next (transmit { s with gov := { s.gov with pwmDuty := 1000 } }))

/-- R87 and R88: the demand computed for a Governor that is not HALTED, with no AT_ONCE source latched, is the greatest
speed that exceeds no term of its purpose's base, of the limit, and of creep where a stop is coming. R89: the demand the
Governor holds is computed anew as a record leaves the head, as records are appended for an order taken, at a start order,
and as a replay stitch is formed (at an index: LockJudgedByRevolutions). R87, R98: after every step the held demand lies
within every term of the limit, and is 0 while an AT_ONCE source is latched, the schedule being of its shape
(ScheduleAndUseCountsKept); that a SET_PARAMS and an order's end, which R89 does not list, compute it anew too is read
from 5.2 (log 41). -/
def Obligations.DemandIsTheLeastTerm : Prop :=
  (∀ s t : State, ScheduleShape s → DemandShape s → step s = .next t → DemandShape t)
  ∧ (∀ s : State,
    (removeHead s).gov = { s.gov with demand := demandOf (removeHead s) }
    ∧ (∀ o : OrderSpec, (handToPlanner o s).gov = { s.gov with demand := demandOf (handToPlanner o s) })
    ∧ (replayFormed s).gov.demand = demandOf (replayFormed s)
    ∧ ∀ (p : Purpose) (ceilings : List Nat), s.line.faults.atOnce = false →
      let t := startOrder p ceilings s
      t.gov.purpose = some p ∧ t.gov.replayCeilings = ceilings ∧ t.gov.demand = demandOf t ∧ t.gov.armed = false
      ∧ (s.gov.state = .ramping ∨ s.gov.state = .locked → t.gov = { s.gov with
          purpose := some p, replayCeilings := ceilings, armed := false, braked := false, demand := demandOf t })
      ∧ (s.gov.state = .halted → t.gov.state = .ramping ∧ t.gov.released = true ∧ t.gov.applied = t.gov.demand)
      ∧ (s.gov.state = .parking → t.gov.state = .ramping
        ∧ (s.gov.released = true → t.gov.applied = s.gov.applied ∧ t.gov.inTol = s.gov.inTol)
        ∧ (s.gov.released = false → t.gov.released = true ∧ t.gov.applied = t.gov.demand ∧ t.gov.inTol = 0)))
  ∧ ∀ (s : State) (v : Nat),
    let limited := v ≤ s.params.lineMax
      ∧ (∀ o, s.schedule.activeOrder = some o → v ≤ o.spec.speedLimit)
      ∧ (∀ c, s.planner.cursor = some c → c.cap ≠ 0 → v ≤ c.cap)
      ∧ ∀ (i : Nat) (r : PlanRecord) (t : Stitch) (last : Bool), s.planner.queue[i]? = some r →
          r.stitch? = some (t, last) → (∀ j < i, ∀ q, s.planner.queue[j]? = some q → q.isStop = false) → v ≤ t.ceiling
    let coming := ∃ i < s.params.decelDepth, s.gov.replayCeilings.length ≤ i
      ∧ ∀ r, s.planner.queue[i - s.gov.replayCeilings.length]? = some r → r.isStop = true
    let slowed := coming → v ≤ s.params.creep
    (s.gov.state = .halted ∨ s.line.faults.atOnce = true → demandOf s = 0)
    ∧ (s.gov.state ≠ .halted → s.line.faults.atOnce = false →
      (s.gov.purpose = some .stitching → (v ≤ demandOf s ↔ limited ∧ slowed))
      ∧ (s.gov.purpose = some .replay → (v ≤ demandOf s ↔ limited ∧ slowed ∧ v ≤ s.params.resumeSpeed
          ∧ ∀ c ∈ s.gov.replayCeilings, v ≤ c))
      ∧ (s.gov.purpose = some .jog ∨ s.gov.purpose = some .park → (v ≤ demandOf s ↔ limited ∧ v ≤ s.params.creep)))

/-- From R92, R93 and R89: at an index with a newly measured period a released Governor judges the revolution against the
applied demand it had, then takes the demand; a change of more than lock_tol restarts the lock. An index with no new
period judges nothing, and a held drive stays as it is but for the recomputed demand. That a RAMPING Governor whose count stands
at 3 already, as after a cancelled park, becomes LOCKED at its next revolution in tolerance is the model's choice
(log 40). -/
def Obligations.LockJudgedByRevolutions : Prop :=
  ∀ s : State,
    let t := indexGov true s
    let near := mag ((s.shaft.speed : Int) - s.gov.applied) ≤ s.params.lockTol
    let moved := s.params.lockTol < mag ((demandOf s : Int) - s.gov.applied)
    (s.gov.released = false → t = { s with gov := { s.gov with demand := demandOf s } })
    ∧ (s.gov.released = true → t.gov.demand = demandOf s ∧ t.gov.applied = demandOf s ∧ t.gov.released = true
      ∧ (moved → t.gov.inTol = 0 ∧ t.gov.outTol = 0
          ∧ (s.gov.state = .ramping ∨ s.gov.state = .locked → t.gov.state = .ramping))
      ∧ (¬ moved → near → t.gov.inTol = min 3 (s.gov.inTol + 1) ∧ t.gov.outTol = 0
          ∧ (s.gov.state = .ramping → t.gov.state = if 2 ≤ s.gov.inTol then .locked else .ramping)
          ∧ (s.gov.state = .locked → t.gov.state = .locked))
      ∧ (¬ moved → ¬ near → t.gov.inTol = 0 ∧ t.gov.outTol = min 2 (s.gov.outTol + 1)
          ∧ (s.gov.state = .ramping → t.gov.state = .ramping)
          ∧ (s.gov.state = .locked → t.gov.state = if 1 ≤ s.gov.outTol then .ramping else .locked))
      ∧ (s.gov.state = .parking → t.gov.state = .parking))
    ∧ (¬ moved → (indexGov false s).gov.inTol = s.gov.inTol ∧ (indexGov false s).gov.outTol = s.gov.outTol
      ∧ (indexGov false s).gov.state = s.gov.state)

/-! ## The axes -/

/-- R103: a pulse moves the true place of an axis, position × k + e, by exactly one pulse and keeps the residue inside
−k..k, and |s| × k pulses from residue 0 move the position by s and leave residue 0. -/
def Obligations.PulsesConserveTruePlace : Prop :=
  (∀ (k : Nat) (positive : Bool) (pos e : Int), 1 ≤ k → -(k : Int) < e → e < k →
    let r := addPulse k positive pos e
    r.1 * k + r.2 = pos * k + e + (if positive then 1 else -1) ∧ -(k : Int) < r.2 ∧ r.2 < k)
  ∧ ∀ (k n : Nat) (positive : Bool) (pos : Int), 1 ≤ k →
    (fun r : Int × Int => addPulse k positive r.1 r.2)^[n * k] (pos, 0)
      = (pos + (if positive then (n : Int) else -n), 0)

/-- R106, R107 and R105: at a WINDOW_OPEN with the permission granted and no burst in hand, the next replay stitch, else the
head STITCH or TACK, begins its burst, with its pulse counts, directions and intervals; one of no pulses completes at
once, and a head begun for the first time has its order's figures first (R29). At each due time a pulse of a burst or of
a feed move, a high level of 5 µs on the axis's STEP output, is emitted with the shaft stopped or inside the window, and held back otherwise; one held back is emitted as
the gate opens. Here the pulse is not the last of the move. That an axis with no pulses keeps the level of its DIR output
is the model's choice (log 28). -/
def Obligations.PulsesEmittedInsideTheWindow : Prop :=
  (∀ s : State, s.line.permission = true → s.motion.burst = none →
    (s.line.replay = [] → s.planner.headStitch = none → motionOpen s = s)
    ∧ (∀ r, s.line.replay = [] → s.planner.head = some r → r.stitch?.isSome = true → s.planner.headBegun = false →
      motionOpen s = motionOpen (recordBegun r s))
    ∧ ∀ (source : BurstSource) (st : Stitch) (last : Bool),
      (source = .replay ∧ last = false ∧ s.line.replay.head? = some st)
        ∨ (source = .head ∧ s.line.replay = [] ∧ s.planner.headStitch = some (st, last) ∧ s.planner.headBegun = true) →
      1 ≤ s.params.kX → 1 ≤ s.params.kY →
      (st.stepX = 0 → st.stepY = 0 →
        let b : Burst := ⟨false, source, st, last, ⟨0, true, 0, false⟩, ⟨0, true, 0, false⟩⟩
        motionOpen s = completeBurst b { s with motion := { s.motion with burst := some b } })
      ∧ ∀ p : Nat, st.stepX ≠ 0 ∨ st.stepY ≠ 0 →
        s.shaft.period = some p ∨ (s.shaft.period = none ∧ s.gov.applied ≠ 0 ∧ p = 60000000 / s.gov.applied) →
        let usable := p * forwardCounts s.shaft.window.openAt s.shaft.window.closeAt / 4096 * 7 / 8
        let px := mag st.stepX * s.params.kX
        let py := mag st.stepY * s.params.kY
        motionOpen s = { s with motion := { s.motion with
          burst := some
            { frozen := false, source := source, stitch := st, last := last
              x := ⟨px, decide (0 ≤ st.stepX), max s.params.iminX (usable / px), false⟩
              y := ⟨py, decide (0 ≤ st.stepY), max s.params.iminY (usable / py), false⟩ }
          xdir := if px = 0 then s.motion.xdir else decide (0 ≤ st.stepX)
          ydir := if py = 0 then s.motion.ydir else decide (0 ≤ st.stepY) } })
  ∧ (∀ s : State, s.line.permission = false ∨ s.motion.burst ≠ none → motionOpen s = s)
  ∧ (∀ s : State, s.resetAsserted = false →
    let gate := s.shaft.pulsesAllowed
    let xPulse : Bool → Motion → Motion := fun positive m =>
      if m.xKnown then
        { m with x := (addPulse s.params.kX positive m.x m.ex).1, ex := (addPulse s.params.kX positive m.x m.ex).2 }
      else m
    let yPulse : Bool → Motion → Motion := fun positive m =>
      { m with
        panelY := (addPulse s.params.kY positive m.panelY m.ey).1
        ey := (addPulse s.params.kY positive m.panelY m.ey).2 }
    let due : Axis → Motion → Prop := fun axis m =>
      exec (.stepPulseDue axis) s = .next (transmit { s with motion := m })
    (∀ b : Burst, s.motion.burst = some b → b.frozen = false →
      (1 ≤ b.x.left → b.x.waiting = false →
        (gate = true → 2 ≤ b.x.left ∨ 1 ≤ b.y.left → due .x (xPulse b.x.positive
          { s.motion with burst := some { b with x := { b.x with left := b.x.left - 1 } } }))
        ∧ (gate = false → due .x { s.motion with burst := some { b with x := { b.x with waiting := true } } }))
      ∧ (1 ≤ b.y.left → b.y.waiting = false →
        (gate = true → 2 ≤ b.y.left ∨ 1 ≤ b.x.left → due .y (yPulse b.y.positive
          { s.motion with burst := some { b with y := { b.y with left := b.y.left - 1 } } }))
        ∧ (gate = false → due .y { s.motion with burst := some { b with y := { b.y with waiting := true } } })))
    ∧ ∀ f : Feed, s.motion.burst = none → s.motion.feed = some f → f.state = .moving →
      (1 ≤ f.x.left → f.x.waiting = false →
        (gate = true → 2 ≤ f.x.left ∨ 1 ≤ f.y.left → due .x (xPulse f.x.positive
          { s.motion with feed := some { f with x := { f.x with left := f.x.left - 1 } } }))
        ∧ (gate = false → due .x { s.motion with feed := some { f with x := { f.x with waiting := true } } }))
      ∧ (1 ≤ f.y.left → f.y.waiting = false →
        (gate = true → 2 ≤ f.y.left ∨ 1 ≤ f.x.left → s.auditCounts = false → due .y (yPulse f.y.positive
          { s.motion with feed := some { f with y := { f.y with left := f.y.left - 1 } } }))
        ∧ (gate = false → due .y { s.motion with feed := some { f with y := { f.y with waiting := true } } })))
  ∧ (∀ s : State,
    (s.shaft.pulsesAllowed = false ∨ s.anyWaiting = false → emitWaiting s = s)
    ∧ (s.shaft.pulsesAllowed = true → s.motion.homing = none →
      (∀ b : Burst, s.motion.burst = some b → b.frozen = false →
        (b.x.waiting = true → b.y.waiting = false → 1 ≤ b.x.left → 2 ≤ b.x.left ∨ 1 ≤ b.y.left →
          s.motion.xKnown = true →
          emitWaiting s = { s with motion := { s.motion with
            burst := some { b with x := { b.x with left := b.x.left - 1, waiting := false } }
            x := (addPulse s.params.kX b.x.positive s.motion.x s.motion.ex).1
            ex := (addPulse s.params.kX b.x.positive s.motion.x s.motion.ex).2 } })
        ∧ (b.x.waiting = false → b.y.waiting = true → 1 ≤ b.y.left → 2 ≤ b.y.left ∨ 1 ≤ b.x.left →
          emitWaiting s = { s with motion := { s.motion with
            burst := some { b with y := { b.y with left := b.y.left - 1, waiting := false } }
            panelY := (addPulse s.params.kY b.y.positive s.motion.panelY s.motion.ey).1
            ey := (addPulse s.params.kY b.y.positive s.motion.panelY s.motion.ey).2 } }))
      ∧ ∀ f : Feed, s.motion.burst = none → s.motion.feed = some f → f.state = .moving → f.x.waiting = false →
        f.y.waiting = true → 1 ≤ f.y.left → 2 ≤ f.y.left ∨ 1 ≤ f.x.left → s.auditCounts = false →
        emitWaiting s = { s with motion := { s.motion with
          feed := some { f with y := { f.y with left := f.y.left - 1, waiting := false } }
          panelY := (addPulse s.params.kY f.y.positive s.motion.panelY s.motion.ey).1
          ey := (addPulse s.params.kY f.y.positive s.motion.panelY s.motion.ey).2 } })
    ∧ ∀ h : Homing, s.shaft.pulsesAllowed = true → s.motion.burst = none → s.motion.feed = none →
      s.motion.homing = some h → h.waiting = true → h.travel + 1 < 2600 * s.params.kX →
      emitWaiting s = { s with motion := { s.motion with
        homing := some ⟨h.travel + 1, s.params.homeInterval, false⟩ } })
  ∧ ∀ (m : Motion) (sinceX sinceY : Option Nat),
    ((m.outputs sinceX sinceY).xstep = true ↔ ∃ t < 5, sinceX = some t)
    ∧ ((m.outputs sinceX sinceY).ystep = true ↔ ∃ t < 5, sinceY = some t)

/-- R108, with R30, R37, R139, R161 and R171: the last pulse of a burst completes it. A head record leaves the queue, enters
the Stitch History, is counted, and becomes the Thread Monitor's pending stitch when a bar is down. R109: a replay stitch
leaves the replay list and the Governor's ceilings, is the pending stitch of source REPLAY, and is neither counted nor
kept; with the last one the demand is that of stitching again (R99), and that the resume step is none from there on, through
the park of R149 that may follow, is the model's choice (log 48). Either hands its Y pulses to a counting audit, and
the pulse that reaches 65535 ends it. R149: in RUNNING the line then stops for a stop-type head, and after a replay for a
head whose bars are not down. R148: with the burst of step 2 the step ends, and in RUNNING recovery goes
on to its back move through a park. That this park is reported with resume step BACK_MOVE is read from the spec (log 19),
and that off RUNNING, as under an AT_SEGMENT hold, the step ends with overlap_pending still set is the model's choice
(log 14). R153, R159: a stop AT_STITCH that awaited the burst gives its park order, or with the shaft stopped is reached; an
AT_SEGMENT hold goes on as AT_STITCH (its reported kind: log 14) with the flagged record, or as a stop-type record comes to
the head with no replay stitch left, and else stitches on. That with the shaft flagged stopped the stop is reached without a
park order, the drive released or not, is the model's reading of R153 (log 15). But for a stop reached, the shaft turns
here. -/
def Obligations.StitchCompletionHandOffs : Prop :=
  (∀ (s : State) (b : Burst), s.resetAsserted = false → s.motion.burst = some b → b.frozen = false →
    s.shaft.stopped = false → s.shaft.insideCurrent = true → s.motion.xKnown = true →
    (b.x.left = 0 → b.y.left = 1 → b.y.waiting = false →
      let b' := { b with y := { b.y with left := 0 } }
      exec (.stepPulseDue .y) s = .next (transmit (completeBurst b' { s with motion := { s.motion with
        burst := some b'
        panelY := (addPulse s.params.kY b.y.positive s.motion.panelY s.motion.ey).1
        ey := (addPulse s.params.kY b.y.positive s.motion.panelY s.motion.ey).2 } })))
    ∧ (b.y.left = 0 → b.x.left = 1 → b.x.waiting = false →
      let b' := { b with x := { b.x with left := 0 } }
      exec (.stepPulseDue .x) s = .next (transmit (completeBurst b' { s with motion := { s.motion with
        burst := some b'
        x := (addPulse s.params.kX b.x.positive s.motion.x s.motion.ex).1
        ex := (addPulse s.params.kX b.x.positive s.motion.x s.motion.ex).2 } }))))
  ∧ (∀ (s : State) (b : Burst), s.motion.burst = some b → s.shaft.stopped = true → s.motion.feedRunning = false →
    s.stitchStopOn = true → s.audit.state ≠ .counting →
    let t := completeBurst b s
    t.motion.burst = none ∧ t.gov.state = s.gov.state
    ∧ (s.line.stopPurpose = some .hold → t.line.effective = .holding)
    ∧ (s.line.stopPurpose = some .fault → t.line.effective = .faulted
      ∧ t.line.overlapPending = (s.line.overlapPending || s.line.faults.threadStop)))
  ∧ ∀ (s : State) (b : Burst), s.motion.burst = some b → s.shaft.stopped = false →
    let t := completeBurst b s
    let n := mag b.stitch.stepY * s.params.kY
    let counts := s.audit.state = .counting
      ∧ ((s.line.effective = .running ∧ s.gov.state = .locked) ∨ s.line.effective = .feeding)
    let quiet := ¬ counts ∨ s.audit.cCmd + n < 65535
    let pending : StitchSource → Option FormedStitch := fun source =>
      if s.bars.engaged.isEmpty then s.monitor.pendingStitch else some ⟨b.stitch.ref, source⟩
    let stopsFor : StopPurpose → Prop := fun p =>
      t.line.effective = .stopping ∧ t.line.stopPurpose = some p ∧ t.line.stopKind = some .park
      ∧ t.line.permission = false
      ∧ (s.gov.state = .ramping ∨ s.gov.state = .locked → s.line.faults.atOnce = false →
        t.gov.state = .parking ∧ t.gov.purpose = some .park ∧ t.gov.attempts = 1)
    (¬ counts → t.motion = { s.motion with burst := none })
    ∧ (t.motion.burst = none ∧ t.motion.x = s.motion.x ∧ t.motion.panelY = s.motion.panelY
      ∧ t.store = s.store ∧ t.bars = s.bars ∧ t.shaft = s.shaft ∧ t.params = s.params)
    ∧ (¬ counts ∨ n = 0 → t.audit = s.audit)
    ∧ (counts → s.audit.cCmd + n < 65535 → t.audit = { s.audit with cCmd := s.audit.cCmd + n })
    ∧ (counts → n ≠ 0 → 65535 ≤ s.audit.cCmd + n → ∃ r, t.audit.last = some r ∧ r.cause = .cmd ∧ r.cCmd = 65535
        ∧ r.cRoll = s.audit.cRoll ∧ r.cWheel = s.audit.cWheel)
    ∧ (b.source = .head →
      (∀ (o : Order) (rest : List Order), s.schedule.orders = o :: rest → o.state = .active →
        (∀ x ∈ rest, x.state = .queued) →
        t.schedule.orders = { o with stitchesExecuted := min 65535 (o.stitchesExecuted + 1) } :: rest)
      ∧ t.line.history = (s.line.history ++ [b.stitch]).drop (s.line.history.length + 1 - 32)
      ∧ t.planner = (removeHead s).planner ∧ t.monitor = { s.monitor with pendingStitch := pending .plan }
      ∧ (quiet → s.line.effective = .running → s.line.resumeStep ≠ .frozen → s.line.replay = [] →
        (t.planner.headIsStop = false → t.line.effective = .running ∧ t.line.permission = s.line.permission)
        ∧ (∀ r, t.planner.head = some r → r.isStop = true → stopsFor (if r.isLeadOut then .endOfPanel else .feed))))
    ∧ (b.source = .replay →
      t.line.history = s.line.history ∧ t.planner = s.planner ∧ t.schedule = s.schedule
      ∧ t.line.replay = s.line.replay.tail ∧ t.monitor = { s.monitor with pendingStitch := pending .replay }
      ∧ (quiet → s.line.effective = .running → s.line.resumeStep ≠ .frozen →
        (s.line.replay.tail ≠ [] → t.line = { s.line with replay := s.line.replay.tail }
          ∧ t.gov.replayCeilings = s.gov.replayCeilings.tail)
        ∧ (s.line.replay.tail = [] → t.line.resumeStep = .none
          ∧ (∀ st last, s.planner.headStitch = some (st, last) → st.bars = s.bars.engaged →
            t.line.effective = .running ∧ t.gov.replayCeilings = s.gov.replayCeilings.tail
            ∧ (s.gov.purpose = some .replay → s.gov.replayCeilings.tail = [] → t.gov.purpose = some .stitching))
          ∧ (∀ st last, s.planner.headStitch = some (st, last) → st.bars ≠ s.bars.engaged → stopsFor .feed)
          ∧ ∀ r, s.planner.head = some r → r.isStop = true → stopsFor (if r.isLeadOut then .endOfPanel else .feed))))
    ∧ (quiet → s.line.resumeStep = .frozen →
      (s.line.effective = .running → s.line.overlapPending = true →
        stopsFor .feed ∧ t.line.resumeStep = .backMove ∧ t.line.overlapPending = true)
      ∧ (s.line.effective ≠ .running ∨ s.line.overlapPending = false → t.line.resumeStep = .none)
      ∧ (s.line.effective ≠ .running → s.line.overlapPending = true → t.line.overlapPending = true))
    ∧ (quiet → s.motion.feedRunning = false →
      let parks := t.line.effective = .stopping ∧ t.line.stopPurpose = s.line.stopPurpose
        ∧ t.line.stopKind = s.line.stopKind ∧ t.line.holdOrigin = s.line.holdOrigin
        ∧ (s.gov.state = .ramping ∨ s.gov.state = .locked → s.line.faults.atOnce = false →
          t.gov.state = .parking ∧ t.gov.purpose = some .park ∧ t.gov.attempts = 1 ∧ t.gov.armed = false)
        ∧ (s.gov.state = .parking → t.gov.state = .parking ∧ t.gov.armed = s.gov.armed)
      let ends := (b.source = .head ∧ b.last = true) ∨ (t.line.replay = [] ∧ t.planner.headIsStop = true)
      (s.stitchStopOn = true → parks ∧ t.line.permission = s.line.permission)
      ∧ (s.segmentStopOn = true → ends → parks ∧ t.line.permission = false)
      ∧ (s.segmentStopOn = true → ¬ ends → t.line.effective = .stopping ∧ t.line.permission = true
        ∧ t.line.stopKind = some .atSegment ∧ t.gov.state = s.gov.state))

/-- R113 to R117, R48, R104: in FEEDING with the shaft stopped and nothing before it, the head FEED record begins with its
pulses at the minimum intervals, or is done at once with none to emit; END completes at once; a back move begins when
handed over; a FROZEN move goes on where it stopped, a LEAD_IN to its target, a gap that ESTOP stopped in its cut with the
full cut pulse again; a search is begun anew only after FEEDING
has been entered again. The last pulse ends the record, cuts the first part of a cut gap, or ends a search at mark_limit
with MARK_MISSING; a MARK edge ends a search with panel Y 0; the end of the cut pulse begins the SECOND part, or leaves
it FROZEN after a freeze. R150: the GAP's end ends the order, and with no next one the line is IDLE; R153, R159: a stop that
awaited a record's move is reached as it completes. The head's FROZEN move waits behind the back move and the replay (R117);
that it then stands aside is the model's choice (log 19). The last pulse of a record is here one on Y. That a move which is
not a GAP with cut begins with part FIRST (log 43), that an axis with no
pulses keeps the level of its DIR output (log 28), and that a gap frozen at the end of its cut ends the wait of the stop
that awaited it (log 15), are the model's choices. -/
def Obligations.FeedMovesBeginSearchAndCut : Prop :=
  ∀ s : State, s.resetAsserted = false →
    let feeding := s.line.effective = .feeding ∧ s.shaft.stopped = true
    let ready := feeding ∧ s.line.resumeStep = .none ∧ s.line.replay = []
    let moves : Int → Int → Feed → State := fun px py f => { s with motion := { s.motion with
      feed := some { f with
        x := ⟨px.natAbs, decide (0 ≤ px), s.params.iminX, false⟩, y := ⟨py.natAbs, decide (0 ≤ py), s.params.iminY, false⟩ }
      xdir := if px = 0 then s.motion.xdir else decide (0 ≤ px)
      ydir := if py = 0 then s.motion.ydir else decide (0 ≤ py) } }
    let fresh : FeedSource → Feed := fun source =>
      { state := .moving, source := source, part := .first, cutDone := false, freezeAfterCut := false
        reentered := false, x := ⟨0, true, 0, false⟩, y := ⟨0, true, 0, false⟩ }
    let done : State → List PlanRecord → Prop := fun t rest =>
      t.motion.feed = none ∧ t.line.history = [] ∧ rest <+: t.planner.queue
    let gapEnds : State → Prop := fun t => ∀ (o : Order) (others : List Order),
      s.schedule.orders = o :: others → o.state = .active → (∀ x ∈ others, x.state = .queued) →
      s.planner.queue.tail = [] → s.planner.cursor.map (fun c => c.stage) = some .finished →
      (others = [] → t.line.effective = .idle ∧ t.line.requested = .idle ∧ t.schedule.orders = []
        ∧ t.planner.queue = [] ∧ t.planner.cursor = none ∧ t.motion.feed = none)
      ∧ ∀ (n : Order) (more : List Order), others = n :: more →
        t.line.effective = .feeding ∧ t.schedule.orders = n.taken :: more ∧ t.motion.feed = none
        ∧ t.planner.cursor.map (fun c => c.order) = some n.spec
    (ready → s.motion.feed = none → s.motion.asideFeed = none → s.motion.backMove = none →
      (∀ (kind : FeedKind) (dx dy : Int) (ref : Ref) (rest : List PlanRecord),
        s.planner.queue = .feed kind dx dy ref :: rest →
        let px : Int := match kind with
          | .markSearch => 0
          | .leadIn target => (target - s.motion.x) * s.params.kX - s.motion.ex
          | .gap => if s.cutGap then 0 else dx * s.params.kX
          | .jump => dx * s.params.kX
          | .join => dx * s.params.kX
          | .leadOut => dx * s.params.kX
        let py : Int := match kind with
          | .markSearch => s.params.markLimit * s.params.kY
          | .leadIn _ => dy * s.params.kY
          | .gap => if s.cutGap then dy / 2 * s.params.kY else dy * s.params.kY
          | .jump => dy * s.params.kY
          | .join => dy * s.params.kY
          | .leadOut => dy * s.params.kY
        (s.planner.headBegun = true → px ≠ 0 ∨ py ≠ 0 →
          exec .feedBegin s = .next (transmit (moves px py (fresh .record))))
        ∧ (s.planner.headBegun = true → px = 0 → py = 0 →
          (s.cutGap = false → kind ≠ .markSearch → s.bars.change = none →
            ∃ t, exec .feedBegin s = .next t ∧ t.motion.x = s.motion.x ∧ (kind ≠ .gap → done t rest)
              ∧ (kind = .gap → gapEnds t))
          ∧ (s.cutGap = true →
            ∃ t, exec .feedBegin s = .next t ∧ (t.motion.feed.map fun f => f.state) = some .cutting
              ∧ t.motion.cutTimer = some s.params.cutTime ∧ t.planner = s.planner))
        ∧ ∀ (o : Order) (others : List Order), s.planner.headBegun = false → s.schedule.orders = o :: others →
            o.state = .active → (∀ x ∈ others, x.state = .queued) → px ≠ 0 ∨ py ≠ 0 →
            ∃ t, exec .feedBegin s = .next t ∧ t.motion.feed = (moves px py (fresh .record)).motion.feed
              ∧ t.planner.headBegun = true
              ∧ t.planner.queue = s.planner.queue ∧ t.schedule.activeOrder = some { o with
                  phase := PlanRecord.phase (.feed kind dx dy ref), currentRepeat := ref.repeatNo, started := true }
              ∧ (t.motion.panelY, t.motion.ey) = (match kind with
                | .leadIn _ => if o.spec.onMark then (s.motion.panelY, s.motion.ey) else (0, 0)
                | .markSearch => (s.motion.panelY, s.motion.ey)
                | .gap => (s.motion.panelY, s.motion.ey)
                | .jump => (s.motion.panelY, s.motion.ey)
                | .join => (s.motion.panelY, s.motion.ey)
                | .leadOut => (s.motion.panelY, s.motion.ey)))
      ∧ ∀ (ref : Ref) (rest : List PlanRecord), s.planner.queue = .endMark ref :: rest → s.bars.change = none →
          ∃ t, exec .feedBegin s = .next t ∧ rest <+: t.planner.queue ∧ t.motion.feed = none)
    ∧ (feeding → ∀ dx dy : Int, s.motion.backMove = some (dx, dy) →
      dx * s.params.kX ≠ 0 ∨ dy * s.params.kY ≠ 0 →
      let begins : Option Feed → Prop := fun aside =>
        let t := moves (dx * s.params.kX) (dy * s.params.kY) (fresh .backMove)
        exec .feedBegin s = .next (transmit { t with motion := { t.motion with backMove := none, asideFeed := aside } })
      (s.motion.feed = none → begins s.motion.asideFeed)
      ∧ ∀ f : Feed, s.motion.feed = some f →
        (f.state = .frozen → f.source = .record → begins (some f))
        ∧ (f.state = .searchEnded → f.reentered = true → begins s.motion.asideFeed))
    ∧ (∀ f : Feed, feeding → f.state = .frozen → f.source = .record → s.motion.backMove = none →
      (s.motion.feed = some f → ¬ ready → exec .feedBegin s = .next (transmit s))
      ∧ (s.motion.feed = none → s.motion.asideFeed = some f →
        (¬ ready → exec .feedBegin s = .next (transmit s))
        ∧ (ready → exec .feedBegin s
          = exec .feedBegin { s with motion := { s.motion with feed := some f, asideFeed := none } })))
    ∧ (∀ f : Feed, ready → s.motion.backMove = none → s.motion.feed = some f → f.state = .frozen → f.source = .record →
      s.cutGap = true → f.part = .first → f.x.left = 0 → f.y.left = 0 →
      exec .feedBegin s = .next (transmit { s with motion := { s.motion with
        cutTimer := some s.params.cutTime
        feed := some { f with
          state := .cutting, cutDone := false, freezeAfterCut := false
          x := { f.x with interval := 0, waiting := false }, y := { f.y with interval := 0, waiting := false } } } }))
    ∧ (∀ f : Feed, feeding → s.motion.feed = some f → f.state = .frozen →
      (f.source = .record → ready ∧ s.motion.backMove = none) →
      (f.source = .record → ∀ target dx dy ref, s.planner.head = some (.feed (.leadIn target) dx dy ref) →
        let px := (target - s.motion.x) * s.params.kX - s.motion.ex
        px ≠ 0 ∨ f.y.left ≠ 0 →
        ∃ t, exec .feedBegin s = .next t ∧ t.motion.feed = some { f with
          state := .moving, x := ⟨px.natAbs, decide (0 ≤ px), s.params.iminX, false⟩
          y := { f.y with interval := s.params.iminY, waiting := false } })
      ∧ (f.source = .backMove ∨ s.planner.head.map PlanRecord.isLeadIn ≠ some true → f.x.left ≠ 0 ∨ f.y.left ≠ 0 →
        exec .feedBegin s = .next (transmit { s with motion := { s.motion with
          feed := some { f with
            state := .moving, x := { f.x with interval := s.params.iminX, waiting := false }
            y := { f.y with interval := s.params.iminY, waiting := false } }
          xdir := if f.x.left = 0 then s.motion.xdir else f.x.positive
          ydir := if f.y.left = 0 then s.motion.ydir else f.y.positive } })))
    ∧ (∀ f : Feed, s.motion.feed = some f → f.state = .searchEnded →
      (ready → f.reentered = true → s.motion.backMove = none → s.motion.asideFeed = none →
        exec .feedBegin s = exec .feedBegin { s with motion := { s.motion with feed := none } })
      ∧ (f.reentered = false → exec .feedBegin s = .next (transmit s)))
    ∧ (∀ (f : Feed) (kind : FeedKind) (dx dy : Int) (ref : Ref) (rest : List PlanRecord),
      s.motion.burst = none → s.motion.feed = some f → f.state = .moving → f.source = .record → f.x.left = 0 →
      f.y.left = 1 → f.y.waiting = false → s.planner.queue = .feed kind dx dy ref :: rest →
      feeding → s.line.resumeStep = .none → s.bars.change = none → s.audit.state ≠ .counting →
      ∃ t, exec (.stepPulseDue .y) s = .next t
        ∧ (kind = .markSearch → t.line.faults.has .markMissing = true ∧ t.planner = s.planner
          ∧ (t.motion.feed.map fun g => (g.state, g.reentered)) = some (.searchEnded, false))
        ∧ (s.cutGap = true → f.part = .first → t.planner = s.planner ∧ t.motion.cutTimer = some s.params.cutTime
          ∧ (t.motion.feed.map fun g => g.state) = some .cutting)
        ∧ (kind ≠ .markSearch → kind ≠ .gap → done t rest)
        ∧ (kind = .gap → s.cutGap = false ∨ f.part = .second → gapEnds t))
    ∧ (∀ (f : Feed) (kind : FeedKind) (dx dy : Int) (ref : Ref) (rest : List PlanRecord),
      s.motion.burst = none → s.motion.feed = some f → f.state = .moving → f.source = .record → f.x.left = 0 →
      f.y.left = 1 → f.y.waiting = false → s.planner.queue = .feed kind dx dy ref :: rest → s.stitchStopOn = true →
      s.shaft.stopped = true → s.audit.state ≠ .counting → kind ≠ .markSearch → s.cutGap = false ∨ f.part = .second →
      ∃ t, exec (.stepPulseDue .y) s = .next t ∧ t.motion.feed = none ∧ t.line.history = [] ∧ t.line.resumeStep = .none
        ∧ (s.planner.headIsGap = false → rest <+: t.planner.queue)
        ∧ (s.line.stopPurpose = some .hold → t.line.effective = .holding)
        ∧ (s.line.stopPurpose = some .fault → t.line.effective = .faulted
          ∧ t.line.overlapPending = (s.line.overlapPending || s.line.faults.threadStop)))
    ∧ (∀ (f : Feed) (dx dy : Int) (ref : Ref) (rest : List PlanRecord),
      s.motion.feed = some f → f.state = .moving → f.source = .record →
      s.planner.queue = .feed .markSearch dx dy ref :: rest →
      s.line.effective = .feeding → s.line.resumeStep = .none → s.motion.burst = none → s.bars.change = none →
      ∃ t, exec .markEdge s = .next t ∧ done t rest ∧ t.motion.panelY = 0 ∧ t.motion.ey = 0
        ∧ t.motion.x = s.motion.x)
    ∧ (s.motion.feed = none → exec .markEdge s = .next (transmit s))
    ∧ (∀ (f : Feed) (dx dy : Int) (ref : Ref) (rest : List PlanRecord) (ms : Nat),
      s.motion.feed = some f → f.state = .cutting → s.motion.cutTimer = some ms →
      s.planner.queue = .feed .gap dx dy ref :: rest → 1 ≤ dy → 1 ≤ s.params.kY →
      let left := ((dy - dy / 2) * s.params.kY).natAbs
      let frozen : Motion := { s.motion with
        cutTimer := none
        feed := some { f with
          state := .frozen, part := .second, cutDone := true, freezeAfterCut := false, y := ⟨left, true, 0, false⟩ } }
      (f.freezeAfterCut = false →
        exec .cutTimeExpiry s = .next (transmit { s with motion := { s.motion with
          cutTimer := none
          feed := some { f with
            state := .moving, part := .second, cutDone := true
            x := { f.x with interval := s.params.iminX, waiting := false }
            y := ⟨left, true, s.params.iminY, false⟩ }
          xdir := if f.x.left = 0 then s.motion.xdir else f.x.positive
          ydir := true } }))
      ∧ (f.freezeAfterCut = true → s.stitchStopOn = false →
        exec .cutTimeExpiry s = .next (transmit { s with motion := frozen }))
      ∧ (f.freezeAfterCut = true → s.stitchStopOn = true → s.motion.emitting = false → s.shaft.stopped = true →
        ∃ t, exec .cutTimeExpiry s = .next t ∧ t.motion = frozen
          ∧ (s.line.stopPurpose = some .hold → t.line.effective = .holding)
          ∧ (s.line.stopPurpose = some .fault → t.line.effective = .faulted
            ∧ t.line.overlapPending = (s.line.overlapPending || s.line.faults.threadStop))))

/-- R118 and R119: HOME_X by its checks in order, the homing it starts, and its end at XHOME, with the pu travelled, after
2600 pu without it, or at ESTOP, NOT_FOUND with the pu travelled and X still unknown. XHOME has no effect on X when no homing is in progress.
That a refusal's detail bytes with nothing named in them are 0 is the model's choice (log 22).
That a LEAD_IN counts as completed once none is in the Plan Queue is read from the spec by inference (log 36).
That every homing pulse is judged by the k_x in force, one changed during the homing too,
is the model's choice (log 46). That the HOME_DONE of a HOME_X that finds XHOME asserted waits behind the request's own reply is the model's reading of
R179 (log 4). -/
def Obligations.HomingFindsX : Prop :=
  ∀ (tag : Byte) (s : State),
    (s.takesRequests →
      let at0 := { s.motion with xKnown := false, x := 0, ex := 0, xdir := false }
      let asked := s.line.effective = .idle ∨ s.line.effective = .threading
      let free := s.orderActive = false ∨ s.planner.queue.any PlanRecord.isLeadIn = true
      let refused : Why → Prop := fun why =>
        exec (.homeX tag) s = .next (transmit (s.answered 0x10 tag (Reply.because .notNow why)))
      (asked → s.shaft.stopped = true → s.motion.homing = none → free → s.pins.xhome = false →
        exec (.homeX tag) s = .next (transmit (State.answered
          { s with motion := { at0 with homing := some ⟨0, s.params.homeInterval, false⟩ } } 0x10 tag (Reply.good []))))
      ∧ (asked → s.shaft.stopped = true → s.motion.homing = none → free → s.pins.xhome = true →
        exec (.homeX tag) s = .next (transmit (State.answered
          { s with motion := { at0 with xKnown := true, homing := none }
                   link := { s.link with notices := noticesWith s.link.notices (.homeDone true 0) } }
          0x10 tag (Reply.good []))))
      ∧ (¬ asked → refused .mode)
      ∧ (asked → s.shaft.stopped = false → refused .shaft)
      ∧ (asked → s.shaft.stopped = true → s.motion.homing ≠ none → refused .homing)
      ∧ (asked → s.shaft.stopped = true → s.motion.homing = none → ¬ free → refused .order))
    ∧ (s.resetAsserted = false →
      (∀ h : Homing, s.motion.homing = some h → h.waiting = false →
        (s.shaft.pulsesAllowed = true → h.travel + 1 < 2600 * s.params.kX →
          exec .homePulseDue s = .next (transmit { s with motion := { s.motion with
            homing := some ⟨h.travel + 1, s.params.homeInterval, false⟩ } }))
        ∧ (s.shaft.pulsesAllowed = true → 2600 * s.params.kX ≤ h.travel + 1 →
          exec .homePulseDue s = .next (transmit { s with
            motion := { s.motion with homing := none }
            link := { s.link with notices := noticesWith s.link.notices (.homeDone false 2600) } }))
        ∧ (s.shaft.pulsesAllowed = false →
          exec .homePulseDue s = .next (transmit { s with motion := { s.motion with
            homing := some { h with waiting := true } } })))
      ∧ (∀ h : Homing, s.motion.homing = some h →
        exec (.xhomeAsserted true) s = .next (transmit { s with
          pins := { s.pins with xhome := true }
          motion := { s.motion with x := 0, ex := 0, xKnown := true, homing := none }
          link := { s.link with
            notices := noticesWith s.link.notices (.homeDone true (h.travel / s.params.kX)) } }))
      ∧ (∀ h : Homing, s.motion.homing = some h →
        ∃ t, exec .estopAsserted s = .next t ∧ t.motion.homing = none ∧ t.motion.xKnown = s.motion.xKnown
          ∧ t.motion.x = s.motion.x ∧ t.motion.ex = s.motion.ex
          ∧ (s.motion.xKnown = false → t.motion.xKnown = false)
          ∧ t.notified (.homeDone false (h.travel / s.params.kX)))
      ∧ (∀ level : Bool, s.motion.homing = none ∨ level = false →
        exec (.xhomeAsserted level) s = .next (transmit { s with pins := { s.pins with xhome := level } })))

/-! ## Needle bars -/

/-- R124, R127 and R129: the head BAR_CHANGE, begun in FEEDING with the shaft stopped, and a forced move in THREADING judge
each bar (State.judgedBar): one held at its target stands, one moving there with its target valve energized gets a fresh
bar_timeout, one still in its dead time goes on with it, and any other goes into its dead time with the opposite valve off,
or with a dead_time of 0 energizes its target valve at once; with every bar complete so the change ends at once. A change
begun while the shaft turns begins at the stopped event (StoppedShaftSettles). The end of the dead time energizes the target valve and starts the bar_timeout, and the bar's inputs are then judged as at a change of them: one
that already shows the target alone completes the bar (R125) and, with the last bar of it, the change in hand (R127, R128;
BarsConfirmOrTimeOut). While a change waits for the shaft no valve is
touched; that a dead time then ends with no timer is the model's choice (log 42). A FORCE_BAR is refused by the first of
R129's checks that fails. That one whose bar and direction are both bad names the bar is the model's choice (log 22).
That a refusal's detail bytes with nothing named in them are 0 is the model's choice (log 22). -/
def Obligations.BarsMoveThroughDeadTime : Prop :=
  ∀ s : State,
    (∀ (target : BarSet) (ref : Ref) (rest : List PlanRecord), s.resetAsserted = false →
      s.line.effective = .feeding → s.shaft.stopped = true → s.line.resumeStep = .none → s.line.replay = [] →
      s.bars.change = none → s.planner.queue = .barChange target ref :: rest →
      let judged : Bar → BarRec := fun b => s.judgedBar b (target.mem b)
      ∃ t, exec .barChangeBegin s = .next t ∧ t.store = s.store
        ∧ ((∃ b, (judged b).heldAt (target.mem b) = false) →
          t.bars.change = some ⟨.record, target, false⟩ ∧ (∀ b, t.bars.get b = judged b)
          ∧ t.planner.queue = s.planner.queue ∧ t.planner.headBegun = true ∧ t.motion = s.motion)
        ∧ ((∀ b, (judged b).heldAt (target.mem b) = true) → rest <+: t.planner.queue
          ∧ (t.planner.headStitch = none →
            t.bars.change = none ∧ (∀ b, t.bars.get b = judged b) ∧ t.line.effective = .feeding ∧ t.motion = s.motion)))
    ∧ (∀ (tag : Byte) (b : Bar) (down : Bool), s.takesRequests → s.line.effective = .threading →
      s.shaft.stopped = true → s.pins.jog = false → s.bars.change = none →
      ∃ t : State, exec (.forceBar tag (BitVec.ofNat 8 (Bar.num b)) (if down then 1 else 0)) s = .next (transmit
          (t.answered 0x11 tag (Reply.good [])))
        ∧ (t.bars.change.map fun c => c.kind) = (if (s.judgedBar b down).heldAt down then none else some (.force b))
        ∧ t.bars.get b = s.judgedBar b down
        ∧ ∀ b', b' ≠ b → t.bars.get b' = s.bars.get b')
    ∧ (∀ tag bar direction : Byte, s.takesRequests →
      let refused : Reply → Prop := fun r =>
        exec (.forceBar tag bar direction) s = .next (transmit (s.answered 0x11 tag r))
      let named := bar.toNat ≤ 2 ∧ direction.toNat ≤ 1
      let quiet := s.shaft.stopped = true ∧ s.pins.jog = false
      (2 < bar.toNat → refused (Reply.field 0))
      ∧ (bar.toNat ≤ 2 → 1 < direction.toNat → refused (Reply.field 1))
      ∧ (named → s.line.effective ≠ .threading → refused (Reply.because .notNow .mode))
      ∧ (named → s.line.effective = .threading → ¬ quiet → refused (Reply.because .notNow .shaft))
      ∧ (named → s.line.effective = .threading → quiet → s.bars.change ≠ none →
        refused (Reply.because .notNow .change)))
    ∧ ∀ (b : Bar) (ms : Nat) (down : Bool), s.resetAsserted = false → (s.bars.get b).timer = .deadTime ms →
      (s.bars.get b).state = (if down then .lowering else .raising) → s.changeDone = false →
      let waits := s.bars.change.map (fun c => c.waiting) = some true
      let r := s.bars.get b
      let up := s.pins.bup.mem b
      let dn := s.pins.bdn.mem b
      let powered : BarRec :=
        { r with vlo := down || r.vlo, vra := !down || r.vra, timer := .confirm s.params.barTimeout }
      (waits → exec (.deadTimeExpiry b) s = .next (transmit { s with bars := s.bars.put b { r with timer := .idle } }))
      ∧ (¬ waits → (if down then dn && !up else up && !dn) = false →
        exec (.deadTimeExpiry b) s = .next (transmit { s with bars := s.bars.put b powered }))
      ∧ ((if down then dn && !up else up && !dn) = true → s.bars.change = none →
        ∃ t, exec (.deadTimeExpiry b) s = .next t
          ∧ t.bars.get b = { powered with state := if down then .down else .up, timer := .idle, timedOut := false }
          ∧ ∀ b', b' ≠ b → t.bars.get b' = s.bars.get b')
      ∧ (¬ waits → r.released = false → exec (.deadTimeExpiry b) s = exec (.barInputChange b up dn)
          { s with bars := s.bars.put b powered })

/-- R123, R125, R126: a moving bar with its target valve energized completes when its target input stands alone; a
released bar follows its inputs; a held bar does not. With its last bar a change ends. R127, R149: a record change takes
the record off the queue; in FEEDING a FEED, BAR_CHANGE or END that comes next keeps the line there, and a stitch
starts it, after a restore where its bars are not held. R128, R148: a restore in FEEDING lets the resume sequence go on
from its step, to the frozen burst, the replay (begun anew, for a frozen replay stitch too: log 18) or the head; off
FEEDING neither moves the line. A bar_timeout marks the bar, keeps its valve and latches BAR_TIMEOUT, and ends a forced
move. -/
def Obligations.BarsConfirmOrTimeOut : Prop :=
  ∀ (b : Bar) (up dn : Bool) (s : State), s.resetAsserted = false →
    let r := s.bars.get b
    let pins := { s.pins with bup := s.pins.bup.put b up, bdn := s.pins.bdn.put b dn }
    (∀ down : Bool, r.released = false → r.state = (if down then .lowering else .raising) →
      (if down then r.vlo else r.vra) = true → (if down then dn && !up else up && !dn) = true →
      let r' : BarRec := { r with state := if down then .down else .up, timer := .idle, timedOut := false }
      (s.bars.change = none →
        ∃ t, exec (.barInputChange b up dn) s = .next t ∧ t.bars = s.bars.put b r' ∧ t.pins = pins
          ∧ t.planner = s.planner ∧ t.motion = s.motion)
      ∧ ∀ (kind : ChangeKind) (target : BarSet), s.bars.change = some ⟨kind, target, false⟩ → target.mem b = down →
        (∀ b', b' ≠ b → (s.bars.get b').heldAt (target.mem b') = true) →
        let ended : Bars := { s.bars.put b r' with change := none }
        let held : BarSet → Prop := fun set => ∀ b', (ended.get b').heldAt (set.mem b') = true
        let feeding := s.line.effective = .feeding
        let runs : State → Purpose → List Nat → Prop := fun t p ceilings =>
          t.line.effective = .running ∧ t.line.permission = true ∧ t.bars = ended
          ∧ (s.gov.state = .halted → s.line.faults.atOnce = false → t.gov.state = .ramping ∧ t.gov.released = true
            ∧ t.gov.purpose = some p ∧ t.gov.replayCeilings = ceilings)
        ∃ t, exec (.barInputChange b up dn) s = .next t ∧ t.pins = pins ∧ t.store = s.store
          ∧ ((∃ f, kind = .force f) → t.bars = ended ∧ t.line = s.line ∧ t.planner = s.planner ∧ t.motion = s.motion)
          ∧ (kind = .record → t.planner = (removeHead s).planner ∧ s.planner.queue.tail <+: t.planner.queue
            ∧ (¬ feeding → s.line.effective ≠ .stopping → t.bars = ended ∧ t.line = s.line)
            ∧ (feeding → s.line.resumeStep = .none → s.line.replay = [] →
              (t.planner.headStitch = none →
                t.bars = ended ∧ t.line = s.line ∧ t.motion = s.motion)
              ∧ ∀ (st : Stitch) (last : Bool), t.planner.headStitch = some (st, last) →
                (held st.bars → runs t .stitching [] ∧ t.line.resumeStep = .none)
                ∧ (¬ held st.bars → 1 ≤ s.params.deadTime → t.line = { s.line with resumeStep := .restore }
                  ∧ t.bars.change = some ⟨.restore, st.bars, !s.shaft.stopped⟩ ∧ t.motion = s.motion)))
          ∧ (kind = .restore → t.planner = s.planner
            ∧ (¬ feeding ∨ s.line.resumeStep = .none ∨ s.line.resumeStep = .backMove → t.bars = ended ∧ t.line = s.line)
            ∧ (feeding → ∀ u : Burst, s.line.resumeStep = .frozen → s.motion.burst = some u →
              (u.source = .head → runs t .stitching [] ∧ t.line.resumeStep = .frozen)
              ∧ (u.source = .replay → runs t .replay s.replayCeilings ∧ t.line.resumeStep = .frozen
                ∧ t.monitor.suppress = s.params.grace))
            ∧ (feeding → s.line.resumeStep = .replay →
              runs t .replay s.replayCeilings ∧ t.line.resumeStep = .replay ∧ t.monitor.suppress = s.params.grace)
            ∧ (feeding → s.line.resumeStep = .restore →
              (s.planner.headStitch ≠ none → runs t .stitching [] ∧ t.line.resumeStep = .none)
              ∧ (s.planner.headStitch = none → t.bars = ended ∧ t.line = { s.line with resumeStep := .none }))))
    ∧ (r.released = true →
      ∃ t, exec (.barInputChange b up dn) s = .next t
        ∧ t.bars = s.bars.put b { r with state :=
            if up && !dn then .up else if dn && !up then .down else .unknown }
        ∧ t.pins = pins)
    ∧ (r.released = false → r.state = .up ∨ r.state = .down → s.changeDone = false →
      exec (.barInputChange b up dn) s = .next (transmit { s with pins := pins }))
    ∧ ∀ ms : Nat, r.timer = .confirm ms → r.state ≠ .down →
      ∃ t, exec (.barTimeout b) s = .next t ∧ t.line.faults.has .barTimeout = true
        ∧ t.bars = { s.bars.put b { r with timedOut := true, timer := .idle } with
            change := if s.bars.change.map (fun c => c.kind) = some (.force b) then none else s.bars.change }

/-! ## Threads -/

/-- R133 to R135, R139 to R141 and R144: a scan is begun for the chain as it is; TSLOAD, TSCLK and TSDOUT clock the guard
0xA5 out and are low outside a scan. The bits received are split: the first n are the levels of needles 0..n − 1 and the
last 8 the returned guard. A good guard makes the levels the new image, sets the moved needles' flags while the shaft
turns and ends the chain condition; any other guard raises it and latches SENSOR_CHAIN once. A WINDOW_OPEN judges the
needles of the lowered bars at an occasion that is not suppressed; where it declares breaks, one NEEDLE_BROKEN carries
their number, the lowest of them, the formed stitch and the number of BROKEN needles now in the table. It always clears the
formed stitch, the scan-fault flag and the motion-seen flags. That the scan's clocks begin high and fall after 1 µs is the model's choice (log 30), and
so is that a SCAN_COMPLETE with no scan under way has no effect (log 2). -/
def Obligations.ScansAndNeedlesJudged : Prop :=
  ∀ s : State,
    (s.resetAsserted = false →
      (∀ us, s.monitor.scanTimer = some us →
        exec .scanTimerExpiry s = .next (transmit { s with monitor := { s.monitor with
          scanTimer := some s.params.scanPeriod, scanning := some (8 * s.params.chainBytes) } }))
      ∧ (∀ first rest, s.monitor.scanning = none → exec (.scanComplete first rest) s = .next (transmit s))
      ∧ ∀ (n : Nat) (first : BitVec 96) (rest : BitVec 8), s.monitor.scanning = some n →
        let received : BitVec 104 := rest ++ first
        let sound := ∀ j < 8, received.getLsbD (n + j) = (0xA5 : Byte).getLsbD (7 - j)
        (sound → ∃ (high seen : BitVec 96),
          exec (.scanComplete first rest) s = .next (transmit { s with monitor := { s.monitor with
            scanning := none, chainFault := false, image := some ⟨n, high⟩, seen := seen } })
          ∧ ∀ i < 96, high.getLsbD i = (received.getLsbD i && decide (i < n))
            ∧ seen.getLsbD i = (s.monitor.seen.getLsbD i ||
                (decide (s.monitor.image.map Image.n = some n) && !s.shaft.stopped
                  && (high.getLsbD i != ((s.monitor.image.map Image.high).getD 0).getLsbD i))))
        ∧ (¬ sound → s.monitor.chainFault = true →
          exec (.scanComplete first rest) s = .next (transmit { s with monitor := { s.monitor with
            scanning := none, scanFault := true } }))
        ∧ (¬ sound → s.monitor.chainFault = false →
          ∃ t, exec (.scanComplete first rest) s = .next t ∧ t.line.faults.has .sensorChain = true
            ∧ t.monitor = { s.monitor with scanning := none, scanFault := true, chainFault := true }))
    ∧ (let out := s.monitor.outputs
      (s.monitor.scanning = none → ∀ us, out us = ⟨false, false, false⟩)
      ∧ ∀ n, s.monitor.scanning = some n →
        (∀ us, (out us).tsload = decide (us < 2)
          ∧ (out us).tsclk = decide (2 ≤ us ∧ us < 2 * n + 18 ∧ us % 2 = 0)
          ∧ (2 * n + 18 ≤ us → out us = ⟨false, false, false⟩))
        ∧ ∀ k < n + 8, (out (2 * k + 2)).tsdout = (decide (k < 8) && (0xA5 : Byte).getLsbD (7 - k))
          ∧ (k + 1 < n + 8 → (out (2 * k + 3)).tsdout = (out (2 * k + 4)).tsdout))
    ∧ (let t := monitorOpen s
      let occasion := s.monitor.formedStitch ≠ none ∧ s.monitor.scanFault = false
        ∧ (s.line.effective = .running ∨ s.line.effective = .stopping)
      let suppressed := (s.monitor.formedStitch.map FormedStitch.source) = some .replay ∧ 0 < s.monitor.suppress
      (t.monitor.formedStitch = none ∧ t.monitor.scanFault = false ∧ t.monitor.seen = 0
        ∧ t.monitor.pendingStitch = s.monitor.pendingStitch ∧ t.monitor.needles.length = s.monitor.needles.length)
      ∧ (occasion → suppressed → t.monitor.needles = s.monitor.needles ∧ t.monitor.suppress + 1 = s.monitor.suppress)
      ∧ (¬ occasion → t.monitor.needles = s.monitor.needles ∧ t.monitor.suppress = s.monitor.suppress)
      ∧ ∀ f : FormedStitch, occasion → ¬ suppressed → s.monitor.formedStitch = some f →
        let declared : Nat → Bool := fun i => s.bars.engaged.mem (needleBar i) && !s.monitor.seen.getLsbD i
          && (match s.monitor.needles[i]? with
            | some (.armed miss) => decide (s.params.breakLimit ≤ miss + 1)
            | _ => false)
        (∀ lowest < s.monitor.needles.length, declared lowest = true → (∀ j < lowest, declared j = false) →
          t.notified (.needleBroken ((List.range s.monitor.needles.length).filter declared).length lowest f.ref
            t.monitor.brokenCount))
        ∧ ∀ (i : Nat) (st : NeedleState), s.monitor.needles[i]? = some st →
          (s.bars.engaged.mem (needleBar i) = false → t.monitor.needles[i]? = some st)
          ∧ (s.bars.engaged.mem (needleBar i) = true →
            (∀ left, st = .grace left →
              t.monitor.needles[i]? = some (if left ≤ 1 then .armed 0 else .grace (left - 1)))
            ∧ (∀ miss, st = .armed miss → s.monitor.seen.getLsbD i = true → t.monitor.needles[i]? = some (.armed 0))
            ∧ (∀ miss, st = .armed miss → s.monitor.seen.getLsbD i = false → miss + 1 < s.params.breakLimit →
              t.monitor.needles[i]? = some (.armed (miss + 1)))
            ∧ (∀ miss, st = .armed miss → s.monitor.seen.getLsbD i = false → s.params.breakLimit ≤ miss + 1 →
              t.monitor.needles[i]? = some (.broken (miss + 1) f.ref) ∧ t.line.faults.has .thread = true)
            ∧ (st = .unused ∨ st = .idle ∨ (∃ m r, st = .broken m r) → t.monitor.needles[i]? = some st)))

/-! ## The line -/

/-- R147, R148 and R94: an accepted RUN, by request or by START (which needs no empty reply slot), begins the resume
sequence, a jog still in progress in THREADING ending first (R155): the line parks first when the shaft is not parked;
from a parked shaft it takes the first step that has something to do: a frozen burst (step 2), the back move of overlap
recovery over b stitches, or the one frozen already (step 3; R162, R163), the replay (step 4; R164, R99, R139), the
restore of the head stitch's bars (step 5), and then FEEDING for a FEED, END or BAR_CHANGE head, whose own change still in
hand is begun again (R127), or RUNNING for a stitch head (step 6). A step whose bars are not held first restores them in
FEEDING (R128). The back move's end hands over the replay (R163, R164). R154: a RUN in STOPPING for HOLD cancels the hold
and goes back to its origin. A RUN is refused by the first failing check; a refused START leaves no trace.
The model's readings of what the rules leave open here: a frozen replay stitch goes on with a new replay begin, the grace
suppression and the ceilings of the whole list anew (log 18); a cancelled hold of origin FEEDING takes up the step it
interrupted and leaves a change in hand and a park under way to go on (log 20); a cancelled hold of origin RUNNING goes on stitching before a
pending overlap recovery, and without a park for a head stitch whose bars are not the engaged set after a replay (log 14);
a stop AT_STITCH is reached as the back move it awaited completes with the shaft stopped (log 15); a restore replaces a FORCE or RECORD change still in hand
(log 42); a refusal's detail bytes with nothing named in them are 0 (log 22). -/
def Obligations.RunBeginsResumeSequence : Prop :=
  (∀ (c : Instr) (tag : Byte) (s : State),
    (c = .modeRun tag ∧ s.takesRequests) ∨ (c = .startInput ∧ s.resetAsserted = false) →
    let l := s.line.effective
    let refused : Why → Prop := fun why =>
      exec c s = .next (transmit (if c = .startInput then s else s.answered 0x0E tag (Reply.because .notNow why)))
    let askable := l = .idle ∨ l = .threading ∨ l = .holding ∨ s.stoppingForHold = true
    let held : BarSet → Prop := fun set => ∀ b, (s.bars.get b).heldAt (set.mem b) = true
    let runs : State → Purpose → List Nat → Prop := fun t p ceilings =>
      t.line.effective = .running ∧ t.line.permission = true ∧ t.gov.state = .ramping ∧ t.gov.purpose = some p
      ∧ t.gov.released = true ∧ t.gov.applied = t.gov.demand ∧ t.gov.replayCeilings = ceilings ∧ t.planner = s.planner
      ∧ t.motion.burst = s.motion.burst
    let restores : State → ResumeStep → BarSet → Prop := fun t step set =>
      t.line.effective = .feeding ∧ t.line.permission = false ∧ t.line.resumeStep = step
      ∧ t.bars.change = some ⟨.restore, set, false⟩ ∧ t.gov.state = .halted ∧ t.planner = s.planner
      ∧ t.motion.burst = s.motion.burst
    let ceilings := s.line.replay.map fun st => st.ceiling
    let h := s.line.history
    let run := (h.reverse.takeWhile fun u => decide (h.getLast?.map (fun v => v.bars) = some u.bars)).length
    let r := s.line.replay.length
    let b := max r (min s.params.overlap run)
    let back : (Stitch → Int) → Int := fun step =>
      -(((h.drop (h.length - b)).map step).sum - ((h.drop (h.length - r)).map step).sum)
    (l = .idle ∨ l = .threading ∨ l = .holding → s.line.faults.latched = [] → s.motion.xKnown = true →
      s.orderActive = true → s.gov.state = .halted ∨ (l = .threading ∧ s.gov.purpose = some .jog) → GovShape s.gov →
      (s.shaft.parked = false →
        ∃ t, exec c s = .next t ∧ t.line.requested = .run ∧ t.line.effective = .stopping
          ∧ t.line.stopPurpose = some .feed ∧ t.line.stopKind = some .park ∧ t.line.resumeStep = .park
          ∧ t.gov.state = .parking ∧ t.gov.attempts = 1 ∧ t.gov.armed = true ∧ t.gov.released = true
          ∧ t.gov.applied = min s.params.creep (limitOf s) ∧ t.motion = s.motion ∧ t.planner = s.planner
          ∧ (c = .modeRun tag → t.link.replySlot = some ⟨0x8E, tag, [0]⟩))
      ∧ (s.shaft.parked = true → ∃ t, exec c s = .next t ∧ t.line.requested = .run
        ∧ (∀ u : Burst, s.motion.burst = some u →
          (held u.stitch.bars → t.line.resumeStep = .frozen
            ∧ (u.source = .head → runs t .stitching [] ∧ t.monitor = s.monitor)
            ∧ (u.source = .replay → runs t .replay ceilings
              ∧ t.monitor = { s.monitor with suppress := s.params.grace }))
          ∧ (¬ held u.stitch.bars → 1 ≤ s.params.deadTime → restores t .frozen u.stitch.bars))
        ∧ (s.motion.burst = none → s.line.overlapPending = true → ∀ f : Feed, s.motion.feed = some f →
          f.source = .backMove →
          t.line.effective = .feeding ∧ t.line.resumeStep = .backMove ∧ t.line.overlapPending = true
          ∧ t.motion = { s.motion with feed := some { f with reentered := true } } ∧ t.line.replay = s.line.replay
          ∧ t.planner = s.planner ∧ t.bars = s.bars)
        ∧ (s.motion.burst = none → s.line.overlapPending = true →
          (∀ f : Feed, s.motion.feed = some f → f.source ≠ .backMove) →
          (1 ≤ b → t.line.effective = .feeding ∧ t.line.resumeStep = .backMove ∧ t.line.recoveryCount = b
            ∧ t.motion.backMove = some (back fun u => u.stepX, back fun u => u.stepY)
            ∧ t.line.overlapPending = true ∧ t.line.replay = s.line.replay ∧ t.bars = s.bars)
          ∧ (b = 0 → t.line.overlapPending = false ∧ t.line.replay = [] ∧ t.motion.backMove = none))
        ∧ (s.motion.burst = none → s.line.overlapPending = false → ∀ st more, s.line.replay = st :: more →
          (held st.bars → runs t .replay ceilings ∧ t.line.resumeStep = .replay
            ∧ t.monitor = { s.monitor with suppress := s.params.grace })
          ∧ (¬ held st.bars → 1 ≤ s.params.deadTime → restores t .replay st.bars))
        ∧ (s.motion.burst = none → s.line.overlapPending = false → s.line.replay = [] →
          (s.planner.headStitch = none →
            (∀ (set : BarSet) (ref : Ref), s.planner.head = some (.barChange set ref) → s.recordChangeInHand = false) →
            t.line.effective = .feeding ∧ t.line.resumeStep = .none ∧ t.line.permission = false
            ∧ t.line.parkedCount = 0 ∧ t.gov = { (jogEnd s).gov with attempts := 1 } ∧ t.planner = s.planner
            ∧ t.bars = s.bars)
          ∧ (∀ (set : BarSet) (ref : Ref), s.planner.head = some (.barChange set ref) → s.recordChangeInHand = true →
            (¬ held set → 1 ≤ s.params.deadTime →
              t.line.effective = .feeding ∧ t.line.resumeStep = .none ∧ t.planner = s.planner
              ∧ t.bars.change = some ⟨.record, set, false⟩)
            ∧ (held set → t.planner = (removeHead s).planner ∧ t.bars.change.map (fun u => u.kind) ≠ some .record))
          ∧ ∀ (st : Stitch) (last : Bool), s.planner.headStitch = some (st, last) →
            (held st.bars → runs t .stitching [] ∧ t.line.resumeStep = .none)
            ∧ (¬ held st.bars → 1 ≤ s.params.deadTime → restores t .restore st.bars))))
    ∧ (s.stoppingForHold = true → s.line.faults.latched = [] → s.motion.xKnown = true → s.orderActive = true →
      ∃ t, exec c s = .next t ∧ t.line.requested = .run
        ∧ (s.line.holdOrigin = some .running → s.motion.burst ≠ none ∨ s.line.replay ≠ [] ∨ s.planner.headIsStop = false →
          t.line.effective = .running ∧ t.line.permission = true ∧ t.line.stopPurpose = none ∧ t.line.holdOrigin = none
          ∧ (s.gov.state = .parking ∨ s.gov.state = .halted → t.gov.state = .ramping ∧ t.gov.released = true
            ∧ t.gov.purpose = some (if s.line.replay = [] then .stitching else .replay))
          ∧ (s.gov.state = .ramping ∨ s.gov.state = .locked → t.gov = s.gov))
        ∧ (s.line.holdOrigin = some .feeding →
          (s.bars.change ≠ none → t.line.effective = .feeding ∧ t.line.resumeStep = s.line.resumeStep ∧ t.bars = s.bars)
          ∧ (s.bars.change = none → s.line.resumeStep = .none → s.planner.headStitch = none →
            t.line.effective = .feeding ∧ t.line.resumeStep = .none ∧ t.planner = s.planner)
          ∧ (s.bars.change ≠ none ∨ (s.line.resumeStep = .none ∧ s.planner.headStitch = none ∧ s.recordChangeInHand = false) →
            t.gov = s.gov))
        ∧ ∀ p, (s.line.holdOrigin = some .stopFeed ∧ p = .feed)
            ∨ (s.line.holdOrigin = some .stopEnd ∧ p = .endOfPanel) →
          s.gov.state ≠ .halted ∨ s.shaft.parked = false →
          t.line.effective = .stopping ∧ t.line.stopPurpose = some p ∧ t.line.stopKind = some .park
          ∧ (s.gov.state ≠ .halted → t.gov = s.gov)
          ∧ (s.gov.state = .halted → t.gov.state = .parking ∧ t.gov.attempts = 1 ∧ t.gov.armed = true))
    ∧ (¬ askable → refused .mode)
    ∧ (askable → s.line.faults.latched ≠ [] → refused .faults)
    ∧ (askable → s.line.faults.latched = [] → s.motion.xKnown = false → refused .xUnknown)
    ∧ (askable → s.line.faults.latched = [] → s.motion.xKnown = true → s.orderActive = false → refused .noOrder))
  ∧ ∀ (s : State) (f : Feed) (axis : Axis), s.resetAsserted = false → s.shaft.stopped = true → s.motion.burst = none →
    s.motion.feed = some f → f.state = .moving → f.source = .backMove →
    (axis = .y ∧ f.x.left = 0 ∧ f.y.left = 1 ∧ f.y.waiting = false ∧ s.audit.state ≠ .counting)
      ∨ (axis = .x ∧ f.y.left = 0 ∧ f.x.left = 1 ∧ f.x.waiting = false) →
    let replay := s.line.history.drop (s.line.history.length - s.line.recoveryCount)
    ∃ t, exec (.stepPulseDue axis) s = .next t ∧ t.motion.feed = none
      ∧ (s.stoppingForFault = false → t.line.overlapPending = false)
      ∧ (s.stoppingForFault = true → s.line.stopKind = some .atStitch → t.line.effective = .faulted
        ∧ t.line.replay = replay ∧ t.line.overlapPending = s.line.faults.threadStop)
      ∧ (s.stoppingForHold = true → s.line.stopKind = some .atStitch → t.line.effective = .holding
        ∧ t.line.replay = replay)
      ∧ ∀ st more, replay = st :: more → s.line.effective = .feeding → t.line.replay = replay
        ∧ ((∀ b, (s.bars.get b).heldAt (st.bars.mem b) = true) → s.gov.state = .halted → s.line.faults.atOnce = false →
          t.line.effective = .running ∧ t.line.resumeStep = .replay ∧ t.gov.purpose = some .replay
          ∧ t.gov.replayCeilings = replay.map (fun u => u.ceiling) ∧ t.monitor.suppress = s.params.grace)
        ∧ (¬ (∀ b, (s.bars.get b).heldAt (st.bars.mem b) = true) → 1 ≤ s.params.deadTime →
          t.line.effective = .feeding ∧ t.line.resumeStep = .replay
          ∧ t.bars.change = some ⟨.restore, st.bars, false⟩)

/-- R152 and R153: a hold, by MODE HOLD or by the HOLD input (which needs no empty reply slot), from RUNNING, FEEDING and STOPPING for FEED or END: AT_ONCE
freezes the moves and holds the drive; AT_STITCH waits for the burst or the move in hand and else parks, or is reached at
once with the shaft flagged stopped, even with the drive released (log 15); AT_SEGMENT keeps the permission while
stitching and is carried out as AT_STITCH without it (its reported kind: log 14). In STOPPING for HOLD a stronger kind
replaces the kind and a weaker one changes nothing, as does a hold in HOLDING; where it is refused a HOLD input leaves no
trace. Which earlier revolutions count toward the arming of the park it orders is read from R95 (log 13).
That a refusal's detail bytes with nothing named in them are 0 is the model's choice (log 22). -/
def Obligations.HoldStopsTheLine : Prop :=
  (∀ (c : Instr) (tag code : Byte) (k : HoldKind) (s : State),
    (c = .modeHold tag code ∧ s.takesRequests ∧ holdKindOfByte code = some k)
      ∨ (c = .holdInput ∧ s.resetAsserted = false ∧ s.params.holdInputKind = some k) →
    let l := s.line
    let silent : Reply → Prop := fun r =>
      exec c s = .next (transmit (if c = .holdInput then s else s.answered 0x0E tag r))
    let waits := s.motion.emitting = true ∨ s.motion.feedRunning = true
    let rank : HoldKind → Nat := fun x => match x with
      | .atOnce => 2
      | .atStitch => 1
      | .atSegment => 0
    let stops : State → HoldOrigin → Prop := fun t origin =>
      t.line.effective = .stopping ∧ t.line.stopPurpose = some .hold ∧ t.line.stopKind = some k.stopKind
      ∧ t.line.holdOrigin = some origin
    let holds : State → Prop := fun t => t.line.effective = .holding ∧ t.line.stopPurpose = none ∧ t.line.holdOrigin = none
    let carried : State → HoldOrigin → Prop := fun t origin =>
      t.planner = s.planner ∧ t.schedule = s.schedule ∧ t.line.history = l.history
      ∧ (c = .modeHold tag code → t.link.replySlot = some ⟨0x8E, tag, [0]⟩)
      ∧ (k = .atOnce → t.gov.idle ∧ t.motion.emitting = false ∧ t.line.permission = false
        ∧ t.motion.burst = s.motion.burst.map Burst.freeze ∧ t.motion.feed = s.motion.feed.map Feed.freeze
        ∧ (s.shaft.stopped = true → holds t) ∧ (s.shaft.stopped = false → stops t origin))
      ∧ (k = .atStitch ∨ (k = .atSegment ∧ l.permission = false) → t.motion = s.motion ∧ t.line.permission = false
        ∧ (waits → t.gov = s.gov ∧ stops t origin)
        ∧ (¬ waits → s.shaft.stopped = true → t.gov = s.gov ∧ holds t)
        ∧ (¬ waits → s.shaft.stopped = false → s.gov.state = .parking → t.gov = s.gov ∧ stops t origin)
        ∧ (¬ waits → s.shaft.stopped = false → s.gov.state = .ramping ∨ s.gov.state = .locked →
          s.line.faults.atOnce = false →
          t.gov.state = .parking ∧ t.gov.purpose = some .park ∧ t.gov.attempts = 1 ∧ t.gov.armed = false
          ∧ t.gov.demand = min s.params.creep (limitOf s) ∧ t.gov.applied = s.gov.applied
          ∧ t.gov.armCount = (if t.gov.applied = t.gov.demand then s.gov.settled else 0) ∧ stops t origin))
    (∀ origin, (l.effective = .running ∧ origin = .running) ∨ (l.effective = .feeding ∧ origin = .feeding)
        ∨ (l.effective = .stopping ∧ l.stopPurpose = some .feed ∧ origin = .stopFeed)
        ∨ (l.effective = .stopping ∧ l.stopPurpose = some .endOfPanel ∧ origin = .stopEnd) →
      ∃ t, exec c s = .next t ∧ t.line.requested = .hold ∧ carried t origin
        ∧ (k = .atSegment → l.permission = true → t.line.permission = true ∧ stops t origin ∧ t.gov = s.gov
          ∧ t.motion = s.motion))
    ∧ (∀ k' origin, s.stoppingForHold = true → l.stopKind = some (HoldKind.stopKind k') → l.holdOrigin = some origin →
      (rank k ≤ rank k' → silent (Reply.good []))
      ∧ (rank k' < rank k → ∃ t, exec c s = .next t ∧ t.line.requested = l.requested ∧ carried t origin))
    ∧ (l.effective = .holding → silent (Reply.good []))
    ∧ (l.effective = .faulted ∨ s.stoppingForFault = true → silent (Reply.because .notNow .faults))
    ∧ (l.effective = .idle ∨ l.effective = .threading → silent (Reply.because .notNow .mode)))
  ∧ (∀ (tag code : Byte) (s : State), s.takesRequests → 2 < code.toNat →
    exec (.modeHold tag code) s = .next (transmit (s.answered 0x0E tag (Reply.field 1))))
  ∧ ∀ s : State, s.params.holdInputKind = none → exec .holdInput s = .next (transmit s)

/-- R155 and R91: MODE IDLE and MODE THREAD from the standing modes change the modes alone, leaving THREADING ends a jog, and
the other modes refuse them. A press of JOG in THREADING turns a HALTED drive at creep; its release holds it.
That a refusal's detail bytes with nothing named in them are 0 is the model's choice (log 22). -/
def Obligations.RestModesAndJog : Prop :=
  ∀ (tag : Byte) (s : State),
    (s.takesRequests → ∀ (c : Instr) (m : Mode) (r : ReqMode),
      (c = .modeIdle tag ∧ m = .idle ∧ r = .idle) ∨ (c = .modeThread tag ∧ m = .threading ∧ r = .thread) →
      (s.line.effective = m → exec c s = .next (transmit (s.answered 0x0E tag (Reply.good []))))
      ∧ (s.line.effective = .idle ∨ s.line.effective = .threading ∨ s.line.effective = .holding →
        s.line.effective ≠ m →
        ∃ t, exec c s = .next t ∧ t.line.requested = r ∧ t.line.effective = m ∧ t.line.stopPurpose = none
          ∧ t.line.faults = s.line.faults ∧ t.line.history = s.line.history
          ∧ t.line.overlapPending = s.line.overlapPending ∧ t.line.replay = s.line.replay
          ∧ t.planner = s.planner ∧ t.schedule = s.schedule ∧ t.motion = s.motion ∧ t.bars = s.bars
          ∧ t.gov = (if s.line.effective = .threading then jogEnd s else s).gov
          ∧ t.link.replySlot = some ⟨0x8E, tag, [0]⟩)
      ∧ (s.line.effective = .faulted →
        exec c s = .next (transmit (s.answered 0x0E tag (Reply.because .notNow .faults))))
      ∧ (s.line.effective = .running ∨ s.line.effective = .stopping ∨ s.line.effective = .feeding →
        exec c s = .next (transmit (s.answered 0x0E tag (Reply.because .notNow .mode)))))
    ∧ (s.resetAsserted = false →
      let pressed := { s.pins with jog := true }
      let released := { s.pins with jog := false }
      (s.line.effective = .threading → s.gov.state = .halted → s.line.faults.atOnce = false →
        let speed := min s.params.creep (limitOf s)
        exec .jogPressed s = .next (transmit { s with pins := pressed, gov := { s.gov with
          state := .ramping, purpose := some .jog, released := true, demand := speed, applied := speed
          inTol := 0, outTol := 0, settled := 0, armCount := 0 } }))
      ∧ (s.line.effective ≠ .threading ∨ s.gov.state ≠ .halted →
        exec .jogPressed s = .next (transmit { s with pins := pressed }))
      ∧ (s.gov.purpose = some .jog →
        exec .jogReleased s = .next (transmit { s with pins := released, gov := { s.gov with
          state := .halted, purpose := none, released := false, demand := 0, applied := 0
          armed := false, braked := false, replayCeilings := [] } }))
      ∧ (s.gov.purpose ≠ some .jog → exec .jogReleased s = .next (transmit { s with pins := released })))

/-- R165, R33, R40: an accepted ABORT_PANEL discards the plan, the frozen moves, the history and the recovery, sets panel Y
to 0 and ends the order with PANEL_DONE of outcome ABORTED; the modes, the Fault Record, X and the bars' states stand.
That a refusal's detail bytes with nothing named in them are 0 is the model's choice (log 22), and so is that the residue
of X is left as it stands (log 28). That PANEL_DONE waits behind the request's own reply is the model's reading of R179
(log 4).
R165 step 1, R127: a record or restore change in hand ends, and no bar's timer runs on; each bar keeps its state and its
valves. That a bar in its dead time so keeps its valves off is the model's choice (log 25). A forced move, and with no
change in hand every timer, stand as they are. -/
def Obligations.AbortPanelEndsOrder : Prop :=
  ∀ (tag : Byte) (s : State), s.takesRequests →
    let stands := s.line.effective = .idle ∨ s.line.effective = .threading ∨ s.line.effective = .holding
      ∨ s.line.effective = .faulted
    (∀ (o : Order) (rest : List Order), stands → s.schedule.orders = o :: rest → o.state = .active →
      (∀ x ∈ rest, x.state = .queued) →
      ∃ t : State, exec (.abortPanel tag) s = .next (transmit (t.answered 0x0F tag (Reply.good [])))
        ∧ t.schedule.orders = (match rest with
          | [] => []
          | n :: more => n.taken :: more)
        ∧ Notice.panelDone o.spec.orderId o.spec.slot .aborted o.stitchesExecuted ∈ t.link.notices
        ∧ (∀ r ∈ t.planner.queue, rest.head?.map (fun n => n.spec.orderId) = some r.ref.orderId)
        ∧ t.planner.cursor.map (fun c => c.order) = rest.head?.map (fun n => n.spec)
        ∧ t.motion = { s.motion with burst := none, feed := none, asideFeed := none, backMove := none, panelY := 0, ey := 0 }
        ∧ t.line = { s.line with history := [], replay := [], overlapPending := false }
        ∧ (∀ u : Change, s.bars.change = some u → u.kind = .record ∨ u.kind = .restore →
          t.bars.change = none ∧ ∀ b, t.bars.get b = { s.bars.get b with timer := .idle })
        ∧ (s.bars.change = none ∨ (∃ b, s.bars.change.map (fun u => u.kind) = some (.force b)) → t.bars = s.bars))
    ∧ (¬ stands → exec (.abortPanel tag) s = .next (transmit (s.answered 0x0F tag (Reply.because .notNow .none))))
    ∧ (stands → s.orderActive = false →
      exec (.abortPanel tag) s = .next (transmit (s.answered 0x0F tag (Reply.because .notFound .none))))

/-- R160 and R142: CLEAR_FAULTS removes every source whose condition is gone and resets every BROKEN needle; with none left
a FAULTED line becomes HOLDING while an order is ACTIVE and IDLE otherwise. It is refused while STOPPING for FAULT. That
MODE_CHANGED waits behind the request's own reply is the model's reading of R179 (log 4).
That a refusal's detail bytes with nothing named in them are 0 is the model's choice (log 22). -/
def Obligations.ClearFaultsRule : Prop :=
  ∀ (tag : Byte) (s : State), s.takesRequests →
    (s.stoppingForFault = true →
      exec (.clearFaults tag) s = .next (transmit (s.answered 0x12 tag (Reply.because .notNow .none))))
    ∧ (s.stoppingForFault = false →
      ∃ t : State, exec (.clearFaults tag) s = .next (transmit (t.answered 0x12 tag (Reply.good (u16 t.line.faults.code))))
        ∧ (∀ e, e ∈ t.line.faults.latched ↔ e ∈ s.line.faults.latched
            ∧ ((e.1 = .estop ∧ s.pins.estop = true) ∨ (e.1 = .drive ∧ s.pins.drvflt = true)
              ∨ (e.1 = .sensorChain ∧ s.monitor.chainFault = true)))
        ∧ (t.line.faults.latched ≠ [] → t.line = { s.line with faults := t.line.faults }
          ∧ t.line.faults.firstSource = s.line.faults.firstSource
          ∧ t.line.faults.firstRef = s.line.faults.firstRef ∧ t.gov = s.gov)
        ∧ (t.line.faults.latched = [] → t.line.faults.firstSource = none ∧ t.line.faults.firstRef = none
          ∧ (s.line.effective ≠ .faulted → t.line = { s.line with faults := t.line.faults })
          ∧ (s.line.effective = .faulted → s.orderActive = true →
              t.line.effective = .holding ∧ t.line.requested = .hold
              ∧ Notice.modeChanged .holding none none .hold .cleared ∈ t.link.notices)
          ∧ (s.line.effective = .faulted → s.orderActive = false →
              t.line.effective = .idle ∧ t.line.requested = .idle
              ∧ Notice.modeChanged .idle none none .idle .cleared ∈ t.link.notices))
        ∧ t.line.history = s.line.history ∧ t.line.overlapPending = s.line.overlapPending
        ∧ t.planner = s.planner ∧ t.motion = s.motion ∧ t.bars = s.bars
        ∧ ∀ i : Nat, t.monitor.needles[i]? = (s.monitor.needles[i]?).map fun st =>
            match st with
            | .broken _ _ => if s.bars.engaged.mem (needleBar i) then .grace s.params.grace else .idle
            | .unused => .unused
            | .idle => .idle
            | .grace left => .grace left
            | .armed miss => .armed miss)

/-- R157 to R159, R130, R111, R116: a source is latched once, with its action, the first source and the FAULT notice; a
REPORT source changes no mode and a stopped line becomes FAULTED. From RUNNING, FEEDING and STOPPING for FEED, END or HOLD the
line becomes STOPPING for FAULT, of the stronger of the action and an AT_ONCE or AT_STITCH hold's kind, with the permission
withdrawn: AT_ONCE until the shaft stops; AT_STITCH, as which stop in place is carried out, waits for a burst emitting or a
feed running, else gives a park order, or with the shaft flagged stopped the line is FAULTED at once, the drive released
or not (log 15). FAULTED sets overlap_pending where THREAD is latched with a stopping action. A fault stop goes on unchanged but
where AT_ONCE escalates it. Which earlier revolutions count toward the arming of that park is not stated. An AT_ONCE latching holds the drive and freezes the
burst and a MOVING feed; a CUTTING one freezes when its cut ends. ESTOP and DRVFLT latch their sources; ESTOP also turns
every valve and CUT off, freezes a CUTTING feed at the start of its cut and ends a homing. Their release changes only the
pin. That an AT_ONCE latching freezes and holds the drive in every mode is read from R98 and R111 (log 34). -/
def Obligations.FaultsLatchAndStop : Prop :=
  let frozen : Motion → Motion → Prop := fun m m' =>
    m'.emitting = false
    ∧ (∀ b : Burst, m.burst = some b → b.frozen = false → m'.burst = some { b with
        frozen := true
        x := { b.x with interval := 0, waiting := false }, y := { b.y with interval := 0, waiting := false } })
    ∧ (∀ f : Feed, m.feed = some f → f.state = .moving → m'.feed = some { f with
        state := .frozen
        x := { f.x with interval := 0, waiting := false }, y := { f.y with interval := 0, waiting := false } })
  (∀ (src : FaultSource) (ref : Option Ref) (s : State),
    let t := latch src ref s
    let act := actionOf s.params src
    let carried := if src = .thread then (if s.orderActive then ref else none) else s.stitchInHand
    (s.line.faults.has src = true → t = s)
    ∧ (s.line.faults.has src = false →
      t.line.faults.latched = s.line.faults.latched ++ [(src, act)]
      ∧ (s.line.faults.latched = [] → t.line.faults.firstSource = some src ∧ t.line.faults.firstRef = carried)
      ∧ (s.line.faults.latched ≠ [] → t.line.faults.firstSource = s.line.faults.firstSource
          ∧ t.line.faults.firstRef = s.line.faults.firstRef)
      ∧ t.notified (.fault src act carried t.line.faults.code)
      ∧ (act = .report → t.line = { s.line with faults := t.line.faults } ∧ t.gov = s.gov ∧ t.motion = s.motion)
      ∧ (act = .atOnce → t.gov.idle ∧ frozen s.motion t.motion
        ∧ ∀ f : Feed, s.motion.feed = some f → f.state = .cutting →
          t.motion.feed = some { f with freezeAfterCut := true })
      ∧ (act ≠ .report → s.line.effective = .idle ∨ s.line.effective = .threading ∨ s.line.effective = .holding →
          t.line.effective = .faulted)
      ∧ (act ≠ .report → t.line.effective = .faulted ∨ t.line.effective = .stopping)
      ∧ (s.line.effective = .faulted ∨ (s.stoppingForFault = true ∧ (act ≠ .atOnce ∨ s.line.stopKind = some .atOnce)) →
        t.line = { s.line with faults := t.line.faults } ∧ (act ≠ .atOnce → t.gov = s.gov ∧ t.motion = s.motion))
      ∧ (act ≠ .report → s.line.effective = .running ∨ s.line.effective = .feeding ∨ s.line.effective = .stopping →
        let ended := t.line.effective = .faulted ∧ t.line.stopPurpose = none ∧ t.line.stopKind = none
          ∧ t.line.overlapPending = (s.line.overlapPending || t.line.faults.threadStop)
        let stops : StopKind → Prop := fun kind => t.line.effective = .stopping ∧ t.line.stopPurpose = some .fault
          ∧ t.line.stopKind = some kind ∧ t.line.overlapPending = s.line.overlapPending
        let waits := s.motion.emitting = true ∨ s.motion.feedRunning = true
        let atOnce := act = .atOnce ∨ (s.stoppingForHold = true ∧ s.line.stopKind = some .atOnce)
        (atOnce → s.stoppingForFault = false ∨ s.line.stopKind ≠ some .atOnce →
          t.line.permission = false ∧ t.gov.idle ∧ frozen s.motion t.motion
          ∧ (s.shaft.stopped = true → ended) ∧ (s.shaft.stopped = false → stops .atOnce))
        ∧ (¬ atOnce → s.stoppingForFault = false → t.line.permission = false ∧ t.motion = s.motion
          ∧ (waits → t.gov = s.gov ∧ stops .atStitch)
          ∧ (¬ waits → s.shaft.stopped = true → t.gov = s.gov ∧ ended)
          ∧ (¬ waits → s.shaft.stopped = false → stops .atStitch
            ∧ (s.gov.state = .parking → t.gov = s.gov)
            ∧ (s.gov.state = .ramping ∨ s.gov.state = .locked → s.line.faults.atOnce = false →
              t.gov.state = .parking ∧ t.gov.purpose = some .park ∧ t.gov.attempts = 1 ∧ t.gov.armed = false
              ∧ t.gov.demand = min s.params.creep (limitOf s) ∧ t.gov.applied = s.gov.applied)
            ∧ (s.gov.state = .halted → s.line.faults.atOnce = false →
              t.gov.state = .parking ∧ t.gov.purpose = some .park ∧ t.gov.attempts = 1 ∧ t.gov.armed = true
              ∧ t.gov.released = true ∧ t.gov.applied = min s.params.creep (limitOf s)))))))
  ∧ ∀ s : State, s.resetAsserted = false →
    (∃ t, exec .estopAsserted s = .next t ∧ t.pins = { s.pins with estop := true }
      ∧ t.line.faults.has .estop = true ∧ t.bars.change = none
      ∧ (∀ b, t.bars.get b = BarRec.released0 (judgedState (s.pins.bup.mem b) (s.pins.bdn.mem b)))
      ∧ t.motion.cutTimer = none ∧ t.motion.homing = none
      ∧ (∀ f : Feed, s.motion.feed = some f → f.state = .cutting → t.motion.feed = some { f with
          state := .frozen, part := .first, cutDone := false, freezeAfterCut := false })
      ∧ (s.line.faults.has .estop = false → t.gov.idle ∧ frozen s.motion t.motion
        ∧ (s.shaft.stopped = true ∨ s.line.effective = .idle ∨ s.line.effective = .threading
            ∨ s.line.effective = .holding → s.line.effective ≠ .stopping → t.line.effective = .faulted)))
    ∧ (∃ t, exec .drvfltAsserted s = .next t ∧ t.pins = { s.pins with drvflt := true }
      ∧ t.line.faults.has .drive = true ∧ t.bars = s.bars
      ∧ (s.line.faults.has .drive = false → t.gov.idle ∧ frozen s.motion t.motion))
    ∧ exec .drvfltAsserted s = .next (transmit (latch .drive none { s with pins := { s.pins with drvflt := true } }))
    ∧ exec .estopReleased s = .next (transmit { s with pins := { s.pins with estop := false } })
    ∧ exec .drvfltReleased s = .next (transmit { s with pins := { s.pins with drvflt := false } })

/-! ## The Travel Audit -/

/-- R168, R171 to R173, R169: AUDIT_START begins counting from 0; an edge of the feed roller or of the measuring wheel adds
1 while the audit counts with the gate open (R170), as does a Y pulse of a feed move to C_cmd, and the one that reaches
65535 ends the audit; a forward-revolution index adds a revolution, in either order with the Governor's judgement where
that moves the gate (log 11); AUDIT_STOP ends it early. The end computes the travels, the slips and the verdict, and under
auto_audit starts the next audit. That the record of an INCONCLUSIVE audit carries the two tolerances as they stand is the
model's choice (log 45).
That a refusal's detail bytes with nothing named in them are 0 is the model's choice (log 22). -/
def Obligations.AuditCountsAndJudges : Prop :=
  (∀ (cause : EndCause) (s : State),
    let a := s.audit
    let r := s.auditRecord cause
    let tCmd := a.cCmd / s.params.kY
    let tRoll := a.cRoll * 100 / s.params.rollPer100
    let tWheel := a.cWheel * 100 / s.params.wheelPer100
    let drive := Int.tdiv (((tCmd : Int) - tRoll) * 1000) tCmd
    let material := if tRoll = 0 then 0 else Int.tdiv (((tRoll : Int) - tWheel) * 1000) tRoll
    r.number = (if a.resultNumber ≥ 65535 then 1 else a.resultNumber + 1) ∧ r.cause = cause
    ∧ r.cCmd = a.cCmd ∧ r.cRoll = a.cRoll ∧ r.cWheel = a.cWheel ∧ r.revolutions = a.revolutions
    ∧ r.tCmd = tCmd ∧ r.tRoll = tRoll ∧ r.tWheel = tWheel
    ∧ r.driveTol = s.params.driveTol ∧ r.matTol = s.params.matTol
    ∧ (tCmd < 500 → r.verdict = .inconclusive ∧ r.driveSlip = 0 ∧ r.materialSlip = 0)
    ∧ (500 ≤ tCmd → s.params.driveTol ≤ 500 → s.params.matTol ≤ 500 →
      r.driveSlip = max (-32768) drive ∧ r.materialSlip = max (-32768) material
      ∧ (r.verdict = .fail ↔ s.params.driveTol < drive.natAbs ∨ s.params.matTol < material.natAbs)
      ∧ (r.verdict = .pass ↔ drive.natAbs ≤ s.params.driveTol ∧ material.natAbs ≤ s.params.matTol)))
  ∧ ∀ (tag : Byte) (s : State),
    let ended : EndCause → State → Prop := fun cause t =>
      t.audit.last = some (s.auditRecord cause) ∧ t.audit.resultNumber = (s.auditRecord cause).number
      ∧ (s.params.autoAudit = false → t.audit.state = .done)
      ∧ (s.params.autoAudit = true → t.audit.state = .counting ∧ t.audit.cCmd = 0 ∧ t.audit.cRoll = 0
          ∧ t.audit.cWheel = 0 ∧ t.audit.revolutions = 0)
      ∧ ((s.auditRecord cause).verdict = .fail → t.line.faults.has .feedSlip = true)
    (s.takesRequests →
      exec (.auditStart tag) s = .next (transmit (State.answered
        { s with audit := { s.audit with state := .counting, cCmd := 0, cRoll := 0, cWheel := 0, revolutions := 0 } }
        0x16 tag (Reply.good [BitVec.ofNat 8 (match s.audit.state with
          | .idle => 0
          | .counting => 1
          | .done => 2)])))
      ∧ (s.audit.state = .counting → ∃ t : State, exec (.auditStop tag) s = .next (transmit (t.answered 0x17 tag
          (Reply.good (u8 (s.auditRecord .stop).verdict.code ++ u16 (s.auditRecord .stop).number)))) ∧ ended .stop t)
      ∧ (s.audit.state ≠ .counting →
        exec (.auditStop tag) s = .next (transmit (s.answered 0x17 tag (Reply.because .notNow .none)))))
    ∧ ∀ (a b : Bool), s.resetAsserted = false →
      let roller := { s.pins with fra := a, frb := b }
      let wheel := { s.pins with mwa := a, mwb := b }
      let counts := s.audit.state = .counting
        ∧ ((s.line.effective = .running ∧ s.gov.state = .locked) ∨ s.line.effective = .feeding)
      ((a, b) ≠ (s.pins.fra, s.pins.frb) → counts → s.audit.cRoll + 1 < 65535 →
        exec (.feedRollerEdge a b) s = .next (transmit
          { s with pins := roller, audit := { s.audit with cRoll := s.audit.cRoll + 1 } }))
      ∧ ((a, b) ≠ (s.pins.fra, s.pins.frb) → counts → s.audit.cRoll = 65534 →
        ∃ t r, exec (.feedRollerEdge a b) s = .next t ∧ t.audit.last = some r ∧ r.cause = .roll ∧ r.cRoll = 65535
          ∧ r.cCmd = s.audit.cCmd ∧ r.cWheel = s.audit.cWheel)
      ∧ ((a, b) = (s.pins.fra, s.pins.frb) ∨ ¬ counts →
        exec (.feedRollerEdge a b) s = .next (transmit { s with pins := roller }))
      ∧ ((a, b) ≠ (s.pins.mwa, s.pins.mwb) → counts → s.audit.cWheel + 1 < 65535 →
        exec (.measuringWheelEdge a b) s = .next (transmit
          { s with pins := wheel, audit := { s.audit with cWheel := s.audit.cWheel + 1 } }))
      ∧ ((a, b) ≠ (s.pins.mwa, s.pins.mwb) → counts → s.audit.cWheel = 65534 →
        ∃ t r, exec (.measuringWheelEdge a b) s = .next t ∧ t.audit.last = some r ∧ r.cause = .wheel
          ∧ r.cWheel = 65535 ∧ r.cCmd = s.audit.cCmd ∧ r.cRoll = s.audit.cRoll)
      ∧ ((a, b) = (s.pins.mwa, s.pins.mwb) ∨ ¬ counts →
        exec (.measuringWheelEdge a b) s = .next (transmit { s with pins := wheel }))
      ∧ (∀ f : Feed, s.motion.burst = none → s.motion.feed = some f → f.state = .moving → s.shaft.pulsesAllowed = true →
        1 ≤ f.y.left → 2 ≤ f.y.left ∨ 1 ≤ f.x.left → f.y.waiting = false → counts →
        (s.audit.cCmd + 1 < 65535 →
          exec (.stepPulseDue .y) s = .next (transmit { s with
            motion := { s.motion with
              feed := some { f with y := { f.y with left := f.y.left - 1 } }
              panelY := (addPulse s.params.kY f.y.positive s.motion.panelY s.motion.ey).1
              ey := (addPulse s.params.kY f.y.positive s.motion.panelY s.motion.ey).2 }
            audit := { s.audit with cCmd := s.audit.cCmd + 1 } }))
        ∧ (s.audit.cCmd = 65534 →
          ∃ t r, exec (.stepPulseDue .y) s = .next t ∧ t.audit.last = some r ∧ r.cause = .cmd ∧ r.cCmd = 65535
            ∧ r.cRoll = s.audit.cRoll ∧ r.cWheel = s.audit.cWheel))
      ∧ ∀ (now : Nat) (h : Shaft) (measured : Bool), s.shaft.angleValid = true → s.shaft.position = 4096 →
        s.shaft.pendingSet = none → s.anyWaiting = false →
        (measured = true ∧ ∃ start < now, s.shaft.revStart = some start ∧ s.shaft.clean = true
          ∧ h = { s.shaft with
            position := 0, revStart := some now, clean := true
            period := some (now - start), speed := 60000000 / (now - start) })
        ∨ (measured = false ∧ (s.shaft.revStart = none ∨ s.shaft.clean = false)
          ∧ h = { s.shaft with position := 0, revStart := some now, clean := true }) →
        let u := indexGov measured { s with shaft := h }
        let counted := min 65535 (s.audit.revolutions + 1)
        (u.gateOpen = s.gateOpen → counts →
          exec (.indexPulse now) s = .next (transmit { u with audit := { s.audit with revolutions := counted } }))
        ∧ (u.gateOpen = s.gateOpen → ¬ counts → exec (.indexPulse now) s = .next (transmit u))
        ∧ (u.gateOpen ≠ s.gateOpen → ∃ t, exec (.indexPulse now) s = .next t ∧ t.gov = u.gov
          ∧ (t.audit = s.audit ∨ t.audit = { s.audit with revolutions := counted }))
end

