-- ==== Sys2Proof/Laws/State.lean ====
section
/-! SUPPORT. One lemma per field for each named update of the state, true by unfolding, so that no proof opens a record
update: the field written, and every field left alone. -/

namespace Sys2Proof.Machine

/-! ### setShaft -/

@[simp] theorem setShaft_pins (h : Shaft) (s : State) : (setShaft h s).pins = s.pins := rfl
@[simp] theorem setShaft_params (h : Shaft) (s : State) : (setShaft h s).params = s.params := rfl
@[simp] theorem setShaft_store (h : Shaft) (s : State) : (setShaft h s).store = s.store := rfl
@[simp] theorem setShaft_schedule (h : Shaft) (s : State) : (setShaft h s).schedule = s.schedule := rfl
@[simp] theorem setShaft_planner (h : Shaft) (s : State) : (setShaft h s).planner = s.planner := rfl
@[simp] theorem setShaft_gov (h : Shaft) (s : State) : (setShaft h s).gov = s.gov := rfl
@[simp] theorem setShaft_motion (h : Shaft) (s : State) : (setShaft h s).motion = s.motion := rfl
@[simp] theorem setShaft_bars (h : Shaft) (s : State) : (setShaft h s).bars = s.bars := rfl
@[simp] theorem setShaft_monitor (h : Shaft) (s : State) : (setShaft h s).monitor = s.monitor := rfl
@[simp] theorem setShaft_line (h : Shaft) (s : State) : (setShaft h s).line = s.line := rfl
@[simp] theorem setShaft_audit (h : Shaft) (s : State) : (setShaft h s).audit = s.audit := rfl
@[simp] theorem setShaft_link (h : Shaft) (s : State) : (setShaft h s).link = s.link := rfl
@[simp] theorem setShaft_resetAsserted (h : Shaft) (s : State) : (setShaft h s).resetAsserted = s.resetAsserted := rfl
@[simp] theorem setShaft_draws (h : Shaft) (s : State) : (setShaft h s).draws = s.draws := rfl
@[simp] theorem setShaft_pending (h : Shaft) (s : State) : (setShaft h s).pending = s.pending := rfl
@[simp] theorem setShaft_shaft (h : Shaft) (s : State) : (setShaft h s).shaft = h := rfl

/-! ### setPins -/

@[simp] theorem setPins_params (p : Pins) (s : State) : (setPins p s).params = s.params := rfl
@[simp] theorem setPins_store (p : Pins) (s : State) : (setPins p s).store = s.store := rfl
@[simp] theorem setPins_schedule (p : Pins) (s : State) : (setPins p s).schedule = s.schedule := rfl
@[simp] theorem setPins_planner (p : Pins) (s : State) : (setPins p s).planner = s.planner := rfl
@[simp] theorem setPins_shaft (p : Pins) (s : State) : (setPins p s).shaft = s.shaft := rfl
@[simp] theorem setPins_gov (p : Pins) (s : State) : (setPins p s).gov = s.gov := rfl
@[simp] theorem setPins_motion (p : Pins) (s : State) : (setPins p s).motion = s.motion := rfl
@[simp] theorem setPins_bars (p : Pins) (s : State) : (setPins p s).bars = s.bars := rfl
@[simp] theorem setPins_monitor (p : Pins) (s : State) : (setPins p s).monitor = s.monitor := rfl
@[simp] theorem setPins_line (p : Pins) (s : State) : (setPins p s).line = s.line := rfl
@[simp] theorem setPins_audit (p : Pins) (s : State) : (setPins p s).audit = s.audit := rfl
@[simp] theorem setPins_link (p : Pins) (s : State) : (setPins p s).link = s.link := rfl
@[simp] theorem setPins_resetAsserted (p : Pins) (s : State) : (setPins p s).resetAsserted = s.resetAsserted := rfl
@[simp] theorem setPins_draws (p : Pins) (s : State) : (setPins p s).draws = s.draws := rfl
@[simp] theorem setPins_pending (p : Pins) (s : State) : (setPins p s).pending = s.pending := rfl
@[simp] theorem setPins_pins (p : Pins) (s : State) : (setPins p s).pins = p := rfl

/-! ### setStep -/

@[simp] theorem setStep_pins (r : ResumeStep) (s : State) : (setStep r s).pins = s.pins := rfl
@[simp] theorem setStep_params (r : ResumeStep) (s : State) : (setStep r s).params = s.params := rfl
@[simp] theorem setStep_store (r : ResumeStep) (s : State) : (setStep r s).store = s.store := rfl
@[simp] theorem setStep_schedule (r : ResumeStep) (s : State) : (setStep r s).schedule = s.schedule := rfl
@[simp] theorem setStep_planner (r : ResumeStep) (s : State) : (setStep r s).planner = s.planner := rfl
@[simp] theorem setStep_shaft (r : ResumeStep) (s : State) : (setStep r s).shaft = s.shaft := rfl
@[simp] theorem setStep_gov (r : ResumeStep) (s : State) : (setStep r s).gov = s.gov := rfl
@[simp] theorem setStep_motion (r : ResumeStep) (s : State) : (setStep r s).motion = s.motion := rfl
@[simp] theorem setStep_bars (r : ResumeStep) (s : State) : (setStep r s).bars = s.bars := rfl
@[simp] theorem setStep_monitor (r : ResumeStep) (s : State) : (setStep r s).monitor = s.monitor := rfl
@[simp] theorem setStep_audit (r : ResumeStep) (s : State) : (setStep r s).audit = s.audit := rfl
@[simp] theorem setStep_link (r : ResumeStep) (s : State) : (setStep r s).link = s.link := rfl
@[simp] theorem setStep_resetAsserted (r : ResumeStep) (s : State) : (setStep r s).resetAsserted = s.resetAsserted := rfl
@[simp] theorem setStep_draws (r : ResumeStep) (s : State) : (setStep r s).draws = s.draws := rfl
@[simp] theorem setStep_pending (r : ResumeStep) (s : State) : (setStep r s).pending = s.pending := rfl
@[simp] theorem setStep_line_requested (r : ResumeStep) (s : State) : (setStep r s).line.requested = s.line.requested := rfl
@[simp] theorem setStep_line_effective (r : ResumeStep) (s : State) : (setStep r s).line.effective = s.line.effective := rfl
@[simp] theorem setStep_line_stopPurpose (r : ResumeStep) (s : State) : (setStep r s).line.stopPurpose = s.line.stopPurpose := rfl
@[simp] theorem setStep_line_stopKind (r : ResumeStep) (s : State) : (setStep r s).line.stopKind = s.line.stopKind := rfl
@[simp] theorem setStep_line_holdOrigin (r : ResumeStep) (s : State) : (setStep r s).line.holdOrigin = s.line.holdOrigin := rfl
@[simp] theorem setStep_line_resumeStep (r : ResumeStep) (s : State) : (setStep r s).line.resumeStep = r := rfl
@[simp] theorem setStep_line_permission (r : ResumeStep) (s : State) : (setStep r s).line.permission = s.line.permission := rfl
@[simp] theorem setStep_line_faults (r : ResumeStep) (s : State) : (setStep r s).line.faults = s.line.faults := rfl
@[simp] theorem setStep_line_history (r : ResumeStep) (s : State) : (setStep r s).line.history = s.line.history := rfl
@[simp] theorem setStep_line_overlapPending (r : ResumeStep) (s : State) : (setStep r s).line.overlapPending = s.line.overlapPending := rfl
@[simp] theorem setStep_line_replay (r : ResumeStep) (s : State) : (setStep r s).line.replay = s.line.replay := rfl
@[simp] theorem setStep_line_parkedCount (r : ResumeStep) (s : State) : (setStep r s).line.parkedCount = s.line.parkedCount := rfl
@[simp] theorem setStep_line_parkHanded (r : ResumeStep) (s : State) : (setStep r s).line.parkHanded = s.line.parkHanded := rfl
@[simp] theorem setStep_line_recoveryCount (r : ResumeStep) (s : State) : (setStep r s).line.recoveryCount = s.line.recoveryCount := rfl

/-! ### setRequested -/

@[simp] theorem setRequested_pins (r : ReqMode) (s : State) : (setRequested r s).pins = s.pins := rfl
@[simp] theorem setRequested_params (r : ReqMode) (s : State) : (setRequested r s).params = s.params := rfl
@[simp] theorem setRequested_store (r : ReqMode) (s : State) : (setRequested r s).store = s.store := rfl
@[simp] theorem setRequested_schedule (r : ReqMode) (s : State) : (setRequested r s).schedule = s.schedule := rfl
@[simp] theorem setRequested_planner (r : ReqMode) (s : State) : (setRequested r s).planner = s.planner := rfl
@[simp] theorem setRequested_shaft (r : ReqMode) (s : State) : (setRequested r s).shaft = s.shaft := rfl
@[simp] theorem setRequested_gov (r : ReqMode) (s : State) : (setRequested r s).gov = s.gov := rfl
@[simp] theorem setRequested_motion (r : ReqMode) (s : State) : (setRequested r s).motion = s.motion := rfl
@[simp] theorem setRequested_bars (r : ReqMode) (s : State) : (setRequested r s).bars = s.bars := rfl
@[simp] theorem setRequested_monitor (r : ReqMode) (s : State) : (setRequested r s).monitor = s.monitor := rfl
@[simp] theorem setRequested_audit (r : ReqMode) (s : State) : (setRequested r s).audit = s.audit := rfl
@[simp] theorem setRequested_link (r : ReqMode) (s : State) : (setRequested r s).link = s.link := rfl
@[simp] theorem setRequested_resetAsserted (r : ReqMode) (s : State) : (setRequested r s).resetAsserted = s.resetAsserted := rfl
@[simp] theorem setRequested_draws (r : ReqMode) (s : State) : (setRequested r s).draws = s.draws := rfl
@[simp] theorem setRequested_pending (r : ReqMode) (s : State) : (setRequested r s).pending = s.pending := rfl
@[simp] theorem setRequested_line_requested (r : ReqMode) (s : State) : (setRequested r s).line.requested = r := rfl
@[simp] theorem setRequested_line_effective (r : ReqMode) (s : State) : (setRequested r s).line.effective = s.line.effective := rfl
@[simp] theorem setRequested_line_stopPurpose (r : ReqMode) (s : State) : (setRequested r s).line.stopPurpose = s.line.stopPurpose := rfl
@[simp] theorem setRequested_line_stopKind (r : ReqMode) (s : State) : (setRequested r s).line.stopKind = s.line.stopKind := rfl
@[simp] theorem setRequested_line_holdOrigin (r : ReqMode) (s : State) : (setRequested r s).line.holdOrigin = s.line.holdOrigin := rfl
@[simp] theorem setRequested_line_resumeStep (r : ReqMode) (s : State) : (setRequested r s).line.resumeStep = s.line.resumeStep := rfl
@[simp] theorem setRequested_line_permission (r : ReqMode) (s : State) : (setRequested r s).line.permission = s.line.permission := rfl
@[simp] theorem setRequested_line_faults (r : ReqMode) (s : State) : (setRequested r s).line.faults = s.line.faults := rfl
@[simp] theorem setRequested_line_history (r : ReqMode) (s : State) : (setRequested r s).line.history = s.line.history := rfl
@[simp] theorem setRequested_line_overlapPending (r : ReqMode) (s : State) : (setRequested r s).line.overlapPending = s.line.overlapPending := rfl
@[simp] theorem setRequested_line_replay (r : ReqMode) (s : State) : (setRequested r s).line.replay = s.line.replay := rfl
@[simp] theorem setRequested_line_parkedCount (r : ReqMode) (s : State) : (setRequested r s).line.parkedCount = s.line.parkedCount := rfl
@[simp] theorem setRequested_line_parkHanded (r : ReqMode) (s : State) : (setRequested r s).line.parkHanded = s.line.parkHanded := rfl
@[simp] theorem setRequested_line_recoveryCount (r : ReqMode) (s : State) : (setRequested r s).line.recoveryCount = s.line.recoveryCount := rfl

/-! ### withdraw -/

@[simp] theorem withdraw_pins (s : State) : (withdraw s).pins = s.pins := rfl
@[simp] theorem withdraw_params (s : State) : (withdraw s).params = s.params := rfl
@[simp] theorem withdraw_store (s : State) : (withdraw s).store = s.store := rfl
@[simp] theorem withdraw_schedule (s : State) : (withdraw s).schedule = s.schedule := rfl
@[simp] theorem withdraw_planner (s : State) : (withdraw s).planner = s.planner := rfl
@[simp] theorem withdraw_shaft (s : State) : (withdraw s).shaft = s.shaft := rfl
@[simp] theorem withdraw_gov (s : State) : (withdraw s).gov = s.gov := rfl
@[simp] theorem withdraw_motion (s : State) : (withdraw s).motion = s.motion := rfl
@[simp] theorem withdraw_bars (s : State) : (withdraw s).bars = s.bars := rfl
@[simp] theorem withdraw_monitor (s : State) : (withdraw s).monitor = s.monitor := rfl
@[simp] theorem withdraw_audit (s : State) : (withdraw s).audit = s.audit := rfl
@[simp] theorem withdraw_link (s : State) : (withdraw s).link = s.link := rfl
@[simp] theorem withdraw_resetAsserted (s : State) : (withdraw s).resetAsserted = s.resetAsserted := rfl
@[simp] theorem withdraw_draws (s : State) : (withdraw s).draws = s.draws := rfl
@[simp] theorem withdraw_pending (s : State) : (withdraw s).pending = s.pending := rfl
@[simp] theorem withdraw_line_requested (s : State) : (withdraw s).line.requested = s.line.requested := rfl
@[simp] theorem withdraw_line_effective (s : State) : (withdraw s).line.effective = s.line.effective := rfl
@[simp] theorem withdraw_line_stopPurpose (s : State) : (withdraw s).line.stopPurpose = s.line.stopPurpose := rfl
@[simp] theorem withdraw_line_stopKind (s : State) : (withdraw s).line.stopKind = s.line.stopKind := rfl
@[simp] theorem withdraw_line_holdOrigin (s : State) : (withdraw s).line.holdOrigin = s.line.holdOrigin := rfl
@[simp] theorem withdraw_line_resumeStep (s : State) : (withdraw s).line.resumeStep = s.line.resumeStep := rfl
@[simp] theorem withdraw_line_permission (s : State) : (withdraw s).line.permission = false := rfl
@[simp] theorem withdraw_line_faults (s : State) : (withdraw s).line.faults = s.line.faults := rfl
@[simp] theorem withdraw_line_history (s : State) : (withdraw s).line.history = s.line.history := rfl
@[simp] theorem withdraw_line_overlapPending (s : State) : (withdraw s).line.overlapPending = s.line.overlapPending := rfl
@[simp] theorem withdraw_line_replay (s : State) : (withdraw s).line.replay = s.line.replay := rfl
@[simp] theorem withdraw_line_parkedCount (s : State) : (withdraw s).line.parkedCount = s.line.parkedCount := rfl
@[simp] theorem withdraw_line_parkHanded (s : State) : (withdraw s).line.parkHanded = s.line.parkHanded := rfl
@[simp] theorem withdraw_line_recoveryCount (s : State) : (withdraw s).line.recoveryCount = s.line.recoveryCount := rfl

/-! ### setFeed -/

@[simp] theorem setFeed_pins (f : Feed) (s : State) : (setFeed f s).pins = s.pins := rfl
@[simp] theorem setFeed_params (f : Feed) (s : State) : (setFeed f s).params = s.params := rfl
@[simp] theorem setFeed_store (f : Feed) (s : State) : (setFeed f s).store = s.store := rfl
@[simp] theorem setFeed_schedule (f : Feed) (s : State) : (setFeed f s).schedule = s.schedule := rfl
@[simp] theorem setFeed_planner (f : Feed) (s : State) : (setFeed f s).planner = s.planner := rfl
@[simp] theorem setFeed_shaft (f : Feed) (s : State) : (setFeed f s).shaft = s.shaft := rfl
@[simp] theorem setFeed_gov (f : Feed) (s : State) : (setFeed f s).gov = s.gov := rfl
@[simp] theorem setFeed_bars (f : Feed) (s : State) : (setFeed f s).bars = s.bars := rfl
@[simp] theorem setFeed_monitor (f : Feed) (s : State) : (setFeed f s).monitor = s.monitor := rfl
@[simp] theorem setFeed_line (f : Feed) (s : State) : (setFeed f s).line = s.line := rfl
@[simp] theorem setFeed_audit (f : Feed) (s : State) : (setFeed f s).audit = s.audit := rfl
@[simp] theorem setFeed_link (f : Feed) (s : State) : (setFeed f s).link = s.link := rfl
@[simp] theorem setFeed_resetAsserted (f : Feed) (s : State) : (setFeed f s).resetAsserted = s.resetAsserted := rfl
@[simp] theorem setFeed_draws (f : Feed) (s : State) : (setFeed f s).draws = s.draws := rfl
@[simp] theorem setFeed_pending (f : Feed) (s : State) : (setFeed f s).pending = s.pending := rfl
@[simp] theorem setFeed_motion_x (f : Feed) (s : State) : (setFeed f s).motion.x = s.motion.x := rfl
@[simp] theorem setFeed_motion_xKnown (f : Feed) (s : State) : (setFeed f s).motion.xKnown = s.motion.xKnown := rfl
@[simp] theorem setFeed_motion_ex (f : Feed) (s : State) : (setFeed f s).motion.ex = s.motion.ex := rfl
@[simp] theorem setFeed_motion_panelY (f : Feed) (s : State) : (setFeed f s).motion.panelY = s.motion.panelY := rfl
@[simp] theorem setFeed_motion_ey (f : Feed) (s : State) : (setFeed f s).motion.ey = s.motion.ey := rfl
@[simp] theorem setFeed_motion_burst (f : Feed) (s : State) : (setFeed f s).motion.burst = s.motion.burst := rfl
@[simp] theorem setFeed_motion_feed (f : Feed) (s : State) : (setFeed f s).motion.feed = some f := rfl
@[simp] theorem setFeed_motion_backMove (f : Feed) (s : State) : (setFeed f s).motion.backMove = s.motion.backMove := rfl
@[simp] theorem setFeed_motion_asideFeed (f : Feed) (s : State) : (setFeed f s).motion.asideFeed = s.motion.asideFeed := rfl
@[simp] theorem setFeed_motion_homing (f : Feed) (s : State) : (setFeed f s).motion.homing = s.motion.homing := rfl
@[simp] theorem setFeed_motion_cutTimer (f : Feed) (s : State) : (setFeed f s).motion.cutTimer = s.motion.cutTimer := rfl
@[simp] theorem setFeed_motion_xdir (f : Feed) (s : State) : (setFeed f s).motion.xdir = s.motion.xdir := rfl
@[simp] theorem setFeed_motion_ydir (f : Feed) (s : State) : (setFeed f s).motion.ydir = s.motion.ydir := rfl
@[simp] theorem setFeed_motion_axen (f : Feed) (s : State) : (setFeed f s).motion.axen = s.motion.axen := rfl

/-! ### dropFeed -/

@[simp] theorem dropFeed_pins (s : State) : (dropFeed s).pins = s.pins := rfl
@[simp] theorem dropFeed_params (s : State) : (dropFeed s).params = s.params := rfl
@[simp] theorem dropFeed_store (s : State) : (dropFeed s).store = s.store := rfl
@[simp] theorem dropFeed_schedule (s : State) : (dropFeed s).schedule = s.schedule := rfl
@[simp] theorem dropFeed_planner (s : State) : (dropFeed s).planner = s.planner := rfl
@[simp] theorem dropFeed_shaft (s : State) : (dropFeed s).shaft = s.shaft := rfl
@[simp] theorem dropFeed_gov (s : State) : (dropFeed s).gov = s.gov := rfl
@[simp] theorem dropFeed_bars (s : State) : (dropFeed s).bars = s.bars := rfl
@[simp] theorem dropFeed_monitor (s : State) : (dropFeed s).monitor = s.monitor := rfl
@[simp] theorem dropFeed_line (s : State) : (dropFeed s).line = s.line := rfl
@[simp] theorem dropFeed_audit (s : State) : (dropFeed s).audit = s.audit := rfl
@[simp] theorem dropFeed_link (s : State) : (dropFeed s).link = s.link := rfl
@[simp] theorem dropFeed_resetAsserted (s : State) : (dropFeed s).resetAsserted = s.resetAsserted := rfl
@[simp] theorem dropFeed_draws (s : State) : (dropFeed s).draws = s.draws := rfl
@[simp] theorem dropFeed_pending (s : State) : (dropFeed s).pending = s.pending := rfl
@[simp] theorem dropFeed_motion_x (s : State) : (dropFeed s).motion.x = s.motion.x := rfl
@[simp] theorem dropFeed_motion_xKnown (s : State) : (dropFeed s).motion.xKnown = s.motion.xKnown := rfl
@[simp] theorem dropFeed_motion_ex (s : State) : (dropFeed s).motion.ex = s.motion.ex := rfl
@[simp] theorem dropFeed_motion_panelY (s : State) : (dropFeed s).motion.panelY = s.motion.panelY := rfl
@[simp] theorem dropFeed_motion_ey (s : State) : (dropFeed s).motion.ey = s.motion.ey := rfl
@[simp] theorem dropFeed_motion_burst (s : State) : (dropFeed s).motion.burst = s.motion.burst := rfl
@[simp] theorem dropFeed_motion_feed (s : State) : (dropFeed s).motion.feed = none := rfl
@[simp] theorem dropFeed_motion_backMove (s : State) : (dropFeed s).motion.backMove = s.motion.backMove := rfl
@[simp] theorem dropFeed_motion_asideFeed (s : State) : (dropFeed s).motion.asideFeed = s.motion.asideFeed := rfl
@[simp] theorem dropFeed_motion_homing (s : State) : (dropFeed s).motion.homing = s.motion.homing := rfl
@[simp] theorem dropFeed_motion_cutTimer (s : State) : (dropFeed s).motion.cutTimer = s.motion.cutTimer := rfl
@[simp] theorem dropFeed_motion_xdir (s : State) : (dropFeed s).motion.xdir = s.motion.xdir := rfl
@[simp] theorem dropFeed_motion_ydir (s : State) : (dropFeed s).motion.ydir = s.motion.ydir := rfl
@[simp] theorem dropFeed_motion_axen (s : State) : (dropFeed s).motion.axen = s.motion.axen := rfl

/-! ### dropBurst -/

@[simp] theorem dropBurst_pins (s : State) : (dropBurst s).pins = s.pins := rfl
@[simp] theorem dropBurst_params (s : State) : (dropBurst s).params = s.params := rfl
@[simp] theorem dropBurst_store (s : State) : (dropBurst s).store = s.store := rfl
@[simp] theorem dropBurst_schedule (s : State) : (dropBurst s).schedule = s.schedule := rfl
@[simp] theorem dropBurst_planner (s : State) : (dropBurst s).planner = s.planner := rfl
@[simp] theorem dropBurst_shaft (s : State) : (dropBurst s).shaft = s.shaft := rfl
@[simp] theorem dropBurst_gov (s : State) : (dropBurst s).gov = s.gov := rfl
@[simp] theorem dropBurst_bars (s : State) : (dropBurst s).bars = s.bars := rfl
@[simp] theorem dropBurst_monitor (s : State) : (dropBurst s).monitor = s.monitor := rfl
@[simp] theorem dropBurst_line (s : State) : (dropBurst s).line = s.line := rfl
@[simp] theorem dropBurst_audit (s : State) : (dropBurst s).audit = s.audit := rfl
@[simp] theorem dropBurst_link (s : State) : (dropBurst s).link = s.link := rfl
@[simp] theorem dropBurst_resetAsserted (s : State) : (dropBurst s).resetAsserted = s.resetAsserted := rfl
@[simp] theorem dropBurst_draws (s : State) : (dropBurst s).draws = s.draws := rfl
@[simp] theorem dropBurst_pending (s : State) : (dropBurst s).pending = s.pending := rfl
@[simp] theorem dropBurst_motion_x (s : State) : (dropBurst s).motion.x = s.motion.x := rfl
@[simp] theorem dropBurst_motion_xKnown (s : State) : (dropBurst s).motion.xKnown = s.motion.xKnown := rfl
@[simp] theorem dropBurst_motion_ex (s : State) : (dropBurst s).motion.ex = s.motion.ex := rfl
@[simp] theorem dropBurst_motion_panelY (s : State) : (dropBurst s).motion.panelY = s.motion.panelY := rfl
@[simp] theorem dropBurst_motion_ey (s : State) : (dropBurst s).motion.ey = s.motion.ey := rfl
@[simp] theorem dropBurst_motion_burst (s : State) : (dropBurst s).motion.burst = none := rfl
@[simp] theorem dropBurst_motion_feed (s : State) : (dropBurst s).motion.feed = s.motion.feed := rfl
@[simp] theorem dropBurst_motion_backMove (s : State) : (dropBurst s).motion.backMove = s.motion.backMove := rfl
@[simp] theorem dropBurst_motion_asideFeed (s : State) : (dropBurst s).motion.asideFeed = s.motion.asideFeed := rfl
@[simp] theorem dropBurst_motion_homing (s : State) : (dropBurst s).motion.homing = s.motion.homing := rfl
@[simp] theorem dropBurst_motion_cutTimer (s : State) : (dropBurst s).motion.cutTimer = s.motion.cutTimer := rfl
@[simp] theorem dropBurst_motion_xdir (s : State) : (dropBurst s).motion.xdir = s.motion.xdir := rfl
@[simp] theorem dropBurst_motion_ydir (s : State) : (dropBurst s).motion.ydir = s.motion.ydir := rfl
@[simp] theorem dropBurst_motion_axen (s : State) : (dropBurst s).motion.axen = s.motion.axen := rfl

/-! ### zeroPanel -/

@[simp] theorem zeroPanel_pins (s : State) : (zeroPanel s).pins = s.pins := rfl
@[simp] theorem zeroPanel_params (s : State) : (zeroPanel s).params = s.params := rfl
@[simp] theorem zeroPanel_store (s : State) : (zeroPanel s).store = s.store := rfl
@[simp] theorem zeroPanel_schedule (s : State) : (zeroPanel s).schedule = s.schedule := rfl
@[simp] theorem zeroPanel_planner (s : State) : (zeroPanel s).planner = s.planner := rfl
@[simp] theorem zeroPanel_shaft (s : State) : (zeroPanel s).shaft = s.shaft := rfl
@[simp] theorem zeroPanel_gov (s : State) : (zeroPanel s).gov = s.gov := rfl
@[simp] theorem zeroPanel_bars (s : State) : (zeroPanel s).bars = s.bars := rfl
@[simp] theorem zeroPanel_monitor (s : State) : (zeroPanel s).monitor = s.monitor := rfl
@[simp] theorem zeroPanel_line (s : State) : (zeroPanel s).line = s.line := rfl
@[simp] theorem zeroPanel_audit (s : State) : (zeroPanel s).audit = s.audit := rfl
@[simp] theorem zeroPanel_link (s : State) : (zeroPanel s).link = s.link := rfl
@[simp] theorem zeroPanel_resetAsserted (s : State) : (zeroPanel s).resetAsserted = s.resetAsserted := rfl
@[simp] theorem zeroPanel_draws (s : State) : (zeroPanel s).draws = s.draws := rfl
@[simp] theorem zeroPanel_pending (s : State) : (zeroPanel s).pending = s.pending := rfl
@[simp] theorem zeroPanel_motion_x (s : State) : (zeroPanel s).motion.x = s.motion.x := rfl
@[simp] theorem zeroPanel_motion_xKnown (s : State) : (zeroPanel s).motion.xKnown = s.motion.xKnown := rfl
@[simp] theorem zeroPanel_motion_ex (s : State) : (zeroPanel s).motion.ex = s.motion.ex := rfl
@[simp] theorem zeroPanel_motion_panelY (s : State) : (zeroPanel s).motion.panelY = 0 := rfl
@[simp] theorem zeroPanel_motion_ey (s : State) : (zeroPanel s).motion.ey = 0 := rfl
@[simp] theorem zeroPanel_motion_burst (s : State) : (zeroPanel s).motion.burst = s.motion.burst := rfl
@[simp] theorem zeroPanel_motion_feed (s : State) : (zeroPanel s).motion.feed = s.motion.feed := rfl
@[simp] theorem zeroPanel_motion_backMove (s : State) : (zeroPanel s).motion.backMove = s.motion.backMove := rfl
@[simp] theorem zeroPanel_motion_asideFeed (s : State) : (zeroPanel s).motion.asideFeed = s.motion.asideFeed := rfl
@[simp] theorem zeroPanel_motion_homing (s : State) : (zeroPanel s).motion.homing = s.motion.homing := rfl
@[simp] theorem zeroPanel_motion_cutTimer (s : State) : (zeroPanel s).motion.cutTimer = s.motion.cutTimer := rfl
@[simp] theorem zeroPanel_motion_xdir (s : State) : (zeroPanel s).motion.xdir = s.motion.xdir := rfl
@[simp] theorem zeroPanel_motion_ydir (s : State) : (zeroPanel s).motion.ydir = s.motion.ydir := rfl
@[simp] theorem zeroPanel_motion_axen (s : State) : (zeroPanel s).motion.axen = s.motion.axen := rfl

/-! ### dropChange -/

@[simp] theorem dropChange_pins (s : State) : (dropChange s).pins = s.pins := rfl
@[simp] theorem dropChange_params (s : State) : (dropChange s).params = s.params := rfl
@[simp] theorem dropChange_store (s : State) : (dropChange s).store = s.store := rfl
@[simp] theorem dropChange_schedule (s : State) : (dropChange s).schedule = s.schedule := rfl
@[simp] theorem dropChange_planner (s : State) : (dropChange s).planner = s.planner := rfl
@[simp] theorem dropChange_shaft (s : State) : (dropChange s).shaft = s.shaft := rfl
@[simp] theorem dropChange_gov (s : State) : (dropChange s).gov = s.gov := rfl
@[simp] theorem dropChange_motion (s : State) : (dropChange s).motion = s.motion := rfl
@[simp] theorem dropChange_monitor (s : State) : (dropChange s).monitor = s.monitor := rfl
@[simp] theorem dropChange_line (s : State) : (dropChange s).line = s.line := rfl
@[simp] theorem dropChange_audit (s : State) : (dropChange s).audit = s.audit := rfl
@[simp] theorem dropChange_link (s : State) : (dropChange s).link = s.link := rfl
@[simp] theorem dropChange_resetAsserted (s : State) : (dropChange s).resetAsserted = s.resetAsserted := rfl
@[simp] theorem dropChange_draws (s : State) : (dropChange s).draws = s.draws := rfl
@[simp] theorem dropChange_pending (s : State) : (dropChange s).pending = s.pending := rfl
@[simp] theorem dropChange_bars_b0 (s : State) : (dropChange s).bars.b0 = s.bars.b0 := rfl
@[simp] theorem dropChange_bars_b1 (s : State) : (dropChange s).bars.b1 = s.bars.b1 := rfl
@[simp] theorem dropChange_bars_b2 (s : State) : (dropChange s).bars.b2 = s.bars.b2 := rfl
@[simp] theorem dropChange_bars_change (s : State) : (dropChange s).bars.change = none := rfl

/-! ### raiseNotice -/

@[simp] theorem raiseNotice_pins (n : Notice) (s : State) : (raiseNotice n s).pins = s.pins := rfl
@[simp] theorem raiseNotice_params (n : Notice) (s : State) : (raiseNotice n s).params = s.params := rfl
@[simp] theorem raiseNotice_store (n : Notice) (s : State) : (raiseNotice n s).store = s.store := rfl
@[simp] theorem raiseNotice_schedule (n : Notice) (s : State) : (raiseNotice n s).schedule = s.schedule := rfl
@[simp] theorem raiseNotice_planner (n : Notice) (s : State) : (raiseNotice n s).planner = s.planner := rfl
@[simp] theorem raiseNotice_shaft (n : Notice) (s : State) : (raiseNotice n s).shaft = s.shaft := rfl
@[simp] theorem raiseNotice_gov (n : Notice) (s : State) : (raiseNotice n s).gov = s.gov := rfl
@[simp] theorem raiseNotice_motion (n : Notice) (s : State) : (raiseNotice n s).motion = s.motion := rfl
@[simp] theorem raiseNotice_bars (n : Notice) (s : State) : (raiseNotice n s).bars = s.bars := rfl
@[simp] theorem raiseNotice_monitor (n : Notice) (s : State) : (raiseNotice n s).monitor = s.monitor := rfl
@[simp] theorem raiseNotice_line (n : Notice) (s : State) : (raiseNotice n s).line = s.line := rfl
@[simp] theorem raiseNotice_audit (n : Notice) (s : State) : (raiseNotice n s).audit = s.audit := rfl
@[simp] theorem raiseNotice_resetAsserted (n : Notice) (s : State) : (raiseNotice n s).resetAsserted = s.resetAsserted := rfl
@[simp] theorem raiseNotice_draws (n : Notice) (s : State) : (raiseNotice n s).draws = s.draws := rfl
@[simp] theorem raiseNotice_pending (n : Notice) (s : State) : (raiseNotice n s).pending = s.pending := rfl
/-- The choice (R186) writes only what is being sent and the Notice Queue. -/
theorem choose_frame (k : Link) : ∃ tx q, k.choose = { k with tx := tx, notices := q } := by
  unfold Link.choose
  repeat' split
  all_goals exact ⟨_, _, rfl⟩

@[simp] theorem Link.choose_asm (k : Link) : k.choose.asm = k.asm := by
  obtain ⟨_, _, h⟩ := choose_frame k; rw [h]
@[simp] theorem Link.choose_replySlot (k : Link) : k.choose.replySlot = k.replySlot := by
  obtain ⟨_, _, h⟩ := choose_frame k; rw [h]
@[simp] theorem Link.choose_busySlot (k : Link) : k.choose.busySlot = k.busySlot := by
  obtain ⟨_, _, h⟩ := choose_frame k; rw [h]
@[simp] theorem Link.choose_resetPending (k : Link) : k.choose.resetPending = k.resetPending := by
  obtain ⟨_, _, h⟩ := choose_frame k; rw [h]
@[simp] theorem Link.choose_baud (k : Link) : k.choose.baud = k.baud := by
  obtain ⟨_, _, h⟩ := choose_frame k; rw [h]
@[simp] theorem Link.choose_busy (k : Link) (h : k.tx.isSome = true) : k.choose = k := by
  unfold Link.choose; split <;> simp_all
@[simp] theorem raiseNotice_link_asm (n : Notice) (s : State) : (raiseNotice n s).link.asm = s.link.asm := by
  simp only [raiseNotice, transmit]; split <;> simp
@[simp] theorem raiseNotice_link_replySlot (n : Notice) (s : State) : (raiseNotice n s).link.replySlot = s.link.replySlot := by
  simp only [raiseNotice, transmit]; split <;> simp
@[simp] theorem raiseNotice_link_busySlot (n : Notice) (s : State) : (raiseNotice n s).link.busySlot = s.link.busySlot := by
  simp only [raiseNotice, transmit]; split <;> simp
@[simp] theorem raiseNotice_link_resetPending (n : Notice) (s : State) : (raiseNotice n s).link.resetPending = s.link.resetPending := by
  simp only [raiseNotice, transmit]; split <;> simp
@[simp] theorem raiseNotice_link_baud (n : Notice) (s : State) : (raiseNotice n s).link.baud = s.link.baud := by
  simp only [raiseNotice, transmit]; split <;> simp

/-! ### transmit, setTx -/

@[simp] theorem transmit_pins (s : State) : (transmit s).pins = s.pins := rfl
@[simp] theorem setTx_pins (tx : Option (TxSource × Frame)) (s : State) : (setTx tx s).pins = s.pins := rfl
@[simp] theorem transmit_params (s : State) : (transmit s).params = s.params := rfl
@[simp] theorem setTx_params (tx : Option (TxSource × Frame)) (s : State) : (setTx tx s).params = s.params := rfl
@[simp] theorem transmit_store (s : State) : (transmit s).store = s.store := rfl
@[simp] theorem setTx_store (tx : Option (TxSource × Frame)) (s : State) : (setTx tx s).store = s.store := rfl
@[simp] theorem transmit_schedule (s : State) : (transmit s).schedule = s.schedule := rfl
@[simp] theorem setTx_schedule (tx : Option (TxSource × Frame)) (s : State) : (setTx tx s).schedule = s.schedule := rfl
@[simp] theorem transmit_planner (s : State) : (transmit s).planner = s.planner := rfl
@[simp] theorem setTx_planner (tx : Option (TxSource × Frame)) (s : State) : (setTx tx s).planner = s.planner := rfl
@[simp] theorem transmit_shaft (s : State) : (transmit s).shaft = s.shaft := rfl
@[simp] theorem setTx_shaft (tx : Option (TxSource × Frame)) (s : State) : (setTx tx s).shaft = s.shaft := rfl
@[simp] theorem transmit_gov (s : State) : (transmit s).gov = s.gov := rfl
@[simp] theorem setTx_gov (tx : Option (TxSource × Frame)) (s : State) : (setTx tx s).gov = s.gov := rfl
@[simp] theorem transmit_motion (s : State) : (transmit s).motion = s.motion := rfl
@[simp] theorem setTx_motion (tx : Option (TxSource × Frame)) (s : State) : (setTx tx s).motion = s.motion := rfl
@[simp] theorem transmit_bars (s : State) : (transmit s).bars = s.bars := rfl
@[simp] theorem setTx_bars (tx : Option (TxSource × Frame)) (s : State) : (setTx tx s).bars = s.bars := rfl
@[simp] theorem transmit_monitor (s : State) : (transmit s).monitor = s.monitor := rfl
@[simp] theorem setTx_monitor (tx : Option (TxSource × Frame)) (s : State) : (setTx tx s).monitor = s.monitor := rfl
@[simp] theorem transmit_line (s : State) : (transmit s).line = s.line := rfl
@[simp] theorem setTx_line (tx : Option (TxSource × Frame)) (s : State) : (setTx tx s).line = s.line := rfl
@[simp] theorem transmit_audit (s : State) : (transmit s).audit = s.audit := rfl
@[simp] theorem setTx_audit (tx : Option (TxSource × Frame)) (s : State) : (setTx tx s).audit = s.audit := rfl
@[simp] theorem transmit_resetAsserted (s : State) : (transmit s).resetAsserted = s.resetAsserted := rfl
@[simp] theorem setTx_resetAsserted (tx : Option (TxSource × Frame)) (s : State) : (setTx tx s).resetAsserted = s.resetAsserted := rfl
@[simp] theorem transmit_draws (s : State) : (transmit s).draws = s.draws := rfl
@[simp] theorem setTx_draws (tx : Option (TxSource × Frame)) (s : State) : (setTx tx s).draws = s.draws := rfl
@[simp] theorem transmit_pending (s : State) : (transmit s).pending = s.pending := rfl
@[simp] theorem setTx_pending (tx : Option (TxSource × Frame)) (s : State) : (setTx tx s).pending = s.pending := rfl
@[simp] theorem setTx_link_asm (tx : Option (TxSource × Frame)) (s : State) : (setTx tx s).link.asm = s.link.asm := rfl
@[simp] theorem setTx_link_replySlot (tx : Option (TxSource × Frame)) (s : State) : (setTx tx s).link.replySlot = s.link.replySlot := rfl
@[simp] theorem setTx_link_busySlot (tx : Option (TxSource × Frame)) (s : State) : (setTx tx s).link.busySlot = s.link.busySlot := rfl
@[simp] theorem setTx_link_tx (tx : Option (TxSource × Frame)) (s : State) : (setTx tx s).link.tx = tx := rfl
@[simp] theorem setTx_link_notices (tx : Option (TxSource × Frame)) (s : State) : (setTx tx s).link.notices = s.link.notices := rfl
@[simp] theorem setTx_link_resetPending (tx : Option (TxSource × Frame)) (s : State) : (setTx tx s).link.resetPending = s.link.resetPending := rfl
@[simp] theorem setTx_link_baud (tx : Option (TxSource × Frame)) (s : State) : (setTx tx s).link.baud = s.link.baud := rfl
@[simp] theorem setTx_setTx (a b : Option (TxSource × Frame)) (s : State) : setTx a (setTx b s) = setTx a s := rfl
@[simp] theorem setTx_same (s : State) : setTx s.link.tx s = s := rfl
@[simp] theorem keepLine_link_tx_isSome (s : State) : (keepLine s).link.tx.isSome = true := rfl

/-! ### answered -/

@[simp] theorem State.answered_pins (kind tag : Byte) (r : Reply) (s : State) : (s.answered kind tag r).pins = s.pins := rfl
@[simp] theorem State.answered_params (kind tag : Byte) (r : Reply) (s : State) : (s.answered kind tag r).params = s.params := rfl
@[simp] theorem State.answered_store (kind tag : Byte) (r : Reply) (s : State) : (s.answered kind tag r).store = s.store := rfl
@[simp] theorem State.answered_schedule (kind tag : Byte) (r : Reply) (s : State) : (s.answered kind tag r).schedule = s.schedule := rfl
@[simp] theorem State.answered_planner (kind tag : Byte) (r : Reply) (s : State) : (s.answered kind tag r).planner = s.planner := rfl
@[simp] theorem State.answered_shaft (kind tag : Byte) (r : Reply) (s : State) : (s.answered kind tag r).shaft = s.shaft := rfl
@[simp] theorem State.answered_gov (kind tag : Byte) (r : Reply) (s : State) : (s.answered kind tag r).gov = s.gov := rfl
@[simp] theorem State.answered_motion (kind tag : Byte) (r : Reply) (s : State) : (s.answered kind tag r).motion = s.motion := rfl
@[simp] theorem State.answered_bars (kind tag : Byte) (r : Reply) (s : State) : (s.answered kind tag r).bars = s.bars := rfl
@[simp] theorem State.answered_monitor (kind tag : Byte) (r : Reply) (s : State) : (s.answered kind tag r).monitor = s.monitor := rfl
@[simp] theorem State.answered_line (kind tag : Byte) (r : Reply) (s : State) : (s.answered kind tag r).line = s.line := rfl
@[simp] theorem State.answered_audit (kind tag : Byte) (r : Reply) (s : State) : (s.answered kind tag r).audit = s.audit := rfl
@[simp] theorem State.answered_resetAsserted (kind tag : Byte) (r : Reply) (s : State) : (s.answered kind tag r).resetAsserted = s.resetAsserted := rfl
@[simp] theorem State.answered_draws (kind tag : Byte) (r : Reply) (s : State) : (s.answered kind tag r).draws = s.draws := rfl
@[simp] theorem State.answered_pending (kind tag : Byte) (r : Reply) (s : State) : (s.answered kind tag r).pending = s.pending := rfl
@[simp] theorem State.answered_link_asm (kind tag : Byte) (r : Reply) (s : State) : (s.answered kind tag r).link.asm = s.link.asm := rfl
@[simp] theorem State.answered_link_replySlot (kind tag : Byte) (r : Reply) (s : State) : (s.answered kind tag r).link.replySlot = some (replyFrame kind tag r) := rfl
@[simp] theorem State.answered_link_busySlot (kind tag : Byte) (r : Reply) (s : State) : (s.answered kind tag r).link.busySlot = s.link.busySlot := rfl
@[simp] theorem State.answered_link_tx (kind tag : Byte) (r : Reply) (s : State) : (s.answered kind tag r).link.tx = s.link.tx := rfl
@[simp] theorem State.answered_link_notices (kind tag : Byte) (r : Reply) (s : State) : (s.answered kind tag r).link.notices = s.link.notices := rfl
@[simp] theorem State.answered_link_resetPending (kind tag : Byte) (r : Reply) (s : State) : (s.answered kind tag r).link.resetPending = s.link.resetPending := rfl
@[simp] theorem State.answered_link_baud (kind tag : Byte) (r : Reply) (s : State) : (s.answered kind tag r).link.baud = s.link.baud := rfl

/-! ### recompute -/

@[simp] theorem recompute_pins (s : State) : (recompute s).pins = s.pins := rfl
@[simp] theorem recompute_params (s : State) : (recompute s).params = s.params := rfl
@[simp] theorem recompute_store (s : State) : (recompute s).store = s.store := rfl
@[simp] theorem recompute_schedule (s : State) : (recompute s).schedule = s.schedule := rfl
@[simp] theorem recompute_planner (s : State) : (recompute s).planner = s.planner := rfl
@[simp] theorem recompute_shaft (s : State) : (recompute s).shaft = s.shaft := rfl
@[simp] theorem recompute_motion (s : State) : (recompute s).motion = s.motion := rfl
@[simp] theorem recompute_bars (s : State) : (recompute s).bars = s.bars := rfl
@[simp] theorem recompute_monitor (s : State) : (recompute s).monitor = s.monitor := rfl
@[simp] theorem recompute_line (s : State) : (recompute s).line = s.line := rfl
@[simp] theorem recompute_audit (s : State) : (recompute s).audit = s.audit := rfl
@[simp] theorem recompute_link (s : State) : (recompute s).link = s.link := rfl
@[simp] theorem recompute_resetAsserted (s : State) : (recompute s).resetAsserted = s.resetAsserted := rfl
@[simp] theorem recompute_draws (s : State) : (recompute s).draws = s.draws := rfl
@[simp] theorem recompute_pending (s : State) : (recompute s).pending = s.pending := rfl
@[simp] theorem recompute_gov_state (s : State) : (recompute s).gov.state = s.gov.state := rfl
@[simp] theorem recompute_gov_purpose (s : State) : (recompute s).gov.purpose = s.gov.purpose := rfl
@[simp] theorem recompute_gov_released (s : State) : (recompute s).gov.released = s.gov.released := rfl
@[simp] theorem recompute_gov_demand (s : State) : (recompute s).gov.demand = demandOf s := rfl
@[simp] theorem recompute_gov_applied (s : State) : (recompute s).gov.applied = s.gov.applied := rfl
@[simp] theorem recompute_gov_pwmDuty (s : State) : (recompute s).gov.pwmDuty = s.gov.pwmDuty := rfl
@[simp] theorem recompute_gov_inTol (s : State) : (recompute s).gov.inTol = s.gov.inTol := rfl
@[simp] theorem recompute_gov_outTol (s : State) : (recompute s).gov.outTol = s.gov.outTol := rfl
@[simp] theorem recompute_gov_settled (s : State) : (recompute s).gov.settled = s.gov.settled := rfl
@[simp] theorem recompute_gov_armCount (s : State) : (recompute s).gov.armCount = s.gov.armCount := rfl
@[simp] theorem recompute_gov_attempts (s : State) : (recompute s).gov.attempts = s.gov.attempts := rfl
@[simp] theorem recompute_gov_armed (s : State) : (recompute s).gov.armed = s.gov.armed := rfl
@[simp] theorem recompute_gov_braked (s : State) : (recompute s).gov.braked = s.gov.braked := rfl
@[simp] theorem recompute_gov_replayCeilings (s : State) : (recompute s).gov.replayCeilings = s.gov.replayCeilings := rfl

/-! ### freeze -/

@[simp] theorem freeze_pins (s : State) : (freeze s).pins = s.pins := rfl
@[simp] theorem freeze_params (s : State) : (freeze s).params = s.params := rfl
@[simp] theorem freeze_store (s : State) : (freeze s).store = s.store := rfl
@[simp] theorem freeze_schedule (s : State) : (freeze s).schedule = s.schedule := rfl
@[simp] theorem freeze_planner (s : State) : (freeze s).planner = s.planner := rfl
@[simp] theorem freeze_shaft (s : State) : (freeze s).shaft = s.shaft := rfl
@[simp] theorem freeze_gov (s : State) : (freeze s).gov = s.gov := rfl
@[simp] theorem freeze_bars (s : State) : (freeze s).bars = s.bars := rfl
@[simp] theorem freeze_monitor (s : State) : (freeze s).monitor = s.monitor := rfl
@[simp] theorem freeze_line (s : State) : (freeze s).line = s.line := rfl
@[simp] theorem freeze_audit (s : State) : (freeze s).audit = s.audit := rfl
@[simp] theorem freeze_link (s : State) : (freeze s).link = s.link := rfl
@[simp] theorem freeze_resetAsserted (s : State) : (freeze s).resetAsserted = s.resetAsserted := rfl
@[simp] theorem freeze_draws (s : State) : (freeze s).draws = s.draws := rfl
@[simp] theorem freeze_pending (s : State) : (freeze s).pending = s.pending := rfl
@[simp] theorem freeze_motion_x (s : State) : (freeze s).motion.x = s.motion.x := rfl
@[simp] theorem freeze_motion_xKnown (s : State) : (freeze s).motion.xKnown = s.motion.xKnown := rfl
@[simp] theorem freeze_motion_ex (s : State) : (freeze s).motion.ex = s.motion.ex := rfl
@[simp] theorem freeze_motion_panelY (s : State) : (freeze s).motion.panelY = s.motion.panelY := rfl
@[simp] theorem freeze_motion_ey (s : State) : (freeze s).motion.ey = s.motion.ey := rfl
@[simp] theorem freeze_motion_burst (s : State) : (freeze s).motion.burst = s.motion.burst.map Burst.freeze := rfl
@[simp] theorem freeze_motion_feed (s : State) : (freeze s).motion.feed = s.motion.feed.map Feed.freeze := rfl
@[simp] theorem freeze_motion_backMove (s : State) : (freeze s).motion.backMove = s.motion.backMove := rfl
@[simp] theorem freeze_motion_asideFeed (s : State) : (freeze s).motion.asideFeed = s.motion.asideFeed := rfl
@[simp] theorem freeze_motion_homing (s : State) : (freeze s).motion.homing = s.motion.homing := rfl
@[simp] theorem freeze_motion_cutTimer (s : State) : (freeze s).motion.cutTimer = s.motion.cutTimer := rfl
@[simp] theorem freeze_motion_xdir (s : State) : (freeze s).motion.xdir = s.motion.xdir := rfl
@[simp] theorem freeze_motion_ydir (s : State) : (freeze s).motion.ydir = s.motion.ydir := rfl
@[simp] theorem freeze_motion_axen (s : State) : (freeze s).motion.axen = s.motion.axen := rfl

/-! ### haltGov -/

@[simp] theorem haltGov_pins (s : State) : (haltGov s).pins = s.pins := rfl
@[simp] theorem haltGov_params (s : State) : (haltGov s).params = s.params := rfl
@[simp] theorem haltGov_store (s : State) : (haltGov s).store = s.store := rfl
@[simp] theorem haltGov_schedule (s : State) : (haltGov s).schedule = s.schedule := rfl
@[simp] theorem haltGov_planner (s : State) : (haltGov s).planner = s.planner := rfl
@[simp] theorem haltGov_shaft (s : State) : (haltGov s).shaft = s.shaft := rfl
@[simp] theorem haltGov_motion (s : State) : (haltGov s).motion = s.motion := rfl
@[simp] theorem haltGov_bars (s : State) : (haltGov s).bars = s.bars := rfl
@[simp] theorem haltGov_monitor (s : State) : (haltGov s).monitor = s.monitor := rfl
@[simp] theorem haltGov_line (s : State) : (haltGov s).line = s.line := rfl
@[simp] theorem haltGov_audit (s : State) : (haltGov s).audit = s.audit := rfl
@[simp] theorem haltGov_link (s : State) : (haltGov s).link = s.link := rfl
@[simp] theorem haltGov_resetAsserted (s : State) : (haltGov s).resetAsserted = s.resetAsserted := rfl
@[simp] theorem haltGov_draws (s : State) : (haltGov s).draws = s.draws := rfl
@[simp] theorem haltGov_pending (s : State) : (haltGov s).pending = s.pending := rfl
@[simp] theorem haltGov_gov_state (s : State) : (haltGov s).gov.state = .halted := rfl
@[simp] theorem haltGov_gov_purpose (s : State) : (haltGov s).gov.purpose = none := rfl
@[simp] theorem haltGov_gov_released (s : State) : (haltGov s).gov.released = false := rfl
@[simp] theorem haltGov_gov_demand (s : State) : (haltGov s).gov.demand = 0 := rfl
@[simp] theorem haltGov_gov_applied (s : State) : (haltGov s).gov.applied = 0 := rfl
@[simp] theorem haltGov_gov_pwmDuty (s : State) : (haltGov s).gov.pwmDuty = s.gov.pwmDuty := rfl
@[simp] theorem haltGov_gov_inTol (s : State) : (haltGov s).gov.inTol = s.gov.inTol := rfl
@[simp] theorem haltGov_gov_outTol (s : State) : (haltGov s).gov.outTol = s.gov.outTol := rfl
@[simp] theorem haltGov_gov_settled (s : State) : (haltGov s).gov.settled = s.gov.settled := rfl
@[simp] theorem haltGov_gov_armCount (s : State) : (haltGov s).gov.armCount = s.gov.armCount := rfl
@[simp] theorem haltGov_gov_attempts (s : State) : (haltGov s).gov.attempts = s.gov.attempts := rfl
@[simp] theorem haltGov_gov_armed (s : State) : (haltGov s).gov.armed = false := rfl
@[simp] theorem haltGov_gov_braked (s : State) : (haltGov s).gov.braked = false := rfl
@[simp] theorem haltGov_gov_replayCeilings (s : State) : (haltGov s).gov.replayCeilings = [] := rfl

/-! ### stopAtOnce -/

@[simp] theorem stopAtOnce_pins (s : State) : (stopAtOnce s).pins = s.pins := rfl
@[simp] theorem stopAtOnce_params (s : State) : (stopAtOnce s).params = s.params := rfl
@[simp] theorem stopAtOnce_store (s : State) : (stopAtOnce s).store = s.store := rfl
@[simp] theorem stopAtOnce_schedule (s : State) : (stopAtOnce s).schedule = s.schedule := rfl
@[simp] theorem stopAtOnce_planner (s : State) : (stopAtOnce s).planner = s.planner := rfl
@[simp] theorem stopAtOnce_shaft (s : State) : (stopAtOnce s).shaft = s.shaft := rfl
@[simp] theorem stopAtOnce_motion (s : State) : (stopAtOnce s).motion = s.motion := rfl
@[simp] theorem stopAtOnce_bars (s : State) : (stopAtOnce s).bars = s.bars := rfl
@[simp] theorem stopAtOnce_monitor (s : State) : (stopAtOnce s).monitor = s.monitor := rfl
@[simp] theorem stopAtOnce_line (s : State) : (stopAtOnce s).line = s.line := rfl
@[simp] theorem stopAtOnce_audit (s : State) : (stopAtOnce s).audit = s.audit := rfl
@[simp] theorem stopAtOnce_link (s : State) : (stopAtOnce s).link = s.link := rfl
@[simp] theorem stopAtOnce_resetAsserted (s : State) : (stopAtOnce s).resetAsserted = s.resetAsserted := rfl
@[simp] theorem stopAtOnce_draws (s : State) : (stopAtOnce s).draws = s.draws := rfl
@[simp] theorem stopAtOnce_pending (s : State) : (stopAtOnce s).pending = s.pending := rfl
@[simp] theorem stopAtOnce_gov_state (s : State) : (stopAtOnce s).gov.state = .halted := rfl
@[simp] theorem stopAtOnce_gov_purpose (s : State) : (stopAtOnce s).gov.purpose = none := rfl
@[simp] theorem stopAtOnce_gov_released (s : State) : (stopAtOnce s).gov.released = false := rfl
@[simp] theorem stopAtOnce_gov_demand (s : State) : (stopAtOnce s).gov.demand = 0 := rfl
@[simp] theorem stopAtOnce_gov_applied (s : State) : (stopAtOnce s).gov.applied = 0 := rfl
@[simp] theorem stopAtOnce_gov_pwmDuty (s : State) : (stopAtOnce s).gov.pwmDuty = s.gov.pwmDuty := rfl
@[simp] theorem stopAtOnce_gov_inTol (s : State) : (stopAtOnce s).gov.inTol = 0 := rfl
@[simp] theorem stopAtOnce_gov_outTol (s : State) : (stopAtOnce s).gov.outTol = 0 := rfl
@[simp] theorem stopAtOnce_gov_settled (s : State) : (stopAtOnce s).gov.settled = 0 := rfl
@[simp] theorem stopAtOnce_gov_armCount (s : State) : (stopAtOnce s).gov.armCount = 0 := rfl
@[simp] theorem stopAtOnce_gov_attempts (s : State) : (stopAtOnce s).gov.attempts = s.gov.attempts := rfl
@[simp] theorem stopAtOnce_gov_armed (s : State) : (stopAtOnce s).gov.armed = false := rfl
@[simp] theorem stopAtOnce_gov_braked (s : State) : (stopAtOnce s).gov.braked = false := rfl
@[simp] theorem stopAtOnce_gov_replayCeilings (s : State) : (stopAtOnce s).gov.replayCeilings = [] := rfl

/-! ### flushPlan -/

@[simp] theorem flushPlan_pins (s : State) : (flushPlan s).pins = s.pins := rfl
@[simp] theorem flushPlan_params (s : State) : (flushPlan s).params = s.params := rfl
@[simp] theorem flushPlan_store (s : State) : (flushPlan s).store = s.store := rfl
@[simp] theorem flushPlan_schedule (s : State) : (flushPlan s).schedule = s.schedule := rfl
@[simp] theorem flushPlan_shaft (s : State) : (flushPlan s).shaft = s.shaft := rfl
@[simp] theorem flushPlan_gov (s : State) : (flushPlan s).gov = s.gov := rfl
@[simp] theorem flushPlan_motion (s : State) : (flushPlan s).motion = s.motion := rfl
@[simp] theorem flushPlan_bars (s : State) : (flushPlan s).bars = s.bars := rfl
@[simp] theorem flushPlan_monitor (s : State) : (flushPlan s).monitor = s.monitor := rfl
@[simp] theorem flushPlan_line (s : State) : (flushPlan s).line = s.line := rfl
@[simp] theorem flushPlan_audit (s : State) : (flushPlan s).audit = s.audit := rfl
@[simp] theorem flushPlan_link (s : State) : (flushPlan s).link = s.link := rfl
@[simp] theorem flushPlan_resetAsserted (s : State) : (flushPlan s).resetAsserted = s.resetAsserted := rfl
@[simp] theorem flushPlan_draws (s : State) : (flushPlan s).draws = s.draws := rfl
@[simp] theorem flushPlan_pending (s : State) : (flushPlan s).pending = s.pending := rfl
@[simp] theorem flushPlan_planner (s : State) : (flushPlan s).planner = Planner.reset := rfl

/-! ### replayBegin -/

@[simp] theorem replayBegin_pins (s : State) : (replayBegin s).pins = s.pins := rfl
@[simp] theorem replayBegin_params (s : State) : (replayBegin s).params = s.params := rfl
@[simp] theorem replayBegin_store (s : State) : (replayBegin s).store = s.store := rfl
@[simp] theorem replayBegin_schedule (s : State) : (replayBegin s).schedule = s.schedule := rfl
@[simp] theorem replayBegin_planner (s : State) : (replayBegin s).planner = s.planner := rfl
@[simp] theorem replayBegin_shaft (s : State) : (replayBegin s).shaft = s.shaft := rfl
@[simp] theorem replayBegin_gov (s : State) : (replayBegin s).gov = s.gov := rfl
@[simp] theorem replayBegin_motion (s : State) : (replayBegin s).motion = s.motion := rfl
@[simp] theorem replayBegin_bars (s : State) : (replayBegin s).bars = s.bars := rfl
@[simp] theorem replayBegin_line (s : State) : (replayBegin s).line = s.line := rfl
@[simp] theorem replayBegin_audit (s : State) : (replayBegin s).audit = s.audit := rfl
@[simp] theorem replayBegin_link (s : State) : (replayBegin s).link = s.link := rfl
@[simp] theorem replayBegin_resetAsserted (s : State) : (replayBegin s).resetAsserted = s.resetAsserted := rfl
@[simp] theorem replayBegin_draws (s : State) : (replayBegin s).draws = s.draws := rfl
@[simp] theorem replayBegin_pending (s : State) : (replayBegin s).pending = s.pending := rfl
@[simp] theorem replayBegin_monitor_scanTimer (s : State) : (replayBegin s).monitor.scanTimer = s.monitor.scanTimer := rfl
@[simp] theorem replayBegin_monitor_scanning (s : State) : (replayBegin s).monitor.scanning = s.monitor.scanning := rfl
@[simp] theorem replayBegin_monitor_image (s : State) : (replayBegin s).monitor.image = s.monitor.image := rfl
@[simp] theorem replayBegin_monitor_chainFault (s : State) : (replayBegin s).monitor.chainFault = s.monitor.chainFault := rfl
@[simp] theorem replayBegin_monitor_scanFault (s : State) : (replayBegin s).monitor.scanFault = s.monitor.scanFault := rfl
@[simp] theorem replayBegin_monitor_pendingStitch (s : State) : (replayBegin s).monitor.pendingStitch = s.monitor.pendingStitch := rfl
@[simp] theorem replayBegin_monitor_formedStitch (s : State) : (replayBegin s).monitor.formedStitch = s.monitor.formedStitch := rfl
@[simp] theorem replayBegin_monitor_suppress (s : State) : (replayBegin s).monitor.suppress = s.params.grace := rfl
@[simp] theorem replayBegin_monitor_seen (s : State) : (replayBegin s).monitor.seen = s.monitor.seen := rfl
@[simp] theorem replayBegin_monitor_needles (s : State) : (replayBegin s).monitor.needles = s.monitor.needles := rfl

/-! ### monitorStopped -/

@[simp] theorem monitorStopped_pins (s : State) : (monitorStopped s).pins = s.pins := rfl
@[simp] theorem monitorStopped_params (s : State) : (monitorStopped s).params = s.params := rfl
@[simp] theorem monitorStopped_store (s : State) : (monitorStopped s).store = s.store := rfl
@[simp] theorem monitorStopped_schedule (s : State) : (monitorStopped s).schedule = s.schedule := rfl
@[simp] theorem monitorStopped_planner (s : State) : (monitorStopped s).planner = s.planner := rfl
@[simp] theorem monitorStopped_shaft (s : State) : (monitorStopped s).shaft = s.shaft := rfl
@[simp] theorem monitorStopped_gov (s : State) : (monitorStopped s).gov = s.gov := rfl
@[simp] theorem monitorStopped_motion (s : State) : (monitorStopped s).motion = s.motion := rfl
@[simp] theorem monitorStopped_bars (s : State) : (monitorStopped s).bars = s.bars := rfl
@[simp] theorem monitorStopped_line (s : State) : (monitorStopped s).line = s.line := rfl
@[simp] theorem monitorStopped_audit (s : State) : (monitorStopped s).audit = s.audit := rfl
@[simp] theorem monitorStopped_link (s : State) : (monitorStopped s).link = s.link := rfl
@[simp] theorem monitorStopped_resetAsserted (s : State) : (monitorStopped s).resetAsserted = s.resetAsserted := rfl
@[simp] theorem monitorStopped_draws (s : State) : (monitorStopped s).draws = s.draws := rfl
@[simp] theorem monitorStopped_pending (s : State) : (monitorStopped s).pending = s.pending := rfl
@[simp] theorem monitorStopped_monitor_scanTimer (s : State) : (monitorStopped s).monitor.scanTimer = s.monitor.scanTimer := rfl
@[simp] theorem monitorStopped_monitor_scanning (s : State) : (monitorStopped s).monitor.scanning = s.monitor.scanning := rfl
@[simp] theorem monitorStopped_monitor_image (s : State) : (monitorStopped s).monitor.image = s.monitor.image := rfl
@[simp] theorem monitorStopped_monitor_chainFault (s : State) : (monitorStopped s).monitor.chainFault = s.monitor.chainFault := rfl
@[simp] theorem monitorStopped_monitor_scanFault (s : State) : (monitorStopped s).monitor.scanFault = false := rfl
@[simp] theorem monitorStopped_monitor_pendingStitch (s : State) : (monitorStopped s).monitor.pendingStitch = s.monitor.pendingStitch := rfl
@[simp] theorem monitorStopped_monitor_formedStitch (s : State) : (monitorStopped s).monitor.formedStitch = none := rfl
@[simp] theorem monitorStopped_monitor_suppress (s : State) : (monitorStopped s).monitor.suppress = s.monitor.suppress := rfl
@[simp] theorem monitorStopped_monitor_seen (s : State) : (monitorStopped s).monitor.seen = 0 := rfl
@[simp] theorem monitorStopped_monitor_needles (s : State) : (monitorStopped s).monitor.needles = s.monitor.needles := rfl

/-! ### setActive -/

@[simp] theorem setActive_pins (f : Order → Order) (s : State) : (setActive f s).pins = s.pins := rfl
@[simp] theorem setActive_params (f : Order → Order) (s : State) : (setActive f s).params = s.params := rfl
@[simp] theorem setActive_store (f : Order → Order) (s : State) : (setActive f s).store = s.store := rfl
@[simp] theorem setActive_planner (f : Order → Order) (s : State) : (setActive f s).planner = s.planner := rfl
@[simp] theorem setActive_shaft (f : Order → Order) (s : State) : (setActive f s).shaft = s.shaft := rfl
@[simp] theorem setActive_gov (f : Order → Order) (s : State) : (setActive f s).gov = s.gov := rfl
@[simp] theorem setActive_motion (f : Order → Order) (s : State) : (setActive f s).motion = s.motion := rfl
@[simp] theorem setActive_bars (f : Order → Order) (s : State) : (setActive f s).bars = s.bars := rfl
@[simp] theorem setActive_monitor (f : Order → Order) (s : State) : (setActive f s).monitor = s.monitor := rfl
@[simp] theorem setActive_line (f : Order → Order) (s : State) : (setActive f s).line = s.line := rfl
@[simp] theorem setActive_audit (f : Order → Order) (s : State) : (setActive f s).audit = s.audit := rfl
@[simp] theorem setActive_link (f : Order → Order) (s : State) : (setActive f s).link = s.link := rfl
@[simp] theorem setActive_resetAsserted (f : Order → Order) (s : State) : (setActive f s).resetAsserted = s.resetAsserted := rfl
@[simp] theorem setActive_draws (f : Order → Order) (s : State) : (setActive f s).draws = s.draws := rfl
@[simp] theorem setActive_pending (f : Order → Order) (s : State) : (setActive f s).pending = s.pending := rfl
@[simp] theorem setActive_schedule_orders (f : Order → Order) (s : State) : (setActive f s).schedule.orders = s.schedule.orders.map fun o => if o.state = .active then f o else o := rfl
@[simp] theorem setActive_schedule_armed (f : Order → Order) (s : State) : (setActive f s).schedule.armed = s.schedule.armed := rfl

/-! ## The outputs of the Motion Output (R105, R121) -/

@[simp] theorem stepLevel_none : stepLevel none = false := rfl
@[simp] theorem stepLevel_some (t : Nat) : stepLevel (some t) = decide (t < 5) := rfl
@[simp] theorem outputs_xstep (m : Motion) (x y : Option Nat) : (m.outputs x y).xstep = stepLevel x := rfl
@[simp] theorem outputs_ystep (m : Motion) (x y : Option Nat) : (m.outputs x y).ystep = stepLevel y := rfl
@[simp] theorem outputs_xdir (m : Motion) (x y : Option Nat) : (m.outputs x y).xdir = m.xdir := rfl
@[simp] theorem outputs_ydir (m : Motion) (x y : Option Nat) : (m.outputs x y).ydir = m.ydir := rfl
@[simp] theorem outputs_cut (m : Motion) (x y : Option Nat) : (m.outputs x y).cut = m.cutTimer.isSome := rfl
@[simp] theorem outputs_axen (m : Motion) (x y : Option Nat) : (m.outputs x y).axen = m.axen := rfl

end Sys2Proof.Machine
end

