-- ==== Sys2Proof/Laws/Ops.lean ====
section
/-! SUPPORT. For each shared operation one lemma that says what it can do to the state: which blocks it writes, the rest
left alone, and for the operations of the link their whole effect. A statement about a command cites these instead of
unfolding the operation. -/

namespace Sys2Proof.Machine

/-! ## What a group of operations may write -/

/-- Only the Speed Governor differs. -/
def SameButGov (s t : State) : Prop := ∃ g, t = { s with gov := g }

/-- Only the Speed Governor, the Motion Output, the Line Controller and the link differ: what a stop and the Fault Record
write. -/
def SameButStop (s t : State) : Prop := ∃ g m l k, t = { s with gov := g, motion := m, line := l, link := k }

/-- Only the bars and the Thread Monitor differ. -/
def SameButBars (s t : State) : Prop := ∃ u m, t = { s with bars := u, monitor := m }

/-- Only the blocks the resume sequence writes differ, and the count of free values drawn. -/
def SameButLine (s t : State) : Prop :=
  ∃ p g o u m l k d,
    t = { s with planner := p, gov := g, motion := o, bars := u, monitor := m, line := l, link := k, draws := d }

theorem SameButGov.rfl' (s : State) : SameButGov s s := ⟨s.gov, rfl⟩
theorem SameButStop.rfl' (s : State) : SameButStop s s := ⟨s.gov, s.motion, s.line, s.link, rfl⟩
theorem SameButBars.rfl' (s : State) : SameButBars s s := ⟨s.bars, s.monitor, rfl⟩
theorem SameButLine.rfl' (s : State) : SameButLine s s :=
  ⟨s.planner, s.gov, s.motion, s.bars, s.monitor, s.line, s.link, s.draws, rfl⟩

theorem SameButGov.trans {s t u : State} : SameButGov s t → SameButGov t u → SameButGov s u := by
  rintro ⟨_, rfl⟩ ⟨_, rfl⟩; exact ⟨_, rfl⟩
theorem SameButStop.trans {s t u : State} : SameButStop s t → SameButStop t u → SameButStop s u := by
  rintro ⟨_, _, _, _, rfl⟩ ⟨_, _, _, _, rfl⟩; exact ⟨_, _, _, _, rfl⟩
theorem SameButBars.trans {s t u : State} : SameButBars s t → SameButBars t u → SameButBars s u := by
  rintro ⟨_, _, rfl⟩ ⟨_, _, rfl⟩; exact ⟨_, _, rfl⟩
theorem SameButLine.trans {s t u : State} : SameButLine s t → SameButLine t u → SameButLine s u := by
  rintro ⟨_, _, _, _, _, _, _, _, rfl⟩ ⟨_, _, _, _, _, _, _, _, rfl⟩
  exact ⟨_, _, _, _, _, _, _, _, rfl⟩

theorem SameButGov.stop {s t : State} : SameButGov s t → SameButStop s t := by
  rintro ⟨_, rfl⟩; exact ⟨_, _, _, _, rfl⟩
theorem SameButStop.line {s t : State} : SameButStop s t → SameButLine s t := by
  rintro ⟨_, _, _, _, rfl⟩; exact ⟨_, _, _, _, _, _, _, _, rfl⟩
theorem SameButBars.line {s t : State} : SameButBars s t → SameButLine s t := by
  rintro ⟨_, _, rfl⟩; exact ⟨_, _, _, _, _, _, _, _, rfl⟩
theorem SameButGov.line {s t : State} (h : SameButGov s t) : SameButLine s t := h.stop.line

/-! ## The link -/

/-- The transmitter (R186) writes only what is being sent and the Notice Queue. -/
theorem transmit_frame (s : State) : ∃ tx q, transmit s = { s with link := { s.link with tx := tx, notices := q } } := by
  unfold transmit
  split
  · exact ⟨_, _, rfl⟩
  · obtain ⟨tx, q, h⟩ := choose_frame s.link
    exact ⟨tx, q, by rw [h]⟩

/-- Raising a notice (R185, R186) writes only what is being sent and the Notice Queue. -/
theorem raiseNotice_frame (n : Notice) (s : State) :
    ∃ tx q, raiseNotice n s = { s with link := { s.link with tx := tx, notices := q } } :=
  transmit_frame { s with link := { s.link with notices := noticesWith s.link.notices n } }

/-- The notice to send next (R186, R188) is one of the queue, which is left with every other one in its order; it is the
front one unless a RESET_DONE waits behind it. -/
theorem nextNotice_some {q rest : List Notice} {n : Notice} (h : nextNotice q = some (n, rest)) :
    ∃ before, q = before ++ n :: (rest.drop before.length) ∧ before = rest.take before.length
      ∧ (before = [] ∨ n.isResetDone = true) := by
  unfold nextNotice at h
  split at h
  · rename_i m hm
    simp only [Option.some.injEq, Prod.mk.injEq] at h
    obtain ⟨rfl, rfl⟩ := h
    obtain ⟨hp, before, after, rfl, hb⟩ := List.find?_eq_some_iff_append.mp hm
    have hb' : ∀ a ∈ before, ¬ a.isResetDone = true := fun a ha => by simpa using hb a ha
    refine ⟨before, ?_, ?_, .inr hp⟩ <;>
      simp [List.eraseP_append_right _ hb', List.eraseP_cons_of_pos hp]
  · split at h
    · cases h
    · simp only [Option.some.injEq, Prod.mk.injEq] at h
      obtain ⟨rfl, rfl⟩ := h
      exact ⟨[], by simp⟩

/-- With no RESET_DONE waiting the front notice is next (R186). -/
theorem nextNotice_front (n : Notice) (rest : List Notice) (h : ∀ m ∈ n :: rest, m.isResetDone = false) :
    nextNotice (n :: rest) = some (n, rest) := by
  have : (n :: rest).find? Notice.isResetDone = none := by simpa using h
  simp [nextNotice, this]

/-- A frame being sent goes on being sent. -/
@[simp] theorem transmit_busy (s : State) (h : s.link.tx.isSome = true) : transmit s = s := by simp [transmit, h]

/-- A reply in the slot is begun at once by a free transmitter. -/
theorem transmit_reply (s : State) (f : Frame) (hr : s.resetAsserted = false) (ht : s.link.tx = none)
    (h : s.link.replySlot = some f) : transmit s = { s with link := { s.link with tx := some (.reply, f) } } := by
  simp [transmit, Link.choose, hr, ht, h]

/-- With the line taken a raised notice enters the queue (R185). -/
theorem raiseNotice_busy (n : Notice) (s : State) (h : s.link.tx.isSome = true) :
    raiseNotice n s = { s with link := { s.link with notices := noticesWith s.link.notices n } } :=
  transmit_busy { s with link := { s.link with notices := noticesWith s.link.notices n } } h

/-- At an idle line a raised notice is sent at once (R186). -/
theorem raiseNotice_idle (n : Notice) (s : State) (hr : s.resetAsserted = false) (hp : s.link.resetPending = false)
    (ht : s.link.tx = none) (h1 : s.link.replySlot = none) (h2 : s.link.busySlot = none) (hq : s.link.notices = []) :
    raiseNotice n s = setTx (some (.notice, n.frame)) s := by
  cases n <;>
    simp [raiseNotice, transmit, Link.choose, noticesWith, nextNotice, Notice.isResetDone, Notice.isFault, hr, hp, ht, h1,
      h2, hq, setTx]

/-- A request that is taken is decided by its block with the line kept for its reply, which is placed (R178 to R180). -/
theorem request_taken (kind tag : Byte) (d : State → State × Reply) (s : State) (h : s.takesRequests) :
    request kind tag d s = (inRequest (fun u => (d u).1) s).answered kind tag (d (keepLine s)).2 := by
  obtain ⟨h1, h2, h3⟩ := h
  simp [request, h1, h2, h3, State.answered]

/-- A request that finds its reply slot full is answered BUSY or dropped (R179). -/
theorem request_busy (kind tag : Byte) (d : State → State × Reply) (s : State) (f : Frame)
    (hr : s.resetAsserted = false) (hp : s.link.resetPending = false) (h : s.link.replySlot = some f) :
    request kind tag d s = if s.link.busySlot.isSome then s else
      { s with link := { s.link with busySlot := some (replyFrame kind tag ⟨.busy, []⟩) } } := by
  simp [request, hr, hp, h]

/-- A request in a held or pending reset is not taken (R187). -/
theorem request_reset (kind tag : Byte) (d : State → State × Reply) (s : State)
    (h : s.resetAsserted = true ∨ s.link.resetPending = true) : request kind tag d s = s := by
  simp [request, h]

@[simp] theorem live_running (f : State → State) (s : State) (h : s.resetAsserted = false) : live f s = f s := by
  simp [live, h]
@[simp] theorem live_held (f : State → State) (s : State) (h : s.resetAsserted = true) : live f s = s := by
  simp [live, h]
@[simp] theorem finish_eq (s : State) : finish s = .next (transmit s) := rfl

/-! ## The Speed Governor -/

theorem recompute_gov (s : State) : SameButGov s (recompute s) := ⟨_, rfl⟩
theorem haltGov_gov (s : State) : SameButGov s (haltGov s) := ⟨_, rfl⟩
theorem stopAtOnce_gov (s : State) : SameButGov s (stopAtOnce s) := ⟨_, rfl⟩
theorem releaseDrive_gov (s : State) : SameButGov s (releaseDrive s) := ⟨_, rfl⟩

theorem startOrder_gov (p : Purpose) (c : List Nat) (s : State) : SameButGov s (startOrder p c s) := by
  unfold startOrder; split
  · exact .rfl' s
  · split
    · exact ⟨_, rfl⟩
    · exact ⟨_, rfl⟩
    · exact ⟨_, rfl⟩
    · split <;> exact ⟨_, rfl⟩

theorem jogBegin_gov (s : State) : SameButGov s (jogBegin s) := by
  unfold jogBegin; split
  · exact .rfl' s
  · exact ⟨_, rfl⟩

theorem jogEnd_gov (s : State) : SameButGov s (jogEnd s) := by
  unfold jogEnd; split
  · exact ⟨_, rfl⟩
  · exact .rfl' s

theorem parkOrder_gov (s : State) : SameButGov s (parkOrder s).1 := by
  unfold parkOrder; split
  · exact .rfl' s
  · split
    · exact .rfl' s
    · split
      · split <;> exact ⟨_, rfl⟩
      all_goals exact ⟨_, rfl⟩

theorem stopAngleGov_gov (s : State) : SameButGov s (stopAngleGov s) := by
  unfold stopAngleGov; split
  · exact ⟨_, rfl⟩
  · exact .rfl' s

theorem stoppedGov_gov (s : State) : SameButGov s (stoppedGov s).1 := by
  unfold stoppedGov; split
  · exact .rfl' s
  · split
    · exact ⟨_, rfl⟩
    · split <;> exact ⟨_, rfl⟩
  · exact ⟨_, rfl⟩

theorem judgeLock_gov (s : State) : SameButGov s (judgeLock s) := by
  unfold judgeLock; simp only; split <;> exact ⟨_, rfl⟩

theorem applyDemand_gov (s : State) : SameButGov s (applyDemand s) := by
  unfold applyDemand; simp only; split <;> exact ⟨_, rfl⟩

theorem armPark_gov (s : State) : SameButGov s (armPark s) := by
  unfold armPark; split
  · exact ⟨_, rfl⟩
  · exact .rfl' s

theorem indexGov_gov (measured : Bool) (s : State) : SameButGov s (indexGov measured s) := by
  unfold indexGov; simp only; split
  · refine (recompute_gov s).trans (.trans ?_ (armPark_gov _))
    split
    · exact (judgeLock_gov _).trans (applyDemand_gov _)
    · exact applyDemand_gov _
  · exact recompute_gov s

theorem replayFormed_gov (s : State) : SameButGov s (replayFormed s) := ⟨_, rfl⟩

/-! ## Modes, stops and the Fault Record -/

theorem setMode_stop (m : Mode) (p : Option StopPurpose) (k : Option StopKind) (why : Reason) (s : State) :
    SameButStop s (setMode m p k why s) := by
  unfold setMode; simp only
  have h : SameButStop s (if s.line.effective = .threading ∧ m ≠ .threading then jogEnd s else s) := by
    split
    · exact (jogEnd_gov s).stop
    · exact .rfl' s
  split <;> exact h.trans ⟨_, _, _, _, rfl⟩

/-- The mode a change of mode gives, with its purpose, its kind and the permission of that mode (R145, R146). -/
theorem setMode_line (m : Mode) (p : Option StopPurpose) (k : Option StopKind) (why : Reason) (s : State) :
    (setMode m p k why s).line = s.line.inMode m p k := by
  have h : ∀ t : State, (jogEnd t).line = t.line := fun t => by
    obtain ⟨g, e⟩ := jogEnd_gov t; rw [e]
  unfold setMode; simp only
  split <;> (split <;> simp [h])

theorem enterFaulted_stop (why : Reason) (s : State) : SameButStop s (enterFaulted why s) := by
  unfold enterFaulted; simp only
  split
  · exact (setMode_stop ..).trans ⟨_, _, _, _, rfl⟩
  · exact setMode_stop ..

theorem reachStop_stop (why : Reason) (s : State) : SameButStop s (reachStop why s) := by
  unfold reachStop; split
  · split
    · exact setMode_stop ..
    · exact enterFaulted_stop ..
    · exact .rfl' s
  · exact .rfl' s

theorem stitchStop_stop (why : Reason) (s : State) : SameButStop s (stitchStop why s) := by
  unfold stitchStop; split
  · exact .rfl' s
  · split
    · exact .rfl' s
    · split
      · exact reachStop_stop ..
      · simp only; split
        · exact (parkOrder_gov s).stop.trans (reachStop_stop ..)
        · exact (parkOrder_gov s).stop

theorem freeze_stop (s : State) : SameButStop s (freeze s) := ⟨_, _, _, _, rfl⟩

theorem stopNow_stop (why : Reason) (s : State) : SameButStop s (stopNow why s) := by
  have h : SameButStop s (stopAtOnce (freeze s)) := (freeze_stop s).trans (stopAtOnce_gov _).stop
  unfold stopNow; simp only; split
  · exact h.trans (reachStop_stop ..)
  · exact h

theorem faultStop_stop (k : StopKind) (s : State) : SameButStop s (faultStop k s) := by
  unfold faultStop; simp only; split
  · exact (setMode_stop ..).trans (stopNow_stop ..)
  · exact (setMode_stop ..).trans (stitchStop_stop ..)

theorem faultAction_stop (act : FaultAction) (s : State) : SameButStop s (faultAction act s) := by
  have h : SameButStop s (if act.stopKind = .atOnce then stopAtOnce (freeze s) else s) := by
    split
    · exact (freeze_stop s).trans (stopAtOnce_gov _).stop
    · exact .rfl' s
  unfold faultAction; split
  · exact .rfl' s
  · refine h.trans ?_
    simp only
    generalize (if act.stopKind = .atOnce then stopAtOnce (freeze s) else s) = t
    split
    · exact enterFaulted_stop ..
    · exact enterFaulted_stop ..
    · exact enterFaulted_stop ..
    · exact .rfl' _
    · exact faultStop_stop ..
    · exact faultStop_stop ..
    · split
      · split
        · exact faultStop_stop ..
        · exact .rfl' _
      · exact faultStop_stop ..
      · exact faultStop_stop ..

/-- Handing over a source (R157) writes only the Fault Record, the modes, the drive, the moves and the Notice Queue. -/
theorem latch_stop (src : FaultSource) (ref : Option Ref) (s : State) : SameButStop s (latch src ref s) := by
  unfold latch; split
  · exact .rfl' s
  · refine .trans ?_ (faultAction_stop ..)
    simp only
    split
    · exact .trans ⟨_, _, _, _, rfl⟩ (recompute_gov _).stop
    · exact ⟨_, _, _, _, rfl⟩

/-! ## The needle bars -/

theorem setBar_bars (b : Bar) (r : BarRec) (s : State) : SameButBars s (setBar b r s) := by
  unfold setBar; simp only
  split
  · exact ⟨_, _, rfl⟩
  · split <;> exact ⟨_, _, rfl⟩

/-- A bar's record written: that bar reads it back, the change in hand and every other bar stand. -/
theorem setBar_get (b b' : Bar) (r : BarRec) (s : State) :
    (setBar b r s).bars.get b' = if b' = b then r else s.bars.get b' := by
  have h : (setBar b r s).bars = s.bars.put b r := by
    unfold setBar; simp only
    split
    · rfl
    · split <;> rfl
  rw [h]; cases b <;> cases b' <;> rfl

theorem confirmBar_bars (b : Bar) (s : State) : SameButBars s (confirmBar b s) := by
  unfold confirmBar; simp only
  split
  · split
    · exact setBar_bars ..
    · exact .rfl' s
  · split
    · exact setBar_bars ..
    · exact .rfl' s
  · exact .rfl' s

theorem energizeBar_bars (b : Bar) (s : State) : SameButBars s (energizeBar b s) := by
  unfold energizeBar; simp only
  split
  · exact (setBar_bars ..).trans (confirmBar_bars ..)
  · exact (setBar_bars ..).trans (confirmBar_bars ..)
  · exact .rfl' s

theorem startBarSequence_bars (b : Bar) (down : Bool) (s : State) : SameButBars s (startBarSequence b down s) := by
  unfold startBarSequence; simp only
  split
  · exact (setBar_bars ..).trans (energizeBar_bars ..)
  · exact setBar_bars ..

theorem beginBar_bars (b : Bar) (down : Bool) (s : State) : SameButBars s (beginBar b down s) := by
  unfold beginBar; simp only
  split
  · exact .rfl' s
  · split
    · exact setBar_bars ..
    · split
      · exact .rfl' s
      · exact startBarSequence_bars ..

theorem beginBars_bars (c : Change) (s : State) : SameButBars s (beginBars c s) := by
  unfold beginBars
  generalize c.kind.bars = bs
  induction bs generalizing s with
  | nil => exact .rfl' s
  | cons b bs ih => exact (beginBar_bars ..).trans (ih _)

theorem beginChange_bars (kind : ChangeKind) (target : BarSet) (s : State) :
    SameButBars s (beginChange kind target s) := by
  unfold beginChange; split
  · exact .trans ⟨_, _, rfl⟩ (beginBars_bars ..)
  · exact ⟨_, _, rfl⟩

theorem askRestore_bars (target : BarSet) (s : State) : SameButBars s (askRestore target s).1 := by
  unfold askRestore; split
  · exact ⟨_, _, rfl⟩
  · simp only; split
    · exact (beginChange_bars ..).trans ⟨_, _, rfl⟩
    · exact beginChange_bars ..

theorem estopBars_bars (s : State) : SameButBars s (estopBars s) :=
  (((setBar_bars ..).trans (setBar_bars ..)).trans (setBar_bars ..)).trans ⟨_, _, rfl⟩

/-! ## The schedule and the Plan Queue -/

/-- Appending a record (R41) writes only the Planner, keeps what is queued in front, and adds at most one record. -/
theorem appendRecord_frame (s : State) :
    ∃ more c, appendRecord s = { s with planner := { s.planner with queue := s.planner.queue ++ more, cursor := c } }
      ∧ more.length ≤ 1 ∧ (s.planner.queue.length ≤ 8 → s.planner.queue.length + more.length ≤ 8) := by
  unfold appendRecord
  split
  · exact ⟨[], s.planner.cursor, by simp, by simp, by simp⟩
  · split
    · exact ⟨[], s.planner.cursor, by simp, by simp, by simp⟩
    · rename_i h
      split
      · exact ⟨[], s.planner.cursor, by simp, by simp, by simp⟩
      · exact ⟨_, _, rfl, by simp, fun _ => by simp [Config.queueCapacity] at h ⊢; omega⟩

/-- Removing the head (R37) writes the Planner and the demand, and keeps the rest of the queue in front. -/
theorem removeHead_frame (s : State) :
    ∃ p g, removeHead s = { s with planner := p, gov := { s.gov with demand := g } } ∧ s.planner.queue.tail <+: p.queue
      ∧ p.headBegun = false := by
  obtain ⟨more, c, h, -, -⟩ :=
    appendRecord_frame { s with planner := { s.planner with queue := s.planner.queue.tail, headBegun := false } }
  refine ⟨_, _, by rw [removeHead, h]; rfl, ?_, ?_⟩ <;> simp [List.prefix_append]

/-- A beginning record (R29 to R31) writes the Planner's mark of it, the order, the history and the link. -/
theorem recordBegun_frame (r : PlanRecord) (s : State) :
    ∃ c h k, recordBegun r s = { s with
      planner := { s.planner with headBegun := true }, schedule := c, line := { s.line with history := h }
      link := k } := by
  unfold recordBegun
  split
  · rename_i h
    exact ⟨s.schedule, s.line.history, s.link, by rw [← h]⟩
  · simp only
    split
    · exact ⟨_, _, _, rfl⟩
    · split <;> exact ⟨_, _, _, rfl⟩

/-! ## The resume sequence (R148) -/

theorem setStep_line' (r : ResumeStep) (s : State) : SameButLine s (setStep r s) := ⟨_, _, _, _, _, _, _, _, rfl⟩

theorem testResume_line (s : State) : SameButLine s (testResume s) := by
  unfold testResume
  split
  · exact .rfl' s
  · split
    · unfold emitBurst burstPeriod
      simp only
      split
      · exact ⟨_, _, _, _, _, _, _, _, rfl⟩
      · split <;> exact ⟨_, _, _, _, _, _, _, _, rfl⟩
    · exact .rfl' s

theorem enterRunning_line (why : Reason) (p : Purpose) (c : List Nat) (s : State) :
    SameButLine s (enterRunning why p c s) :=
  ((setMode_stop ..).trans (startOrder_gov ..).stop).line.trans (testResume_line _)

theorem completeRecordChange_line (s : State) : SameButLine s (completeRecordChange s) := by
  obtain ⟨p, g, h, -, -⟩ := removeHead_frame (dropChange s)
  rw [completeRecordChange, h]
  exact ⟨_, _, _, _, _, _, _, _, rfl⟩

theorem headStepBase_line (s : State) : SameButLine s (headStepBase s) := by
  unfold headStepBase; simp only
  split
  · exact (setStep_line' _ s).trans (enterRunning_line ..)
  · exact setStep_line' _ s

theorem restoreStepBase_line (s : State) : SameButLine s (restoreStepBase s) := by
  unfold restoreStepBase
  split
  · exact headStepBase_line s
  · have h := (setStep_line' .restore s).trans (askRestore_bars ‹Stitch›.bars (setStep .restore s)).line
    simp only; split
    · exact h.trans (headStepBase_line _)
    · exact h

theorem headStep_line (s : State) : SameButLine s (headStep s) := by
  unfold headStep
  split
  · split
    · have h := (setStep_line' .none s).trans (beginChange_bars .record ‹BarSet› (setStep .none s)).line
      simp only; split
      · exact (h.trans (completeRecordChange_line _)).trans (restoreStepBase_line _)
      · exact h
    · exact headStepBase_line s
  · exact headStepBase_line s

theorem restoreStep_line (s : State) : SameButLine s (restoreStep s) := by
  unfold restoreStep
  split
  · exact headStep_line s
  · have h := (setStep_line' .restore s).trans (askRestore_bars ‹Stitch›.bars (setStep .restore s)).line
    simp only; split
    · exact h.trans (headStep_line _)
    · exact h

theorem startReplay_line (s : State) : SameButLine s (startReplay s) :=
  .trans ⟨_, _, _, _, _, _, _, _, rfl⟩ (enterRunning_line ..)

theorem replayStep_line (s : State) : SameButLine s (replayStep s) := by
  unfold replayStep
  split
  · exact restoreStep_line s
  · have h := (setStep_line' .replay s).trans (askRestore_bars ‹Stitch›.bars (setStep .replay s)).line
    simp only; split
    · exact h.trans (startReplay_line _)
    · exact h

theorem backMoveStep_line (s : State) : SameButLine s (backMoveStep s) := by
  unfold backMoveStep
  split
  · split
    · exact setStep_line' _ s
    · split
      · exact .trans ⟨_, _, _, _, _, _, _, _, rfl⟩ (replayStep_line _)
      · exact ⟨_, _, _, _, _, _, _, _, rfl⟩
  · exact replayStep_line s

theorem startFrozen_line (s : State) : SameButLine s (startFrozen s) := by
  unfold startFrozen
  split
  · exact .rfl' s
  · split
    · exact enterRunning_line ..
    · exact startReplay_line s

theorem frozenStep_line (s : State) : SameButLine s (frozenStep s) := by
  unfold frozenStep
  split
  · exact backMoveStep_line s
  · rename_i b _
    have h := (setStep_line' .frozen s).trans (askRestore_bars b.stitch.bars (setStep .frozen s)).line
    simp only; split
    · exact h.trans (startFrozen_line _)
    · exact h

/-- A step of the resume sequence (R148) writes no pin, parameter, pattern, order, shaft figure or audit. -/
theorem takeStep_line (s : State) : SameButLine s (takeStep s) := by
  unfold takeStep
  split
  · exact frozenStep_line s
  · exact frozenStep_line s
  · exact backMoveStep_line s
  · exact replayStep_line s
  · exact restoreStep_line s
  · exact restoreStep_line s
  · exact restoreStep_line s

theorem parkDone_line (s : State) : SameButLine s (parkDone s) := by
  unfold parkDone
  split
  · split
    · exact (setMode_stop ..).line.trans (takeStep_line _)
    · exact (setMode_stop ..).line.trans (takeStep_line _)
    · exact (reachStop_stop ..).line
  · exact .rfl' s

theorem orderPark_line (s : State) : SameButLine s (orderPark s) := by
  unfold orderPark; simp only
  split
  · exact (parkOrder_gov s).line.trans (parkDone_line _)
  · exact (parkOrder_gov s).line

theorem stopForRecord_line (p : StopPurpose) (s : State) : SameButLine s (stopForRecord p s) :=
  (setMode_stop ..).line.trans (orderPark_line _)

/-- The end of a resume step (R148) writes the resume step alone. -/
theorem endStep_line (e : Bool) (s : State) : SameButLine s (endStep e s) := by
  unfold endStep; split
  · exact setStep_line' .none s
  · exact .rfl' s

theorem watch_line (e : Bool) (s : State) : SameButLine s (watch e s) := by
  unfold watch
  split
  · split
    · exact .rfl' s
    · split
      · split
        · exact stopForRecord_line ..
        · exact .rfl' s
      · exact stopForRecord_line ..
  · exact .rfl' s

theorem beginResume_line (why : Reason) (s : State) : SameButLine s (beginResume why s) :=
  ((setStep_line' _ s).trans (setMode_stop ..).line).trans (orderPark_line _)

theorem carryHold_stop (k : StopKind) (s : State) : SameButStop s (carryHold k s) := by
  unfold carryHold
  split
  · exact stopNow_stop ..
  · split
    · exact .rfl' s
    · exact stitchStop_stop ..
  · exact stitchStop_stop ..

/-- A hold (R152, R153) writes only the modes, the drive, the moves it freezes and the Notice Queue. -/
theorem beginHold_stop (kind : HoldKind) (origin : HoldOrigin) (why : Reason) (s : State) :
    SameButStop s (beginHold kind origin why s) := by
  unfold beginHold
  exact (SameButStop.trans ⟨_, _, _, _, rfl⟩ (setMode_stop ..)).trans (carryHold_stop ..)

/-! ## The Travel Audit -/

/-- The end of an audit (R172, R173, R169) writes the audit and what handing over FEED_SLIP writes. -/
theorem endAudit_frame (cause : EndCause) (s : State) :
    ∃ a g m l k, endAudit cause s = { s with audit := a, gov := g, motion := m, line := l, link := k } := by
  unfold endAudit; simp only
  split
  · obtain ⟨g, m, l, k, h⟩ := latch_stop .feedSlip none (raiseNotice (.auditDone (s.auditRecord cause).number
      (s.auditRecord cause).cause (s.auditRecord cause).verdict (s.auditRecord cause).driveSlip
      (s.auditRecord cause).materialSlip) { s with audit := { s.audit with
        state := .done, resultNumber := (s.auditRecord cause).number, last := some (s.auditRecord cause) } })
    rw [h]
    split <;> exact ⟨_, _, _, _, _, rfl⟩
  · split <;> exact ⟨_, _, _, _, _, rfl⟩

/-- Pulses handed to the audit (R171) write what the end of an audit writes. -/
theorem addCmd_frame (n : Nat) (s : State) :
    ∃ a g m l k, addCmd n s = { s with audit := a, gov := g, motion := m, line := l, link := k } := by
  unfold addCmd
  split
  · unfold endAtLimit; simp only
    split
    · obtain ⟨a, g, m, l, k, h⟩ := endAudit_frame .cmd
        { s with audit := { s.audit with cCmd := min auditLimit (s.audit.cCmd + n) } }
      exact ⟨a, g, m, l, k, by rw [h]⟩
    · exact ⟨_, _, _, _, _, rfl⟩
  · exact ⟨s.audit, s.gov, s.motion, s.line, s.link, rfl⟩

/-! ## The schedule's low-water judgement -/

/-- QUEUE_LOW (R34) writes only the armed flag and the link. -/
theorem judgeQueue_frame (before : Nat) (s : State) :
    ∃ a k, judgeQueue before s = { s with
      schedule := { s.schedule with armed := a }, link := k } := by
  unfold judgeQueue; simp only
  split
  · split <;> exact ⟨_, _, rfl⟩
  · split <;> exact ⟨_, _, rfl⟩

end Sys2Proof.Machine
end

