-- ==== Sys2Proof/Laws/SegMem.lean ====
section
/-! SUPPORT. Laws of segment memory (R1): what a read gives after a write and after a clear, and that every operation
keeps the canonical form. -/

namespace Sys2Proof.Machine

@[simp] theorem SegMem.read_nil (a : Nat) : SegMem.read [] a = none := rfl

theorem SegMem.read_cons (b : Nat) (x : Segment) (m : SegMem) (a : Nat) :
    SegMem.read ((b, x) :: m) a = if a = b then some x else SegMem.read m a := rfl

/-- A read of the place just written gives what was written. -/
@[simp] theorem SegMem.read_write_same (m : SegMem) (a : Nat) (x : Segment) :
    SegMem.read (SegMem.write m a x) a = some x := by
  induction m with
  | nil => simp [SegMem.write, SegMem.read]
  | cons c rest ih =>
    obtain ⟨b, y⟩ := c
    by_cases h : a < b
    · simp [SegMem.write, SegMem.read, h]
    · by_cases e : a = b <;> simp [SegMem.write, SegMem.read, h, e, ih]

/-- A write leaves every other place alone. -/
theorem SegMem.read_write_other (m : SegMem) {a c : Nat} (x : Segment) (h : c ≠ a) :
    SegMem.read (SegMem.write m a x) c = SegMem.read m c := by
  induction m with
  | nil => simp [SegMem.write, SegMem.read, h]
  | cons d rest ih =>
    obtain ⟨b, y⟩ := d
    by_cases l : a < b
    · simp [SegMem.write, SegMem.read, l, h]
    · by_cases e : a = b
      · subst e; simp [SegMem.write, SegMem.read, h]
      · simp [SegMem.write, SegMem.read, l, e, ih]

/-- A cleared place reads as empty; every other place is left alone. -/
theorem SegMem.read_clear (m : SegMem) (lo hi a : Nat) :
    SegMem.read (SegMem.clear m lo hi) a = if lo ≤ a ∧ a < hi then none else SegMem.read m a := by
  induction m with
  | nil => simp [SegMem.clear, SegMem.read]
  | cons d rest ih =>
    obtain ⟨b, y⟩ := d
    simp only [SegMem.clear, List.filter_cons] at ih ⊢
    by_cases c : lo ≤ b ∧ b < hi
    · simp only [c, decide_true, Bool.and_self, Bool.not_true, Bool.false_eq_true, if_false, ih, SegMem.read_cons]
      by_cases e : a = b
      · subst e; simp [c]
      · simp [e]
    · have : (!(decide (lo ≤ b) && decide (b < hi))) = true := by
        simp only [Bool.not_eq_true', Bool.and_eq_false_iff, decide_eq_false_iff_not]; omega
      simp only [this, if_true, SegMem.read_cons, ih]
      by_cases e : a = b
      · subst e; simp [c]
      · simp [e]

/-- The canonical form as addresses: strictly rising and inside the 16 areas. -/
theorem SegMem.wf_iff (m : SegMem) :
    SegMem.wf m = true ↔ (m.map Prod.fst).Pairwise (· < ·) ∧ ∀ c ∈ m, c.1 < 4096 := by
  induction m with
  | nil => simp [SegMem.wf]
  | cons c rest ih =>
    obtain ⟨a, x⟩ := c
    cases rest with
    | nil => simp [SegMem.wf]
    | cons d more =>
      obtain ⟨b, y⟩ := d
      simp only [SegMem.wf, Bool.and_eq_true, decide_eq_true_eq, ih]
      simp only [List.map_cons, List.pairwise_cons, List.mem_cons, List.mem_map, forall_eq_or_imp, forall_exists_index,
        and_imp, forall_apply_eq_imp_iff₂]
      constructor
      · rintro ⟨h, ⟨h1, h2⟩, h3, h4⟩
        exact ⟨⟨⟨h, fun p hp => lt_trans h (h1 p hp)⟩, h1, h2⟩, by omega, h3, h4⟩
      · rintro ⟨⟨⟨h, _⟩, h1, h2⟩, _, h3, h4⟩
        exact ⟨h, ⟨h1, h2⟩, h3, h4⟩

/-- The places after a write. -/
theorem SegMem.mem_write {m : SegMem} {a : Nat} {x : Segment} {c : Nat × Segment}
    (h : c ∈ SegMem.write m a x) : c = (a, x) ∨ c ∈ m := by
  induction m with
  | nil => simpa [SegMem.write] using h
  | cons d rest ih =>
    obtain ⟨b, y⟩ := d
    simp only [SegMem.write] at h
    split at h
    · simpa using h
    · split at h
      · rcases List.mem_cons.1 h with h | h
        · exact .inl h
        · exact .inr (List.mem_cons_of_mem _ h)
      · rcases List.mem_cons.1 h with h | h
        · exact .inr (by simp [h])
        · exact (ih h).imp id (List.mem_cons_of_mem _)

/-- A write inside the memory keeps the canonical form. -/
theorem SegMem.wf_write {m : SegMem} {a : Nat} (x : Segment) (h : SegMem.wf m = true) (ha : a < 4096) :
    SegMem.wf (SegMem.write m a x) = true := by
  rw [SegMem.wf_iff] at h ⊢
  refine ⟨?_, fun c hc => ?_⟩
  · obtain ⟨h, -⟩ := h
    induction m with
    | nil => simp [SegMem.write]
    | cons d rest ih =>
      obtain ⟨b, y⟩ := d
      simp only [List.map_cons, List.pairwise_cons] at h
      simp only [SegMem.write]
      split
      · rename_i l
        simp only [List.map_cons, List.pairwise_cons, List.mem_cons, forall_eq_or_imp]
        exact ⟨⟨l, fun p hp => lt_trans l (h.1 p hp)⟩, h⟩
      · split
        · rename_i e
          simp only [List.map_cons, List.pairwise_cons]
          exact ⟨fun p hp => e ▸ h.1 p hp, h.2⟩
        · rename_i l e
          simp only [List.map_cons, List.pairwise_cons, List.mem_map]
          refine ⟨?_, ih h.2⟩
          rintro p ⟨c, hc, rfl⟩
          rcases SegMem.mem_write hc with rfl | hc
          · show b < a; omega
          · exact h.1 _ (List.mem_map.2 ⟨c, hc, rfl⟩)
  · rcases SegMem.mem_write hc with rfl | hc
    · exact ha
    · exact h.2 c hc

/-- A clear keeps the canonical form. -/
theorem SegMem.wf_clear {m : SegMem} (lo hi : Nat) (h : SegMem.wf m = true) : SegMem.wf (SegMem.clear m lo hi) = true := by
  rw [SegMem.wf_iff] at h ⊢
  refine ⟨?_, fun c hc => h.2 c (List.mem_filter.1 hc).1⟩
  exact h.1.sublist (List.Sublist.map _ List.filter_sublist)

/-- A run written inside the memory keeps the canonical form. -/
theorem SegMem.wf_writeRun {m : SegMem} {a : Nat} (xs : List Segment) (h : SegMem.wf m = true)
    (ha : a + xs.length ≤ 4096) : SegMem.wf (SegMem.writeRun m a xs) = true := by
  induction xs generalizing m a with
  | nil => exact h
  | cons x xs ih =>
    simp only [List.length_cons] at ha
    exact ih (SegMem.wf_write x h (by omega)) (by omega)

/-- A run leaves the places outside it alone. -/
theorem SegMem.read_writeRun_other (m : SegMem) (a : Nat) (xs : List Segment) (c : Nat)
    (h : c < a ∨ a + xs.length ≤ c) : SegMem.read (SegMem.writeRun m a xs) c = SegMem.read m c := by
  induction xs generalizing m a with
  | nil => rfl
  | cons x xs ih =>
    simp only [List.length_cons] at h
    rw [SegMem.writeRun, ih _ _ (by omega), SegMem.read_write_other _ _ (by omega)]

/-- A run puts its records at its places. -/
theorem SegMem.read_writeRun (m : SegMem) (a : Nat) (xs : List Segment) (k : Nat) (x : Segment) (h : xs[k]? = some x) :
    SegMem.read (SegMem.writeRun m a xs) (a + k) = some x := by
  induction xs generalizing m a k with
  | nil => simp at h
  | cons y ys ih =>
    cases k with
    | zero =>
      simp only [List.getElem?_cons_zero, Option.some.injEq] at h
      subst h
      rw [SegMem.writeRun, SegMem.read_writeRun_other _ _ _ _ (by omega)]
      exact SegMem.read_write_same m a y
    | succ k =>
      rw [SegMem.writeRun, show a + (k + 1) = a + 1 + k by omega]
      exact ih _ _ _ (by simpa using h)

/-- Segment memory has its canonical form right after reset. -/
theorem SegMem.wf_reset : SegMem.wf State.reset.store.segMem = true := rfl

end Sys2Proof.Machine
end

