-- ==== Sys2Proof/Tests/Slice0.lean ====
section
/-! SUPPORT. The writer's own tests: terms that WellFormed refuses; the manual's worked cases and tables, with their
section; and for every statement with hypotheses a concrete state and operands that meet them, clause by clause. -/

namespace Sys2Proof.Machine

/- One proof is checked at a time: many kernel evaluations at once ask for more threads than the memory limit gives. -/
set_option Elab.async false

/-! ## Ill-formed commands are refused -/

theorem test_setParams_without_pairs_refused : (Instr.setParams 1 []).wellFormed = false := by decide
theorem test_setParams_41_pairs_refused : (Instr.setParams 1 (List.replicate 41 (1, 0))).wellFormed = false := by decide
theorem test_setParams_40_pairs_accepted : (Instr.setParams 1 (List.replicate 40 (1, 0))).wellFormed = true := by decide
theorem test_getParams_41_ids_refused : (Instr.getParams 1 (List.replicate 41 1)).wellFormed = false := by decide
theorem test_patternAdd_without_records_refused : (Instr.patternAdd 1 0 []).wellFormed = false := by decide
theorem test_patternAdd_29_records_refused : (Instr.patternAdd 1 0 (List.replicate 29 0)).wellFormed = false := by decide
theorem test_frame_of_241_bytes_refused :
    (Instr.frameReceived 1 1 (List.replicate 241 0)).wellFormed = false := by decide +kernel

/-- No row of the opcode table has bits, so no word spells a command, and withFetchWord leaves the state alone. -/
theorem test_no_word_spells_a_command : decodeTableWord 8 0 = none := rfl

/-! ## The manual's worked cases -/

/-- 11.1, R176: the nine bytes 0x31 to 0x39 give the CRC 0x29B1. -/
theorem test_crc_check_value : crc [0x31, 0x32, 0x33, 0x34, 0x35, 0x36, 0x37, 0x38, 0x39] = 0x29B1 := by decide +kernel

/-- 3.4.1: D = 134, N = 5 and the Y steps of the run (125, −48). -/
theorem test_case_3_4_1 :
    stitchLength 125 (-48) = 134 ∧ stitchCount 125 (-48) 30 40 60 = 5
    ∧ (List.range 5).map (fun i => stitchStep (-48) 5 (i + 1)) = [-10, -9, -10, -9, -10] := by decide +kernel

/-- 3.4.2: a tie, in both directions, and a cap that dominates. -/
theorem test_case_3_4_2 :
    (List.range 2).map (fun i => stitchStep (-5) 2 (i + 1)) = [-3, -2]
    ∧ (List.range 2).map (fun i => stitchStep 5 2 (i + 1)) = [3, 2]
    ∧ stitchCount 200 10 80 40 60 = 5 ∧ stitchCount 0 250 30 40 60 = 9 := by decide +kernel

/-- 3.4.3: D = 364 and N = 15 for (−350, 100) at length 25; the first two records carry (−23, 7) and (−24, 6). -/
theorem test_case_3_4_3 :
    stitchLength (-350) 100 = 364 ∧ stitchCount (-350) 100 25 40 60 = 15
    ∧ stitchStep (-350) 15 1 = -23 ∧ stitchStep 100 15 1 = 7
    ∧ stitchStep (-350) 15 2 = -24 ∧ stitchStep 100 15 2 = 6 := by decide +kernel

/-- 3.5.1: the ceiling 1171 of a step of 25 pu, the cap of 900, and a TACK's line_max. -/
theorem test_case_3_5_1 :
    ceilingOf { Params.default with lineMax := 1500 } 1536 0 25 (-10) = 1171
    ∧ ceilingOf Params.default 1536 900 (-23) 7 = 900 ∧ ceilingOf Params.default 1536 0 0 0 = 1200 := by decide +kernel

/-- 3.5.2: the full-cap ceilings 732, 1302 and 61, and the guard refusing a creep of 80. -/
theorem test_case_3_5_2 :
    fullCapCeiling 40 8 84 1536 = 732 ∧ fullCapCeiling 60 4 63 1536 = 1302 ∧ fullCapCeiling 40 8 1000 1536 = 61
    ∧ guardFault { Params.default with iminX := 1000, creep := 80 } 1536 = some 0
    ∧ guardFault { Params.default with iminX := 1000 } 1536 = none := by decide +kernel

/-- 6.3.1 and 6.4.1: the intervals of a burst over a whole window, and over the part of it that is left. -/
theorem test_case_6_3_1 :
    burstInterval (usableTime 60000 1536) 200 84 = 98 ∧ burstInterval (usableTime 60000 1536) 52 63 = 378
    ∧ burstInterval (usableTime 100000 (forwardCounts 411 768)) 7 84 = 1089
    ∧ burstInterval (usableTime 100000 (forwardCounts 411 768)) 2 63 = 3812 := by decide +kernel

/-- R84's table of duties at line_max 1200. -/
theorem test_duty_table :
    [1200, 1171, 900, 63, 60].map (fun a => dutyOf a 1200) = [1000, 976, 750, 53, 50] := by decide +kernel

/-- 10.4.1: slips 2 and 21 and FAIL; the number after 6 is 7. -/
theorem test_case_10_4_1 :
    let r := State.auditRecord { State.reset with audit := ⟨.counting, 65535, 49020, 39990, 0, 6, none⟩ } .cmd
    r.tCmd = 16383 ∧ r.tRoll = 16340 ∧ r.tWheel = 15996 ∧ r.driveSlip = 2 ∧ r.materialSlip = 21 ∧ r.verdict = .fail
    ∧ r.number = 7 := by decide +kernel

/-- 10.4.2: audits a and b. -/
theorem test_case_10_4_2 :
    let a := State.auditRecord { State.reset with audit := ⟨.counting, 1800, 1352, 1120, 0, 0, none⟩ } .stop
    let b := State.auditRecord { State.reset with audit := ⟨.counting, 4000, 0, 0, 0, 65535, none⟩ } .stop
    a.verdict = .inconclusive ∧ a.tRoll = 450 ∧ a.driveSlip = 0
    ∧ b.verdict = .fail ∧ b.driveSlip = 1000 ∧ b.materialSlip = 0 ∧ b.number = 1 := by decide +kernel

/-- 4.4: W of the default timing set is 1536, and angle 0 lies inside its window. -/
theorem test_default_window : TimingSet.default.width = 1536 ∧ Shaft.reset.insideActive = true := by decide

/-- R65: SHA leads SHB forward; no change and a double change are no count. -/
theorem test_quadrature :
    countDirection (quadrature false false) (quadrature true false) = some .forward
    ∧ countDirection (quadrature true false) (quadrature false false) = some .reverse
    ∧ countDirection (quadrature true true) (quadrature true true) = none
    ∧ countDirection (quadrature true true) (quadrature false false) = none := by decide

/-- 12.2: the eight bytes 01 00 7D 00 D0 FF 1E 00 are STITCH (125, −48), len 30. -/
theorem test_segment_record : (match parseSegment 0x001EFFD0007D0001 with
    | .ok x => decide (x = .stitch 125 (-48) 30)
    | .error _ => false) = true := by decide +kernel

/-- 12.2: a len of 9 fails at offset 6, a tack of 7 at offset 2, a kind of 6 at offset 0. -/
theorem test_segment_record_refused :
    [0x00090000007D0001, 0x0000000000070005, 0x0000000000000006].map (fun w => match parseSegment w with
      | .ok _ => 99
      | .error k => k) = [6, 2, 0] := by decide +kernel

/-! ## The states of the witnesses -/

/-- The state a command leaves. -/
def tAfter (c : Instr) (s : State) : State :=
  match exec c s with
  | .next t => t
  | .fault _ => s
  | .refused _ => s

/-- The set {0, 1}. -/
def tBars : BarSet := ⟨true, true, false⟩

/-- Order 40 of the manual's example, on slot 4. -/
def tSpec : OrderSpec := ⟨40, 4, 2, 30, 1, 1200, 0, 200, 100, 300, false, true, ⟨true, true, true⟩⟩

def tActive : Order := ⟨tSpec, .active, .stitching, 1, 0, true⟩
def tQueued : Order := ⟨{ tSpec with orderId := 41 }, .queued, .markSearch, 0, 0, false⟩
def tRef : Ref := ⟨40, 1, 0, 0⟩
def tStitch : Stitch := ⟨25, 13, tBars, 1171, tRef⟩
def tStitchRec : PlanRecord := .stitch tStitch false

def tSlot : Slot := ⟨.ready, 0, 1, 2, 1000, 300, tBars, ⟨0, 200, 100, 200, 100, false⟩, 2⟩

def tStore : Store :=
  { slots := (List.replicate 16 Slot.empty).set 4 tSlot, segMem := [(0, .stitch 200 100 0), (1, .bars ⟨true, false, true⟩)] }

def tCursor : Cursor := ⟨tSpec, tSlot.atClose, .repeating, 1, 0, 2, 8, 0, tBars⟩

/-- A line at rest with order 40 ACTIVE, order 41 QUEUED, a stitch and an END planned, X known and both lower bars down. -/
def tO : State :=
  { State.reset with
    store := tStore, schedule := ⟨[tActive, tQueued], true⟩
    planner := ⟨[tStitchRec, .endMark tRef], some tCursor, false⟩
    motion := { Motion.reset with xKnown := true, x := 1000 }
    bars := ⟨⟨.down, true, false, false, false, .idle⟩, ⟨.down, true, false, false, false, .idle⟩,
      ⟨.up, false, true, false, false, .idle⟩, none⟩
    shaft := { Shaft.reset with angleValid := true } }

/-- The state with a mode. -/
def tMode (m : Mode) (s : State) : State := { s with line := { s.line with effective := m } }

/-- The state STOPPING for a purpose with a kind. -/
def tStopping (p : StopPurpose) (k : StopKind) (s : State) : State :=
  { s with line := { s.line with effective := .stopping, stopPurpose := some p, stopKind := some k } }

/-- The state with a head record and one more behind it. -/
def tHead (r : PlanRecord) (s : State) : State := { s with planner := { s.planner with queue := [r, .endMark tRef] } }

/-- The state with the shaft turning forward inside the default window, 100 counts after its opening. -/
def tTurning (s : State) : State :=
  { s with shaft := { s.shaft with
      position := -668, stopped := false, lastCount := some .forward, period := some 60000, speed := 1000
      window := ⟨true, 3328, 768, 0, false⟩ } }

/-- The state with no order. -/
def tNone : State := { tO with schedule := ⟨[], true⟩, planner := Planner.reset }

/-- A Governor driving for stitching. -/
def tDriving (s : State) : State :=
  { s with gov := { Gov.reset with
      state := .locked, purpose := some .stitching, released := true, demand := 1000, applied := 1000, inTol := 3 } }

/-- A burst of the head stitch with some pulses left. -/
def tBurst (x y : Nat) : Burst := ⟨false, .head, tStitch, false, ⟨x, true, 98, false⟩, ⟨y, true, 378, false⟩⟩

/-- A feed move of a record, MOVING. -/
def tFeed (st : FeedState) (x y : Nat) : Feed := ⟨st, .record, .first, false, ⟨x, true, 84, false⟩, ⟨y, true, 63, false⟩, false, false⟩

/-- The state with a burst in hand. -/
def tWithBurst (b : Burst) (s : State) : State := { s with motion := { s.motion with burst := some b } }

/-- The state with a feed move in hand. -/
def tWithFeed (f : Feed) (s : State) : State := { s with motion := { s.motion with feed := some f } }

/-- The state with a frame being sent. -/
def tSending (s : State) : State := { s with link := { s.link with tx := some (.notice, ⟨0x60, 0, [0]⟩) } }

/-- The state with a reply waiting. -/
def tReply (s : State) : State := { s with link := { s.link with replySlot := some ⟨0x93, 1, [0]⟩ } }

/-- The state with a BUSY reply waiting. -/
def tBusy (s : State) : State := { s with link := { s.link with busySlot := some ⟨0x93, 2, [1]⟩ } }

/-- The state with a source latched. -/
def tLatched (src : FaultSource) (act : FaultAction) (s : State) : State :=
  { s with line := { s.line with faults := ⟨[(src, act)], some src, none⟩ } }

/-! ## Witnesses: the machine and its invariants -/

theorem test_witness_StepTakesFrontCommand :
    { tO with pending := [.estopAsserted, .holdInput] }.pending = .estopAsserted :: [.holdInput] ∧ tO.pending = [] :=
  ⟨rfl, rfl⟩

set_option synthInstance.maxHeartbeats 400000 in
set_option synthInstance.maxSize 2000 in
theorem test_witness_PatternStoreShapeKept :
    StoreShape tO.store ∧ ∃ t, step { tO with pending := [.patternErase 1 3] } = .next t := by
  refine ⟨by decide +kernel, _, rfl⟩

theorem test_witness_ScheduleAndUseCountsKept :
    ScheduleShape { tO with pending := [.orderCancel 1 41] } ∧ ∃ t, step { tO with pending := [.orderCancel 1 41] } = .next t := by
  refine ⟨by decide +kernel, _, rfl⟩

theorem test_witness_PlanQueueFollowsActiveOrderKept :
    PlanShape { tO with pending := [.abortPanel 1] } ∧ ∃ t, step { tO with pending := [.abortPanel 1] } = .next t := by
  refine ⟨by decide +kernel, _, rfl⟩

theorem test_witness_NoticeKindsDistinctKept :
    NoticeShape { tO with pending := [.modeThread 1] }.link ∧ ∃ t, step { tO with pending := [.modeThread 1] } = .next t := by
  refine ⟨by decide +kernel, _, rfl⟩

theorem test_witness_GovernorStatesAgreeKept :
    GovShape (tDriving tO).gov ∧ ∃ t, step { tDriving tO with pending := [.stopped] } = .next t := by
  refine ⟨by decide +kernel, _, rfl⟩

theorem test_witness_UnknownXReadsZeroKept :
    MotionShape tO.motion ∧ ∃ t, step { tO with pending := [.homeX 1] } = .next t := by
  refine ⟨by decide +kernel, _, rfl⟩

set_option synthInstance.maxHeartbeats 400000 in
set_option synthInstance.maxSize 2000 in
theorem test_witness_ValvesInterlockedKept :
    BarsShape tO.bars ∧ ∃ t, step { tO with pending := [.barInputChange .b0 true false] } = .next t := by
  refine ⟨by decide +kernel, _, rfl⟩

theorem test_witness_LineFieldsAgreeWithModeKept :
    LineShape (tStopping .feed .park tO).line ∧ HistoryShape tO.line
    ∧ ∃ t, step { tStopping .feed .park tO with pending := [.holdInput] } = .next t := by
  refine ⟨by decide +kernel, by decide +kernel, _, rfl⟩

theorem test_witness_ParametersStayInRangeKept :
    ParamShape tO ∧ ∃ t, step { tO with pending := [.setParams 1 [(1, 2000)]] } = .next t := by
  refine ⟨by decide +kernel, _, rfl⟩

theorem test_witness_AuditCountersBoundedKept :
    AuditShape { Audit.reset with state := .counting, cRoll := 65534 }
    ∧ ∃ t, step { tO with audit := { Audit.reset with state := .counting, cRoll := 65534 }
                          pending := [.feedRollerEdge true false] } = .next t := by
  refine ⟨by decide +kernel, _, rfl⟩

theorem test_witness_ShaftPositionRangeKept :
    ShaftShape { Shaft.reset with angleValid := true, position := 4103 }
    ∧ ∃ t, step { tO with shaft := { Shaft.reset with angleValid := true, position := 4103 }
                          pending := [.encoderCount true false] } = .next t := by
  refine ⟨by decide +kernel, _, rfl⟩

theorem test_witness_NeedleTableAgreesKept :
    NeedleShape tO ∧ ∃ t, step { tO with pending := [.setParams 1 [(21, 1)]] } = .next t := by
  refine ⟨by decide +kernel, _, rfl⟩

/-! ## Witnesses: the link and the reports -/

theorem test_witness_TransmitterSendsByPriority :
    (tSending tO).link.tx ≠ none ∧ tO.resetAsserted = false ∧ tO.link.tx = none ∧ tO.link.resetPending = false
    ∧ (tReply tO).link.replySlot = some ⟨0x93, 1, [0]⟩ ∧ (tReply tO).link.tx = none
    ∧ tO.link.replySlot = none ∧ (tBusy tO).link.busySlot = some ⟨0x93, 2, [1]⟩ ∧ (tBusy tO).link.replySlot = none
    ∧ tO.link.busySlot = none ∧ tO.link.notices = .resetDone .pin :: []
    ∧ { tO.link with notices := [] }.replySlot = none
    ∧ (∃ t, exec .holdInput (tSending tO) = .next t)
    ∧ (tSending tO).link.tx = some (.notice, ⟨0x60, 0, [0]⟩) := by
  refine ⟨by decide, rfl, rfl, rfl, rfl, rfl, rfl, rfl, rfl, rfl, rfl, rfl, ⟨_, rfl⟩, rfl⟩

theorem test_witness_NoticeEntersByKind :
    let q : List Notice := [.queueLow 0 1, .resetDone .pin]
    (∃ m ∈ q, m.kind = (Notice.queueLow 1 1).kind) ∧ (∀ m ∈ q, m.kind ≠ (Notice.homeDone true 0).kind)
    ∧ (∀ m ∈ q, m.kind ≠ (Notice.fault .estop .atOnce none 1).kind) ∧ (q.map Notice.kind).Nodup
    ∧ { tO.link with notices := q }.notices = .queueLow 0 1 :: [.resetDone .pin] := by
  refine ⟨by decide, by decide, by decide, by decide, rfl⟩

theorem test_witness_FramesJudgedInOrder :
    (List.replicate 240 (0 : Byte)).length ≤ 240 ∧ tO.resetAsserted = false ∧ tO.link.resetPending = false
    ∧ 0x80 ≤ (0x80 : Byte).toNat ∧ (0x7F : Byte).toNat < 0x80
    ∧ (tReply tO).link.replySlot ≠ none ∧ (tReply tO).link.busySlot = none
    ∧ (tBusy (tReply tO)).link.replySlot ≠ none ∧ (tBusy (tReply tO)).link.busySlot ≠ none
    ∧ tO.link.replySlot = none ∧ (0 : Byte).toNat = 0 ∧ 0x19 < (0x1A : Byte).toNat ∧ (0x1A : Byte).toNat < 0x80
    ∧ 1 ≤ (0x19 : Byte).toNat ∧ (0x19 : Byte).toNat ≤ 0x19 ∧ allowedLength 0x19 1 = false
    ∧ allowedLength 0x02 205 = false ∧ allowedLength 0x02 0 = false := by decide +kernel

/-- An order for a slot, of one repeat at a limit of 2000. -/
def tOrder (id slot mask : Nat) (offset : Int) : OrderFields :=
  ⟨BitVec.ofNat 16 id, BitVec.ofNat 8 slot, 1, 80, 6, 2000, BitVec.ofInt 16 offset, 2000, 0, 5000, 1, 0, BitVec.ofNat 8 mask⟩

theorem test_witness_RequestFrameIsItsCommand :
    (Instr.orderAdd 9 (tOrder 40 4 7 (-2400))).wellFormed = true
    ∧ requestFrame (.orderAdd 9 (tOrder 40 4 7 (-2400))) =
        some (0x0B, 9, [40, 0, 4, 1, 80, 6, 0xD0, 0x07, 0xA0, 0xF6, 0xD0, 0x07, 0, 0, 0x88, 0x13, 1, 0, 7])
    ∧ (Instr.setParams 2 [(1, 2000)]).wellFormed = true
    ∧ requestFrame (.setParams 2 [(1, 2000)]) = some (0x02, 2, [1, 0xD0, 0x07, 0, 0]) := by decide +kernel

theorem test_witness_FrameBytesAreReceived :
    (⟨0x7F, 0xFF, List.replicate 240 0xC3⟩ : Frame).payload.length ≤ 240 := by decide +kernel

/-- The state with the assembler's bytes. -/
def tAsm (bs : List Byte) (s : State) : State := { s with link := { s.link with asm := some bs } }

theorem test_witness_AssemblerTakesBytes :
    let f : Frame := ⟨0x01, 5, List.replicate 240 0⟩
    tO.resetAsserted = false ∧ tO.link.asm = none ∧ (0xC2 : Byte) ≠ 0xC3 ∧ (tAsm [] tO).link.asm = some []
    ∧ f.payload.length ≤ 240 ∧ (tAsm (f.body ++ [9]) tO).link.asm = some (f.body ++ [9])
    ∧ 240 < (241 : Byte).toNat ∧ ¬ 240 < (240 : Byte).toNat := by decide +kernel

theorem test_witness_ResetsRestoreEveryBlock :
    tO.takesRequests
    ∧ { tO.link with resetPending := true }.resetPending = true ∧ { tO.link with resetPending := true }.replySlot = none
    ∧ { tO with resetAsserted := true }.resetAsserted = true := by
  refine ⟨by decide, rfl, rfl, rfl⟩

theorem test_witness_ReportsAnswerAndChangeNothing :
    tO.takesRequests ∧ (15 : Byte).toNat < 16 ∧ (31 : Byte).toNat < 32 ∧ (List.replicate 40 (34 : BitVec 8)).length ≤ 40
    ∧ (∀ c ∈ (1 : BitVec 8) :: List.replicate 39 34, 1 ≤ c.toNat ∧ c.toNat ≤ 34)
    ∧ tO.monitor.needles.length = 96 := by decide +kernel

/-! ## Witnesses: patterns, orders and plans -/

theorem test_witness_PatternBeginReservesLowestRun :
    tO.takesRequests ∧ (15 : Byte).toNat < 16 ∧ tO.store.otherLoading 15 = false
    ∧ ((tO.store.slot 15).state = .ready → (tO.store.slot 15).useCount = 0)
    ∧ (2400 : BitVec 16).toNat ≤ 2400 ∧ (10000 : BitVec 16).toNat ≤ 10000 ∧ BarSet.ofByte 7 = some ⟨true, true, true⟩
    ∧ 1 ≤ (15 : Byte).toNat ∧ 1 + (15 : Byte).toNat ≤ 16
    ∧ (∀ k < 15, ∀ i < 16, i ≠ 15 → (tO.store.slot i).owns (1 + k) = false)
    ∧ (∀ b < 1, ¬ ∀ k < 15, ∀ i < 16, i ≠ 15 → (tO.store.slot i).owns (b + k) = false)
    ∧ (∀ a, a + 16 ≤ 16 → ¬ ∀ k < 16, ∀ i < 16, i ≠ 15 → (tO.store.slot i).owns (a + k) = false)
    ∧ (∃ a, a + 15 ≤ 16 ∧ ∀ k < 15, ∀ i < 16, i ≠ 15 → (tO.store.slot i).owns (a + k) = false)
    ∧ (∀ a m, a + m ≤ 16 → (∀ k < m, ∀ i < 16, i ≠ 15 → (tO.store.slot i).owns (a + k) = false) → m ≤ 15) := by
  refine ⟨by decide, by decide, by decide, by decide, by decide, by decide, by decide, by decide, by decide,
    by decide +kernel, by decide +kernel, ?_, ⟨1, by decide, by decide +kernel⟩, ?_⟩
  · intro a ha h
    have h0 := h 0 (by omega) 4 (by omega) (by omega)
    obtain rfl : a = 0 := by omega
    exact absurd h0 (by decide)
  · intro a m hm h
    by_contra hc
    obtain rfl : a = 0 := by omega
    exact absurd (h 0 (by omega) 4 (by omega) (by omega)) (by decide)

/-- The store with slot 3 LOADING in area 2, holding n tacks. -/
def tFilled (n : Nat) : Store :=
  { slots := ((List.replicate 16 Slot.empty).set 4 tSlot).set 3 ⟨.loading, 2, 1, n, 0, 1, tBars, AtClose.zero, 0⟩
    segMem := tStore.segMem ++ (List.range n).map fun k => (512 + k, .tack 1) }

theorem test_witness_PatternAddAppends_hypotheses :
    { tO with store := tFilled 255 }.takesRequests ∧ ((tFilled 255).slot 3).state = .loading
    ∧ [0x0000000000010005, 0x0000000000060005].map parseSegment = [Segment.tack 1, .tack 6].map Except.ok
    ∧ ((tFilled 255).slot 3).segmentCount + [Segment.tack 1].length ≤ 256 * ((tFilled 255).slot 3).areaCount
    ∧ 256 * ((tFilled 255).slot 3).areaCount < ((tFilled 255).slot 3).segmentCount + [Segment.tack 1, .tack 6].length
    ∧ parseSegment 0x0000000000070005 = .error 2 := by
  refine ⟨by decide, rfl, rfl, by decide, by decide, rfl⟩

set_option synthInstance.maxHeartbeats 400000 in
set_option synthInstance.maxSize 2000 in
theorem test_witness_PatternAddAppends_store : StoreShape (tFilled 255) := by decide +kernel

/-- A state with slot 3 LOADING and one record in it. -/
def tLoading (x : Segment) : State :=
  { tO with store := { tFilled 1 with segMem := tStore.segMem ++ [(512, x)] } }

theorem test_witness_PatternEndAndErase :
    (tLoading (.stitch 2400 0 0)).takesRequests ∧ ((tLoading (.stitch 2400 0 0)).store.slot 3).state = .loading
    ∧ closesWell 0 ((tLoading (.stitch 2400 0 0)).store.segments 3)
    ∧ ¬ closesWell 0 ((tLoading (.stitch 2400 (-1) 0)).store.segments 3)
    ∧ ¬ closesWell 0 ((tLoading (.jump 2400 0)).store.segments 3)
    ∧ (tO.store.slot 5).useCount = 0 ∧ 0 < (tO.store.slot 4).useCount := by decide +kernel

theorem test_witness_OrderAddAdmitsOrRefuses :
    let r := tO.store.slot 4
    tO.takesRequests ∧ OrderFields.fault (tOrder 42 4 7 1200) = none ∧ tO.schedule.orders.length < 8
    ∧ (∀ x ∈ tO.schedule.orders, x.spec.orderId ≠ 42) ∧ r.state = .ready
    ∧ (0 ≤ r.startX + (1200 : Int) + r.atClose.xMin ∧ r.startX + (1200 : Int) + r.atClose.xMax ≤ 2400)
    ∧ (r.initialBars.inter ⟨true, true, true⟩).isEmpty = false
    ∧ (∀ set, Segment.bars set ∈ tO.store.segments 4 → (set.inter ⟨true, true, true⟩).isEmpty = false)
    ∧ tO.orderActive = true ∧ tNone.orderActive = false
    ∧ ¬ (tO.schedule.orders ++ List.replicate 6 tQueued).length < 8
    ∧ ¬ (∀ x ∈ tO.schedule.orders, x.spec.orderId ≠ 41) ∧ (tO.store.slot 5).state ≠ .ready
    ∧ ¬ (0 ≤ r.startX + (1201 : Int) + r.atClose.xMin ∧ r.startX + (1201 : Int) + r.atClose.xMax ≤ 2400)
    ∧ ¬ (r.initialBars.inter ⟨false, false, true⟩).isEmpty = false
    ∧ (r.initialBars.inter ⟨false, true, false⟩).isEmpty = false
    ∧ ¬ (∀ set, Segment.bars set ∈ tO.store.segments 4 → (set.inter ⟨false, true, false⟩).isEmpty = false) := by
  refine ⟨by decide, by decide, by decide, by decide, by decide, by decide, by decide, ?_, by decide, by decide,
    by decide, by decide, by decide, by decide, by decide, by decide, ?_⟩
  · intro set h
    rw [show tO.store.segments 4 = [.stitch 200 100 0, .bars ⟨true, false, true⟩] from by decide] at h
    simp at h
    subst h
    decide
  · exact fun h => absurd (h ⟨true, false, true⟩ (by decide)) (by decide)

theorem test_witness_OrderCancelAndQueueLow :
    tO.takesRequests ∧ ScheduleShape tO ∧ tO.schedule.orders = [tActive] ++ tQueued :: []
    ∧ tQueued.spec.orderId = (41 : BitVec 16).toNat ∧ tQueued.state = .queued
    ∧ tO.schedule.orders = [] ++ tActive :: [tQueued] ∧ tActive.spec.orderId = (40 : BitVec 16).toNat
    ∧ tActive.state = .active ∧ (∀ o ∈ tO.schedule.orders, o.spec.orderId ≠ (65535 : BitVec 16).toNat)
    ∧ 0 < tO.schedule.queuedCount ∧ { tO.params with lowWater := 0 }.lowWater < tO.schedule.queuedCount
    ∧ tO.params.lowWater < 2 ∧ tO.schedule.queuedCount ≤ tO.params.lowWater ∧ tO.schedule.armed = true
    ∧ tO.schedule.queuedCount ≤ 1 ∧ (1 ≤ tO.params.lowWater) := by decide +kernel

/-- The state with the ACTIVE order not yet started, or with no record begun. -/
def tFresh (started begun : Bool) : State :=
  { tO with schedule := ⟨[{ tActive with started := started }, tQueued], true⟩
            planner := { tO.planner with headBegun := begun } }

theorem test_witness_OrderBeginsAndEnds :
    (∀ x ∈ [tQueued], x.state = .queued) ∧ tActive.state = .active
    ∧ (tFresh true true).planner.headBegun = true ∧ (tFresh true true).schedule.orders = { tActive with started := true } :: [tQueued]
    ∧ (tFresh true false).planner.headBegun = false
    ∧ (tFresh false false).schedule.orders = { tActive with started := false } :: [tQueued]
    ∧ ScheduleShape { tO with planner := Planner.reset } ∧ { tO with planner := Planner.reset }.planner.queue = [] := by
  decide +kernel

/-- A cursor before a group, at a stage and a segment index. -/
def tGroup (st : Stage) (i : Nat) (cont : Bool) : Cursor :=
  ⟨{ tSpec with tack := 6 }, { tSlot.atClose with continuous := cont }, st, 1, i, 0, 8, 0, ⟨true, false, true⟩⟩

/-- The state with slot 4 holding a JUMP, a BARS and a TACK segment. -/
def tSegments : State :=
  { tO with store :=
    { slots := (List.replicate 16 Slot.empty).set 4 { tSlot with segmentCount := 3 }
      segMem := [(0, .jump 0 50), (1, .bars ⟨true, false, true⟩), (2, .tack 6)] } }

theorem test_witness_PlanGroupsInOrder :
    tNone.planner.queue = [] ∧ (tGroup .repeating 0 true).place = 0 ∧ (tGroup .repeating 0 true).stage = .repeating
    ∧ tSegments.store.segment 4 0 = some (.jump 0 50) ∧ tSegments.store.segment 4 1 = some (.bars ⟨true, false, true⟩)
    ∧ tSegments.store.segment 4 2 = some (.tack 6)
    ∧ (tGroup .between 2 false).stage = .between ∧ (tGroup .between 2 false).atClose.continuous = false
    ∧ (tGroup .between 2 true).atClose.continuous = true
    ∧ (tGroup .between 2 true).bars ≠ (tSegments.store.slot 4).initialBars.inter ⟨true, true, true⟩
    ∧ (tGroup .closing 2 true).stage = .closing := by decide +kernel

/-- 3.3.1: between the two repeats of order 40 a TACK of {0, 2}, the change to {0, 1} and a flagged TACK of {0, 1}, at 1200. -/
theorem test_case_3_3_1_between :
    planned tO 3 ⟨{ tSpec with tack := 1 }, { tSlot.atClose with continuous := true }, .between, 1, 7, 0, 8, 0, ⟨true, false, true⟩⟩ =
      [.tack ⟨0, 0, ⟨true, false, true⟩, 1200, ⟨40, 1, 7, 0⟩⟩ false, .barChange tBars ⟨40, 1, 7, 1⟩,
        .tack ⟨0, 0, tBars, 1200, ⟨40, 1, 7, 2⟩⟩ true] := by decide +kernel

theorem test_witness_StitchLengthAndCount :
    mag 2400 ≤ 2400 ∧ mag (-10000) ≤ 10000 ∧ stitchLength 2400 (-10000) = 10284 ∧ (1 ≤ 1 ∧ 10 ≤ 10 ∧ (0 : Int) ≠ 1)
    ∧ stitchLength 2400 (-10000) ≤ 10284 * 1 ∧ mag 2400 ≤ 10284 * 1 ∧ mag (-10000) ≤ 10284 * 1 := by decide +kernel

theorem test_witness_StitchStepsSumToTheMove :
    mag (-10000) ≤ 167 * 60 ∧ 1 ≤ 167 ∧ (-10000 : Int) < 0 ∧ mag 0 ≤ 1 * 1 := by decide

theorem test_witness_StitchAtItsCeilingEndsInsideWindow :
    1 ≤ ceilingOf Params.default 512 0 40 60 ∧ ceilingOf Params.default 512 0 40 60 ≤ ceilingOf Params.default 512 0 40 60
    ∧ (40 : Int) ≠ 0 ∧ (60 : Int) ≠ 0 ∧ 1 ≤ Params.default.kX ∧ 1 ≤ Params.default.kY := by decide +kernel

/-! ## Witnesses: parameters and timing -/

/-- A SET_PARAMS with a clamped pair, both guard and chain parameters among the others. -/
def tPairs : List (BitVec 8 × BitVec 32) := [(25, 255), (1, 2000), (20, 1), (21, 0x80), (34, 1)]

/-- Its pairs as applied. -/
def tValues : List (ParamId × Int) := [(.lowWater, 7), (.lineMax, 2000), (.chainBytes, 1), (.mapBar0, 0x80), (.autoAudit, 1)]

/-- The parameters after it. -/
def tParams : Params :=
  { Params.default with lowWater := 7, lineMax := 2000, chainBytes := 1, mapBar0 := 0x80, autoAudit := true }

theorem test_setParams_values : (namedPairs tPairs).map clampPair = tValues := by decide

theorem test_setParams_applied : tNone.params.apply tValues = tParams := by decide +kernel

theorem test_witness_SetParamsAppliesWholeOrNothing_good :
    tNone.takesRequests ∧ 1 ≤ tPairs.length ∧ tPairs.length ≤ 40 ∧ (tPairs.map fun p => p.1).Nodup
    ∧ (∀ p ∈ tPairs, 1 ≤ p.1.toNat ∧ p.1.toNat ≤ 34)
    ∧ (∀ p ∈ namedPairs tPairs,
        p.1.range.1 ≤ p.2 ∧ (p.2 ≤ p.1.range.2 ∨ p.1 = .lowWater ∨ p.1 = .driveTol ∨ p.1 = .matTol))
    ∧ (∀ p ∈ tValues, tNone.params.get p.1 ≠ p.2 →
      (p.1.orderBound = true → tNone.orderActive = false)
      ∧ (p.1.chainBound = true → tNone.orderActive = false ∧ tNone.shaft.stopped = true))
    ∧ tParams.beyondChain = false ∧ guardFault tParams tNone.shaft.accepted.width = none := by
  refine ⟨by decide, by decide, by decide, by decide, ?_, by decide +kernel, by decide +kernel, by decide +kernel,
    by decide +kernel⟩
  simp [tPairs]

theorem test_witness_SetParamsAppliesWholeOrNothing_refused :
    let known : BitVec 8 × BitVec 32 → Prop := fun q => 1 ≤ q.1.toNat ∧ q.1.toNat ≤ 34
    tO.takesRequests
    ∧ known (1, 100) ∧ ¬ known (35, 0) ∧ ¬ known (0, 0) ∧ known (34, 1)
    ∧ (1 : BitVec 8) ∈ ([(1, 100), (1, 200)].take 1).map (fun q : BitVec 8 × BitVec 32 => q.1)
    ∧ (∃ id ∈ ParamId.ofCode 2, outOfRange (id, (9 : BitVec 32).toInt) = true)
    ∧ (¬ ∃ id ∈ ParamId.ofCode 25, outOfRange (id, (255 : BitVec 32).toInt) = true)
    ∧ (∀ q ∈ namedPairs [(25, 255), (20, 1)], outOfRange q = false)
    ∧ (∃ id ∈ ParamId.ofCode 20, tO.activityFault (clampPair (id, (1 : BitVec 32).toInt)) = true)
    ∧ (¬ ∃ id ∈ ParamId.ofCode 25, tO.activityFault (clampPair (id, (255 : BitVec 32).toInt)) = true) := by
  refine ⟨by decide, by decide, by decide, by decide, by decide, by decide, ⟨.creep, rfl, by decide⟩, ?_,
    by decide +kernel, ⟨.chainBytes, rfl, by decide⟩, ?_⟩
  · rintro ⟨id, h, g⟩
    obtain rfl : ParamId.lowWater = id := Option.some.inj h
    exact absurd g (by decide)
  · rintro ⟨id, h, g⟩
    obtain rfl : ParamId.lowWater = id := Option.some.inj h
    exact absurd g (by decide)

theorem test_witness_SetTimingChecksAndEffect :
    let tight : Params := { Params.default with iminX := 1000 }
    tO.takesRequests ∧ TimingShape ⟨0, 512, 511⟩ ∧ TimingShape ⟨4095, 2559, 0⟩ ∧ TimingShape ⟨3329, 769, 0⟩
    ∧ (⟨3329, 769, 0⟩ : TimingSet).width = tO.shaft.accepted.width
    ∧ (tNone.orderActive = false ∧ guardFault tNone.params (⟨0, 2560, 1⟩ : TimingSet).width = none)
    ∧ tO.shaft.stopped = true ∧ (tTurning tO).shaft.stopped = false ∧ (tTurning tO).takesRequests
    ∧ 4096 ≤ (4096 : BitVec 16).toNat ∧ (⟨0, 511, 1⟩ : TimingSet).width < 512 ∧ 2560 < (⟨0, 2561, 1⟩ : TimingSet).width
    ∧ forwardCounts 0 0 = 0 ∧ (⟨0, 512, 512⟩ : TimingSet).width ≤ forwardCounts 0 512
    ∧ (⟨0, 512, 511⟩ : TimingSet).width ≠ tO.shaft.accepted.width ∧ tO.orderActive = true
    ∧ guardFault tight (⟨0, 512, 511⟩ : TimingSet).width = some 0 := by decide +kernel

theorem test_witness_RephaseSetsAngle :
    tO.takesRequests ∧ (4095 : BitVec 16).toNat < 4096 ∧ tO.shaft.stopped = true ∧ tO.shaft.angleValid = true
    ∧ 4096 ≤ (4096 : BitVec 16).toNat ∧ (tTurning tO).takesRequests ∧ (tTurning tO).shaft.stopped = false
    ∧ State.reset.takesRequests ∧ State.reset.shaft.stopped = true ∧ State.reset.shaft.angleValid = false := by decide

/-! ## Witnesses: the shaft -/

/-- The state turning forward at a position with a window. -/
def tAt (z : Int) (w : Window) (s : State) : State :=
  { s with shaft := { (tTurning s).shaft with position := z, window := w } }

/-- No window in progress. -/
def tClosed : Window := ⟨false, 3328, 768, 0, false⟩

/-- The default window in progress. -/
def tOpen : Window := ⟨true, 3328, 768, 0, false⟩

theorem test_witness_EncoderCountMovesShaft :
    let forward (s : State) : Shaft := { s.shaft with
      position := s.shaft.position + 1, stopped := false, lastCount := some .forward, reverseRun := 0 }
    tO.resetAsserted = false ∧ tO.line.effective ≠ .feeding ∧ tO.motion.burst = none ∧ tO.motion.feed = none
    ∧ tO.motion.homing = none ∧ (tAt 4102 tClosed tO).shaft.angleValid = true
    ∧ (tAt 4102 tClosed tO).shaft.position ≤ 4102 ∧ -4104 < (tAt 4102 tClosed tO).shaft.position
    ∧ (forward (tAt 4102 tClosed tO)).eventHere = false ∧ (forward (tAt (-4103) tOpen tO)).eventHere = false
    ∧ -4104 < (tAt (-4103) tOpen tO).shaft.position
    ∧ (forward State.reset).eventHere = false
    ∧ -4102 ≤ (tAt (-4102) tOpen tO).shaft.position ∧ (tAt 4103 tOpen tO).shaft.position < 4104
    ∧ tO.shaft.reverseRun ≠ 32 := by decide +kernel

theorem test_witness_IndexPulseTaken :
    let at4096 : State := tAt 4096 tOpen tO
    State.reset.resetAsserted = false ∧ State.reset.shaft.pendingSet = none ∧ State.reset.anyWaiting = false
    ∧ State.reset.shaft.angleValid = false
    ∧ at4096.resetAsserted = false ∧ at4096.shaft.pendingSet = none ∧ at4096.anyWaiting = false
    ∧ at4096.shaft.angleValid = true ∧ at4096.shaft.position = 4096 ∧ at4096.audit.state ≠ .counting
    ∧ { at4096.shaft with revStart := some 0, clean := true }.revStart = some 0 ∧ 0 < 60000
    ∧ at4096.shaft.revStart = none ∧ { at4096.shaft with revStart := some 0, clean := false }.clean = false
    ∧ (tAt 0 tOpen tO).shaft.position = 0 := by decide +kernel

theorem test_witness_EncoderChecksLatch :
    tO.resetAsserted = false ∧ (tAt 4103 tClosed tO).anyWaiting = false
    ∧ countDirection (quadrature tO.pins.sha tO.pins.shb) (quadrature true false) = some .forward
    ∧ countDirection (quadrature tO.pins.sha tO.pins.shb) (quadrature false true) = some .reverse
    ∧ (tAt 4103 tClosed tO).shaft.losesIndex .forward = true ∧ (tAt (-4103) tClosed tO).shaft.losesIndex .reverse = true
    ∧ { tO.shaft with reverseRun := 32 }.reverseRun = 32 ∧ (tMode .running tO).line.effective = .running
    ∧ (tAt 4093 tClosed tO).shaft.angleValid = true
    ∧ ¬ (4094 ≤ (4093 : Int) ∧ (4093 : Int) ≤ 4098) ∧ ¬ (-2 ≤ (4093 : Int) ∧ (4093 : Int) ≤ 2)
    ∧ ¬ (-4098 ≤ (4093 : Int) ∧ (4093 : Int) ≤ -4094) ∧ ¬ (-2 ≤ (-3 : Int)) ∧ ¬ (4099 : Int) ≤ 4098 := by decide +kernel

theorem test_witness_WindowEventsByAngle :
    let opened : State := tAt 3328 tClosed tO
    let stop : State := tAt 0 tOpen tO
    let close : State := tAt 768 { tOpen with stopGiven := true } tO
    opened.shaft.angleValid = true ∧ opened.shaft.window.inProgress = false
    ∧ opened.shaft.angle = opened.shaft.active.windowOpen ∧ opened.line.permission = false
    ∧ opened.monitor.formedStitch = none ∧ (tAt 3327 tClosed tO).shaft.angle ≠ 3328
    ∧ stop.shaft.window.inProgress = true ∧ stop.shaft.angle = stop.shaft.window.stopAt
    ∧ stop.shaft.window.stopGiven = false
    ∧ { Gov.reset with state := .parking, armed := true, released := true, purpose := some .park }.braked = false
    ∧ stop.gov.state ≠ .parking
    ∧ close.shaft.window.inProgress = true ∧ close.shaft.angle = close.shaft.window.closeAt
    ∧ close.shaft.angle ≠ close.shaft.window.stopAt ∧ close.motion.burst = none
    ∧ (tAt 767 tOpen tO).shaft.angle ≠ 768 ∧ (tAt 767 tOpen tO).shaft.angle ≠ 0 := by decide +kernel

/-- A Governor PARKING, armed, after some attempts. -/
def tParking (attempts : Nat) (s : State) : State :=
  { s with gov := { Gov.reset with state := .parking, purpose := some .park, released := true, armed := true
                                   demand := 60, applied := 60, attempts := attempts } }

theorem test_witness_StoppedShaftSettles :
    let turning : State := tAt 0 tOpen tO
    let held : State := tParking 3 (tStopping .hold .atStitch turning)
    let missed : State := tParking 2 (tStopping .feed .park (tAt 2000 tClosed tO))
    let third : State := tParking 3 (tStopping .feed .park (tAt 2000 tClosed tO))
    turning.resetAsserted = false ∧ turning.shaft.stopped = false ∧ turning.bars.change = none
    ∧ turning.anyWaiting = false ∧ turning.line.effective ≠ .stopping ∧ turning.gov.state = .halted
    ∧ (tDriving turning).gov.state = .locked
    ∧ held.gov.state = .parking ∧ held.shaft.angleValid = true ∧ held.shaft.stop.insideActive = true
    ∧ held.line.effective = .stopping ∧ held.line.stopPurpose = some .hold ∧ held.line.stopKind = some .atStitch
    ∧ missed.shaft.stop.insideActive = false ∧ missed.gov.attempts < 3 ∧ missed.line.faults.atOnce = false
    ∧ missed.line.effective = .stopping ∧ missed.line.stopKind ≠ some .atOnce
    ∧ third.shaft.stop.insideActive = false ∧ 3 ≤ third.gov.attempts ∧ third.line.faults.has .park = false := by
  decide +kernel

/-! ## Witnesses: the Governor and the axes -/

theorem test_witness_DutyIsNearestPerMille :
    let s : State := { tDriving tO with gov := { (tDriving tO).gov with applied := 63 } }
    s.resetAsserted = false ∧ 1 ≤ s.params.lineMax ∧ s.gov.applied ≤ s.params.lineMax
    ∧ 2 * s.params.lineMax * 53 ≤ 2000 * s.gov.applied + s.params.lineMax
    ∧ 2000 * s.gov.applied < 2 * s.params.lineMax * 53 + s.params.lineMax
    ∧ s.params.lineMax ≤ { s.gov with applied := 1201 }.applied := by decide

theorem test_witness_DemandIsTheLeastTerm :
    tO.gov.state = .halted ∧ (tDriving tO).gov.state ≠ .halted ∧ (tDriving tO).line.faults.atOnce = false
    ∧ (tDriving tO).gov.purpose = some .stitching ∧ { (tDriving tO).gov with purpose := some .replay }.state ≠ .halted
    ∧ (tParking 1 tO).gov.purpose = some .park ∧ (tParking 1 tO).gov.state ≠ .halted
    ∧ (tLatched .estop .atOnce tO).line.faults.atOnce = true := by decide

theorem test_witness_LockJudgedByRevolutions :
    let near (k : Nat) : State := { tDriving tO with
      shaft := { tO.shaft with speed := k }
      gov := { (tDriving tO).gov with demand := demandOf (tDriving tO), applied := demandOf (tDriving tO), outTol := 1 } }
    tO.gov.released = false ∧ (near 70).gov.released = true ∧ (near 70).gov.applied = 60 ∧ demandOf (near 70) = 60
    ∧ mag (((near 70).shaft.speed : Int) - (near 70).gov.applied) ≤ 10
    ∧ ¬ mag (((near 71).shaft.speed : Int) - (near 71).gov.applied) ≤ 10
    ∧ 10 < mag ((demandOf (tDriving tO) : Int) - (tDriving tO).gov.applied)
    ∧ (near 70).gov.state = .locked ∧ (tParking 1 tO).gov.state = .parking := by decide +kernel

theorem test_witness_PulsesConserveTruePlace : 1 ≤ 8 ∧ -((8 : Nat) : Int) < -7 ∧ (7 : Int) < (8 : Nat) := by decide

/-- The state of a burst with pulses left, inside or outside the window, X known. -/
def tEmitting (x y : Nat) (s : State) : State := tWithBurst (tBurst x y) (tAt (-668) tOpen s)

theorem test_witness_PulsesEmittedInsideTheWindow :
    let opening : State := { tTurning tO with
      line := { tO.line with permission := true }, planner := { tO.planner with headBegun := true } }
    let outside : State := tWithBurst (tBurst 1 1) (tAt 768 tOpen tO)
    let move : State := tWithFeed (tFeed .moving 1 1) tO
    opening.line.permission = true ∧ opening.motion.burst = none ∧ opening.line.replay = []
    ∧ opening.planner.head = some tStitchRec ∧ tStitchRec.stitch? = some (tStitch, false)
    ∧ opening.planner.headBegun = true ∧ opening.shaft.period = some 60000
    ∧ 1 ≤ opening.params.kX ∧ 1 ≤ opening.params.kY ∧ tStitch.stepX ≠ 0
    ∧ (tEmitting 1 1 tO).resetAsserted = false ∧ (tEmitting 1 1 tO).motion.burst = some (tBurst 1 1)
    ∧ (tBurst 1 1).frozen = false ∧ (tEmitting 1 1 tO).shaft.pulsesAllowed = true ∧ 1 ≤ (tBurst 1 1).x.left
    ∧ (tBurst 1 1).x.waiting = false ∧ 1 ≤ (tBurst 1 1).y.left ∧ (tBurst 1 1).y.waiting = false
    ∧ (tEmitting 1 1 tO).motion.xKnown = true ∧ 2 ≤ (tBurst 2 0).x.left ∧ 2 ≤ (tBurst 0 2).y.left
    ∧ outside.shaft.pulsesAllowed = false
    ∧ move.motion.burst = none ∧ move.motion.feed = some (tFeed .moving 1 1) ∧ (tFeed .moving 1 1).state = .moving
    ∧ move.audit.state ≠ .counting ∧ move.shaft.pulsesAllowed = true
    ∧ (tWithFeed (tFeed .moving 1 1) (tAt 768 tOpen tO)).shaft.pulsesAllowed = false := by decide +kernel

theorem test_witness_StitchCompletionHandOffs :
    let s := tEmitting 0 1 tO
    s.resetAsserted = false ∧ s.motion.burst = some (tBurst 0 1) ∧ (tBurst 0 1).frozen = false
    ∧ (tBurst 0 1).source = .head ∧ (tBurst 0 1).x.left = 0 ∧ (tBurst 0 1).y.left = 1
    ∧ (tBurst 0 1).y.waiting = false ∧ s.shaft.stopped = false ∧ s.shaft.insideCurrent = true
    ∧ s.schedule.orders = tActive :: [tQueued] ∧ tActive.state = .active ∧ (∀ x ∈ [tQueued], x.state = .queued)
    ∧ s.audit.state ≠ .counting := by decide +kernel

/-- The line FEEDING with a FEED record at the head. -/
def tFeeding (kind : FeedKind) (dx dy : Int) (begun : Bool) : State :=
  let s := tMode .feeding (tHead (.feed kind dx dy tRef) tO)
  { s with planner := { s.planner with headBegun := begun } }

/-- The state CUTTING in a cut gap of one pulse in two. -/
def tCutting (freeze : Bool) : State :=
  let s := tWithFeed { tFeed .cutting 0 0 with freezeAfterCut := freeze } (tFeeding .gap 0 1 true)
  { s with motion := { s.motion with cutTimer := some 150 } }

theorem test_witness_FeedMovesBeginSearchAndCut :
    let s := tFeeding .jump 1 0 false
    let search := tWithFeed (tFeed .moving 0 1) (tFeeding .markSearch 0 0 true)
    s.resetAsserted = false ∧ s.line.effective = .feeding ∧ s.shaft.stopped = true ∧ s.line.resumeStep = .none
    ∧ s.line.replay = [] ∧ s.motion.feed = none ∧ s.motion.backMove = none
    ∧ s.planner.queue = .feed .jump 1 0 tRef :: [.endMark tRef] ∧ (1 : Int) * s.params.kX ≠ 0
    ∧ (tFeeding .jump 1 0 true).planner.headBegun = true ∧ s.planner.headBegun = false
    ∧ s.schedule.orders = tActive :: [tQueued] ∧ tActive.state = .active ∧ (∀ x ∈ [tQueued], x.state = .queued)
    ∧ (tMode .feeding (tHead (.endMark tRef) tO)).planner.queue = .endMark tRef :: [.endMark tRef]
    ∧ tO.bars.change = none
    ∧ search.motion.feed = some (tFeed .moving 0 1) ∧ (tFeed .moving 0 1).state = .moving
    ∧ (tFeed .moving 0 1).source = .record ∧ search.planner.queue = .feed .markSearch 0 0 tRef :: [.endMark tRef]
    ∧ search.line.effective = .feeding ∧ search.line.resumeStep = .none ∧ search.motion.burst = none
    ∧ tO.motion.feed = none
    ∧ (tCutting false).motion.feed = some { tFeed .cutting 0 0 with freezeAfterCut := false }
    ∧ (tCutting true).motion.feed = some { tFeed .cutting 0 0 with freezeAfterCut := true }
    ∧ (tCutting true).motion.cutTimer = some 150
    ∧ (tCutting true).planner.queue = .feed .gap 0 1 tRef :: [.endMark tRef] ∧ 1 ≤ (tCutting true).params.kY := by
  decide +kernel

theorem test_witness_HomingFindsX :
    let homing (n : Nat) (s : State) : State := { s with motion := { s.motion with homing := some ⟨n, 200, false⟩ } }
    tNone.takesRequests ∧ tNone.line.effective = .idle ∧ tNone.shaft.stopped = true ∧ tNone.motion.homing = none
    ∧ tNone.orderActive = false ∧ tNone.pins.xhome = false ∧ { tNone.pins with xhome := true }.xhome = true
    ∧ (tHead (.feed (.leadIn 0) 0 0 tRef) tO).planner.queue.any PlanRecord.isLeadIn = true
    ∧ ¬ ((tMode .holding tO).line.effective = .idle ∨ (tMode .holding tO).line.effective = .threading)
    ∧ (tTurning tO).shaft.stopped = false ∧ (homing 0 tNone).motion.homing ≠ none
    ∧ ¬ (tO.orderActive = false ∨ tO.planner.queue.any PlanRecord.isLeadIn = true)
    ∧ (homing 0 tNone).motion.homing = some ⟨0, 200, false⟩ ∧ tNone.shaft.pulsesAllowed = true
    ∧ 20798 + 1 < 2600 * tNone.params.kX ∧ 2600 * tNone.params.kX ≤ 20799 + 1
    ∧ (homing 0 (tAt 768 tClosed tNone)).shaft.pulsesAllowed = false := by decide +kernel

/-! ## Witnesses: bars and threads -/

/-- The state with bar 0's record. -/
def tBar0 (r : BarRec) (s : State) : State := { s with bars := s.bars.put .b0 r }

/-- The state with a change in hand. -/
def tChange (c : Change) (s : State) : State := { s with bars := { s.bars with change := some c } }

/-- A bar being lowered, in its dead time or with its valve on. -/
def tDead : BarRec := ⟨.lowering, false, false, false, false, .deadTime 20⟩
def tPowered : BarRec := ⟨.lowering, true, false, false, false, .confirm 400⟩

theorem test_bars_stand : ∀ b, (tO.bars.get b).state = .up ∨ (tO.bars.get b).state = .down ∨ (tO.bars.get b).state = .unknown :=
  fun b => by cases b <;> decide

theorem test_witness_BarsMoveThroughDeadTime :
    let s := tMode .feeding (tHead (.barChange ⟨true, false, false⟩ tRef) tO)
    let thread := tMode .threading tO
    let low : State := { tBar0 tDead tO with pins := { tO.pins with bdn := ⟨true, false, false⟩ } }
    s.resetAsserted = false ∧ s.line.effective = .feeding ∧ s.shaft.stopped = true ∧ s.line.resumeStep = .none
    ∧ s.line.replay = [] ∧ s.bars.change = none
    ∧ s.planner.queue = .barChange ⟨true, false, false⟩ tRef :: [.endMark tRef] ∧ 1 ≤ s.params.deadTime
    ∧ (s.bars.get .b1).heldAt ((⟨true, false, false⟩ : BarSet).mem .b1) = false
    ∧ thread.takesRequests ∧ thread.line.effective = .threading ∧ thread.shaft.stopped = true ∧ thread.pins.jog = false
    ∧ thread.bars.change = none ∧ (thread.bars.get .b0).heldAt false = false
    ∧ (tBar0 tDead tO).resetAsserted = false ∧ ((tBar0 tDead tO).bars.get .b0).timer = .deadTime 20
    ∧ ((tBar0 tDead tO).bars.get .b0).state = .lowering ∧ (tBar0 tDead tO).changeDone = false
    ∧ ((tBar0 tDead tO).pins.bdn.mem .b0 && !(tBar0 tDead tO).pins.bup.mem .b0) = false
    ∧ (low.pins.bdn.mem .b0 && !low.pins.bup.mem .b0) = true ∧ low.bars.change = none ∧ low.changeDone = false := by
  decide +kernel

theorem test_witness_BarsConfirmOrTimeOut :
    let s := tBar0 tPowered tO
    let changing := tMode .faulted (tChange ⟨.record, tBars, false⟩ s)
    let free := tBar0 (BarRec.released0 .unknown) tO
    s.resetAsserted = false ∧ (s.bars.get .b0).released = false ∧ (s.bars.get .b0).state = .lowering
    ∧ (s.bars.get .b0).vlo = true ∧ (true && !false) = true ∧ s.bars.change = none
    ∧ changing.bars.change = some ⟨.record, tBars, false⟩ ∧ tBars.mem .b0 = true
    ∧ (changing.bars.get .b1).heldAt (tBars.mem .b1) = true ∧ (changing.bars.get .b2).heldAt (tBars.mem .b2) = true
    ∧ changing.line.effective = .faulted ∧ (changing.bars.get .b0).vlo = true
    ∧ (free.bars.get .b0).released = true
    ∧ (tO.bars.get .b0).released = false ∧ (tO.bars.get .b0).state = .down ∧ tO.changeDone = false
    ∧ (s.bars.get .b0).timer = .confirm 400 ∧ (s.bars.get .b0).state ≠ .down := by decide +kernel

/-- The line RUNNING with a formed stitch, and needle 0 (of the lowered bar 0) in this state. -/
def tJudged (n : NeedleState) (src : StitchSource) (suppress : Nat) (seen : BitVec 96) : State :=
  let s := tMode .running tO
  { s with monitor := { s.monitor with
      formedStitch := some ⟨tRef, src⟩, suppress := suppress, seen := seen, needles := s.monitor.needles.set 0 n } }

theorem test_witness_ScansAndNeedlesJudged :
    tO.resetAsserted = false ∧ tO.monitor.scanTimer = some 1000
    ∧ { tO.monitor with scanning := some 96 }.scanning = some 96 ∧ tO.monitor.scanning = none
    ∧ (∀ j < 8, ((0xA5 : BitVec 8) ++ (0 : BitVec 96) : BitVec 104).getLsbD (96 + j) = (0xA5 : Byte).getLsbD (7 - j))
    ∧ (∀ j < 8, ((0 : BitVec 8) ++ (0xA5FF : BitVec 96) : BitVec 104).getLsbD (8 + j) = (0xA5 : Byte).getLsbD (7 - j))
    ∧ (¬ ∀ j < 8, ((0xA4 : BitVec 8) ++ (0 : BitVec 96) : BitVec 104).getLsbD (96 + j) = (0xA5 : Byte).getLsbD (7 - j))
    ∧ tO.monitor.chainFault = false ∧ { tO.monitor with chainFault := true }.chainFault = true
    ∧ (tJudged (.armed 1) .plan 0 0).monitor.formedStitch = some ⟨tRef, .plan⟩
    ∧ (tJudged (.armed 1) .plan 0 0).monitor.scanFault = false
    ∧ (tJudged (.armed 1) .plan 0 0).line.effective = .running
    ∧ ((tJudged (.armed 1) .replay 1 0).monitor.formedStitch.map FormedStitch.source) = some .replay
    ∧ 0 < (tJudged (.armed 1) .replay 1 0).monitor.suppress ∧ ¬ 0 < (tJudged (.armed 1) .replay 0 0).monitor.suppress
    ∧ tO.monitor.formedStitch = none
    ∧ (tJudged (.armed 1) .plan 0 0).monitor.needles[0]? = some (.armed 1)
    ∧ (tJudged (.armed 1) .plan 0 0).monitor.seen.getLsbD 0 = false
    ∧ (tJudged (.armed 1) .plan 0 1).monitor.seen.getLsbD 0 = true
    ∧ (tJudged (.armed 1) .plan 0 0).bars.engaged.mem (needleBar 0) = true
    ∧ (tJudged (.armed 1) .plan 0 0).bars.engaged.mem (needleBar 95) = false
    ∧ 1 + 1 < tO.params.breakLimit ∧ tO.params.breakLimit ≤ 2 + 1
    ∧ (tJudged (.grace 1) .plan 0 0).monitor.needles[0]? = some (.grace 1)
    ∧ (tJudged (.armed 2) .plan 0 0).monitor.needles[0]? = some (.armed 2)
    ∧ (tJudged (.broken 3 tRef) .plan 0 0).monitor.needles[0]? = some (.broken 3 tRef) := by decide +kernel

/-! ## Witnesses: the line -/

theorem test_bars_held : ∀ b, (tO.bars.get b).heldAt (tStitch.bars.mem b) = true := fun b => by cases b <;> decide

set_option synthInstance.maxHeartbeats 400000 in
set_option synthInstance.maxSize 2000 in
theorem test_witness_RunBeginsResumeSequence :
    tO.takesRequests ∧ tO.line.effective = .idle ∧ tO.line.faults.latched = [] ∧ tO.motion.xKnown = true
    ∧ tO.orderActive = true ∧ tO.gov.state = .halted ∧ GovShape tO.gov
    ∧ { tO.shaft with position := 768 }.parked = false ∧ { tO.shaft with position := 767 }.parked = true
    ∧ tO.motion.burst = none ∧ tO.line.overlapPending = false ∧ tO.line.replay = []
    ∧ (tHead (.feed .jump 1 0 tRef) tO).planner.head = some (.feed .jump 1 0 tRef)
    ∧ tO.planner.headStitch = some (tStitch, false)
    ∧ (tMode .running tO).line.effective ≠ .idle ∧ (tMode .running tO).stoppingForHold = false
    ∧ (tStopping .hold .atStitch tO).stoppingForHold = true
    ∧ (tLatched .thread .report tO).line.faults.latched ≠ []
    ∧ State.reset.motion.xKnown = false ∧ tNone.orderActive = false ∧ tNone.motion.xKnown = true := by decide +kernel

theorem test_witness_HoldStopsTheLine :
    let run : State := { tDriving (tTurning tO) with line := { tO.line with effective := .running, permission := true } }
    run.takesRequests ∧ holdKindOfByte 0 = some .atOnce ∧ holdKindOfByte 2 = some .atSegment
    ∧ run.params.holdInputKind = some .atStitch ∧ run.line.effective = .running ∧ run.line.permission = true
    ∧ run.shaft.stopped = false ∧ run.motion.emitting = false ∧ run.motion.feedRunning = false
    ∧ run.gov.state = .locked ∧ run.line.faults.atOnce = false
    ∧ (tMode .feeding tO).line.effective = .feeding ∧ (tMode .feeding tO).shaft.stopped = true
    ∧ (tWithFeed (tFeed .cutting 1 1) (tMode .feeding tO)).motion.feedRunning = true
    ∧ (tWithBurst (tBurst 1 1) run).motion.emitting = true
    ∧ (tMode .holding tO).line.effective = .holding ∧ (tMode .faulted tO).line.effective = .faulted
    ∧ (tStopping .fault .atStitch tO).stoppingForFault = true ∧ tO.line.effective = .idle := by decide +kernel

theorem test_witness_RestModesAndJog :
    let jog := tMode .threading { tO with gov := { (tDriving tO).gov with purpose := some .jog, state := .ramping } }
    tO.takesRequests ∧ tO.line.effective = .idle ∧ tO.line.effective ≠ .threading
    ∧ (tMode .holding tO).line.effective ≠ .idle ∧ (tMode .faulted tO).line.effective = .faulted
    ∧ (tMode .feeding tO).line.effective = .feeding ∧ (tMode .threading tO).line.effective = .threading
    ∧ (tMode .threading tO).gov.state = .halted ∧ (tMode .threading tO).line.faults.atOnce = false
    ∧ jog.gov.purpose = some .jog ∧ jog.gov.state ≠ .halted ∧ tO.gov.purpose ≠ some .jog := by decide

theorem test_witness_AbortPanelEndsOrder :
    tO.takesRequests ∧ tO.line.effective = .idle ∧ tO.schedule.orders = tActive :: [tQueued]
    ∧ tActive.state = .active ∧ (∀ x ∈ [tQueued], x.state = .queued)
    ∧ (let m := (tMode .feeding tO).line.effective
       ¬ (m = .idle ∨ m = .threading ∨ m = .holding ∨ m = .faulted))
    ∧ tNone.orderActive = false := by decide

theorem test_witness_ClearFaultsRule :
    let broken : State := tMode .faulted (tLatched .thread .atStitch tO)
    let still : State := { tMode .faulted (tLatched .estop .atOnce tO) with pins := { tO.pins with estop := true } }
    tO.takesRequests ∧ (tStopping .fault .atOnce tO).stoppingForFault = true ∧ broken.stoppingForFault = false
    ∧ broken.line.effective = .faulted ∧ broken.orderActive = true
    ∧ (tMode .faulted (tLatched .thread .atStitch tNone)).orderActive = false
    ∧ still.stoppingForFault = false ∧ still.line.faults.latched = [(.estop, .atOnce)] ∧ still.pins.estop = true
    ∧ tO.line.effective ≠ .faulted := by decide

theorem test_witness_FaultsLatchAndStop :
    (tLatched .thread .report tO).line.faults.has .thread = true ∧ tO.line.faults.has .thread = false
    ∧ tO.line.faults.latched = [] ∧ (tLatched .drive .atOnce tO).line.faults.has .thread = false
    ∧ (tLatched .drive .atOnce tO).line.faults.latched ≠ []
    ∧ actionOf tO.params .feedSlip = .report ∧ actionOf tO.params .estop = .atOnce
    ∧ actionOf tO.params .thread = .atStitch ∧ tO.line.effective = .idle ∧ tO.resetAsserted = false
    ∧ tO.line.faults.has .estop = false ∧ tO.line.faults.has .drive = false ∧ tO.shaft.stopped = true
    ∧ tO.line.effective ≠ .stopping := by decide

/-- The line FEEDING with an audit COUNTING and these counts of the roller and the wheel. -/
def tCounting (roll wheel : Nat) : State :=
  { tMode .feeding tO with audit := { Audit.reset with state := .counting, cRoll := roll, cWheel := wheel } }

theorem test_witness_AuditCountsAndJudges :
    tO.takesRequests ∧ (tCounting 0 0).takesRequests ∧ (tCounting 0 0).audit.state = .counting
    ∧ tO.audit.state ≠ .counting ∧ tO.params.autoAudit = false ∧ tO.params.driveTol ≤ 500 ∧ tO.params.matTol ≤ 500
    ∧ 499 < 500 ∧ 500 ≤ 2000 / tO.params.kY
    ∧ (tCounting 65533 65533).resetAsserted = false
    ∧ ((true, false) ≠ ((tCounting 65533 65533).pins.fra, (tCounting 65533 65533).pins.frb))
    ∧ ((true, false) ≠ ((tCounting 65533 65533).pins.mwa, (tCounting 65533 65533).pins.mwb))
    ∧ (tCounting 65533 65533).line.effective = .feeding ∧ (tCounting 65533 65533).audit.cRoll + 1 < 65535
    ∧ (tCounting 65533 65533).audit.cWheel + 1 < 65535 ∧ (tCounting 65534 0).audit.cRoll = 65534
    ∧ (tCounting 0 65534).audit.cWheel = 65534 ∧ (false, false) = (tO.pins.fra, tO.pins.frb)
    ∧ (false, false) = (tO.pins.mwa, tO.pins.mwb) := by decide

/-! ## Witnesses: the clauses of refusals, stops and hand-overs -/

/-- The state with these notices waiting. -/
def tNotices (ns : List Notice) (s : State) : State := { s with link := { s.link with notices := ns } }

theorem test_witness_TransmitterSendsByPriority_resetDone :
    let fault : Notice := .fault .estop .atOnce none 1
    (tNotices [fault, .resetDone .pin, .queueLow 0 1] tO).link.notices = [fault] ++ .resetDone .pin :: [.queueLow 0 1]
    ∧ (∀ m ∈ [fault], m.kind ≠ 0x60) ∧ tO.link.notices = [] ++ .resetDone .pin :: [] ∧ tO.link.replySlot = none
    ∧ (tNotices [fault, .queueLow 0 1] tO).link.notices = fault :: [.queueLow 0 1]
    ∧ (∀ m ∈ [Notice.queueLow 0 1], m.kind ≠ 0x60) ∧ tO.link.busySlot = none ∧ tO.link.tx = none := by
  refine ⟨rfl, by decide, rfl, rfl, rfl, by decide, rfl, rfl⟩

theorem test_witness_TransmitterSendsByPriority_raised :
    let idle : State := tNotices [] tO
    idle.resetAsserted = false ∧ idle.link.resetPending = false ∧ idle.link.tx = none ∧ idle.link.replySlot = none
    ∧ idle.link.busySlot = none ∧ idle.link.notices = [] ∧ (tSending tO).link.tx ≠ none
    ∧ { idle.link with resetPending := true }.replySlot = none := by
  refine ⟨rfl, rfl, rfl, rfl, rfl, rfl, by decide, rfl⟩

/-- R186: the first notice of a step is sent at once at an idle line, and what the step raises later waits. -/
theorem test_first_notice_sent_at_once :
    let s := raiseNotice (.fault .estop .atOnce none 1) (raiseNotice (.homeDone false 7) (tNotices [] tO))
    s.link.tx = some (.notice, (Notice.homeDone false 7).frame)
    ∧ s.link.notices = [.fault .estop .atOnce none 1] := by decide

theorem test_witness_FramesJudgedInOrder_mode :
    tO.link.replySlot = none ∧ [4, 0] = [(4 : Byte), 0] ∧ 3 < (4 : Byte).toNat ∧ [3, 3] = [(3 : Byte), 3]
    ∧ 2 < (3 : Byte).toNat := by decide

theorem test_witness_ReportsAnswerAndChangeNothing_refused :
    let known : BitVec 8 → Prop := fun c => 1 ≤ c.toNat ∧ c.toNat ≤ 34
    16 ≤ (16 : Byte).toNat ∧ 32 ≤ (32 : Byte).toNat ∧ [34, 35, 0] = [(34 : BitVec 8)] ++ 35 :: [0]
    ∧ (∀ d ∈ [(34 : BitVec 8)], known d) ∧ ¬ known 35 ∧ ¬ known 0 ∧ 65535 < 65536
    ∧ -32768 ≤ (-32768 : Int) ∧ (-32768 : Int) < 32768 := by decide

theorem test_witness_PatternBeginReservesLowestRun_refused :
    let s : State := { tO with store := tFilled 0 }
    s.takesRequests ∧ ¬ (16 : Byte).toNat < 16 ∧ ¬ (∀ j < 16, j ≠ 5 → (s.store.slot j).state ≠ .loading)
    ∧ (∀ j < 16, j ≠ 4 → (tO.store.slot j).state ≠ .loading)
    ∧ (tO.store.slot 4).state = .ready ∧ 0 < (tO.store.slot 4).useCount
    ∧ (∀ j < 16, j ≠ 5 → (tO.store.slot j).state ≠ .loading) ∧ (tO.store.slot 5).state ≠ .ready
    ∧ ¬ (1 ≤ (0 : Byte).toNat) ∧ ¬ (17 : Byte).toNat ≤ 16 ∧ ¬ (2401 : BitVec 16).toNat ≤ 2400
    ∧ ¬ 1 ≤ (0 : BitVec 16).toNat ∧ ¬ (10001 : BitVec 16).toNat ≤ 10000 ∧ ¬ (8 : Byte).toNat ≤ 7 := by decide +kernel

theorem test_witness_PatternAddAppends_refused :
    ¬ 1 ≤ ([] : List (BitVec 64)).length ∧ ¬ (List.replicate 29 (0 : BitVec 64)).length ≤ 28
    ∧ (List.replicate 28 (0 : BitVec 64)).length ≤ 28 ∧ 16 ≤ (16 : Byte).toNat ∧ (tO.store.slot 4).state ≠ .loading
    ∧ [5 + 0x10000, 6] = [(0x10005 : BitVec 64)] ++ 6 :: [] ∧ (∀ v ∈ [(0x10005 : BitVec 64)], ∃ x, parseSegment v = .ok x) := by
  refine ⟨by decide, by decide, by decide, by decide, by decide, by decide, ?_⟩
  intro v h
  obtain rfl : v = 0x10005 := by simpa using h
  exact ⟨.tack 1, by rfl⟩

theorem test_witness_PatternEndAndErase_refused :
    let inX : Int → Prop := fun x => 0 ≤ (0 : Int) + x ∧ (0 : Int) + x ≤ 2400
    16 ≤ (16 : Byte).toNat ∧ (tO.store.slot 4).state ≠ .loading
    ∧ (tLoading (.jump 1 0)).store.segments 3 = [.jump 1 0] ∧ ([Segment.jump 1 0].head?.map Segment.isJump) = some true
    ∧ (tLoading (.stitch 2401 0 0)).store.segments 3 = [] ++ .stitch 2401 0 0 :: []
    ∧ (runningPoints (0, 0) ([] ++ [Segment.stitch 2401 0 0])).getLast? = some (2401, 0) ∧ ¬ inX 2401
    ∧ (runningPoints (0, 0) ([] ++ [Segment.stitch 2400 (-1) 0])).getLast? = some (2400, -1) ∧ inX 2400
    ∧ (tLoading (.tack 1)).store.segments 3 = [.tack 1] ∧ runningPoints (0, 0) [Segment.tack 1] = []
    ∧ [Segment.tack 1].any Segment.isStitch = false
    ∧ ([Segment.tack 1].head?.map Segment.isJump) ≠ some true := by decide +kernel

set_option synthInstance.maxHeartbeats 400000 in
set_option synthInstance.maxSize 2000 in
theorem test_witness_PatternEndAndErase_store :
    StoreShape (tLoading (.tack 1)).store ∧ StoreShape (tLoading (.stitch 2400 0 0)).store := by
  exact ⟨by decide +kernel, by decide +kernel⟩

/-- The fields of an order record that are outside their ranges, by offset (R20). -/
def tFaults (o : OrderFields) : List (Nat × Bool) :=
  [(0, decide (o.orderId = 0)), (2, decide (15 < o.slot.toNat)),
   (3, decide (o.repeats.toNat < 1 ∨ 64 < o.repeats.toNat)),
   (4, decide (o.stitchLen.toNat < 10 ∨ 80 < o.stitchLen.toNat)), (5, decide (6 < o.tack.toNat)),
   (6, decide (o.speedLimit.toNat < 60 ∨ 2000 < o.speedLimit.toNat)),
   (8, decide (o.xOffset.toInt < -2400 ∨ 2400 < o.xOffset.toInt)), (10, decide (2000 < o.leadIn.toNat)),
   (12, decide (2000 < o.leadOut.toNat)), (14, decide (5000 < o.gap.toNat)), (16, decide (1 < o.onMark.toNat)),
   (17, decide (1 < o.cut.toNat)), (18, decide (o.barMask.toNat < 1 ∨ 7 < o.barMask.toNat))]

theorem test_witness_OrderAddAdmitsOrRefuses_fields :
    (∀ f ∈ tFaults (tOrder 42 4 7 (-2400)), f.2 = false)
    ∧ (tFaults (tOrder 0 16 8 2401)).find? (fun x => x.2) = some (0, true)
    ∧ (tFaults (tOrder 1 16 8 2401)).find? (fun x => x.2) = some (2, true)
    ∧ (tFaults (tOrder 1 15 8 2401)).find? (fun x => x.2) = some (8, true)
    ∧ (tFaults (tOrder 1 15 0 2400)).find? (fun x => x.2) = some (18, true) := by decide +kernel

theorem test_witness_OrderAddAdmitsOrRefuses_bars :
    tO.store.segments 4 = [.stitch 200 100 0] ++ .bars ⟨true, false, true⟩ :: []
    ∧ (∀ u, Segment.bars u ∈ [Segment.stitch 200 100 0] → (u.inter ⟨false, true, false⟩).isEmpty = false)
    ∧ ((⟨true, false, true⟩ : BarSet).inter ⟨false, true, false⟩).isEmpty = true
    ∧ ((tO.store.slot 4).initialBars.inter ⟨false, true, false⟩).isEmpty = false := by
  refine ⟨by decide +kernel, ?_, by decide, by decide⟩
  simp

theorem test_witness_OrderCancelAndQueueLow_zero : (0 : BitVec 16).toNat = 0 := rfl

theorem test_witness_PlanGroupsInOrder_stitches :
    let sped : State := { tSegments with store := { tSegments.store with
      segMem := [(0, .speed 900), (1, .tack 1), (2, .speed 60)] } }
    tO.store.segment 4 0 = some (.stitch 200 100 0) ∧ sped.store.segment 4 0 = some (.speed 900)
    ∧ (tGroup .repeating 0 true).segment + 1 < (sped.store.slot 4).segmentCount
    ∧ sped.store.segment 4 2 = some (.speed 60)
    ∧ ¬ (tGroup .repeating 2 true).segment + 1 < (sped.store.slot 4).segmentCount
    ∧ { tGroup .between 2 true with bars := tBars }.bars = (tSegments.store.slot 4).initialBars.inter ⟨true, true, true⟩
    ∧ tO.planner.queue.length ≤ 8 ∧ tO.planner.cursor = some tCursor ∧ tNone.planner.cursor = none := by decide +kernel

/-- The state with no order and these parameters and audit state. -/
def tSet (p : Params) (a : AuditState) : State := { tNone with params := p, audit := { Audit.reset with state := a } }

theorem test_witness_SetParamsAppliesWholeOrNothing_consistency :
    let chain := [(ParamId.lineMax, (1200 : Int)), (.chainBytes, 1), (.mapBar0, 0x100)]
    let guarded := [(ParamId.autoAudit, (0 : Int)), (.creep, 80), (.iminX, 1000)]
    (namedPairs [(1, 1200), (20, 1), (21, 0x100)]).map clampPair = chain
    ∧ (tNone.params.apply chain).beyondChain = true ∧ ParamId.chainBound .chainBytes = true
    ∧ chain = [(.lineMax, 1200)] ++ (.chainBytes, 1) :: [(.mapBar0, 0x100)]
    ∧ (∀ q ∈ [(ParamId.lineMax, (1200 : Int))], q.1.chainBound = false)
    ∧ (namedPairs [(34, 0), (2, 80), (8, 1000)]).map clampPair = guarded
    ∧ ParamId.guarded .creep = true ∧ (∀ q ∈ [(ParamId.autoAudit, (0 : Int))], q.1.guarded = false)
    ∧ (∀ p ∈ guarded, p.1.chainBound = false)
    ∧ guardFault (tNone.params.apply guarded) tNone.shaft.accepted.width = some 0 := by decide +kernel

theorem test_witness_SetParamsAppliesWholeOrNothing_actions :
    let kY := [(ParamId.kY, (5 : Int))]
    let auto := [(ParamId.autoAudit, (1 : Int))]
    (namedPairs [(7, 5)]).map clampPair = kY ∧ (tSet Params.default .counting).takesRequests
    ∧ (tSet Params.default .counting).audit.state = .counting
    ∧ (tSet Params.default .counting).params.kY ≠ ((tSet Params.default .counting).params.apply kY).kY
    ∧ ((tSet Params.default .counting).params.apply kY).beyondChain = false
    ∧ guardFault ((tSet Params.default .counting).params.apply kY) tNone.shaft.accepted.width = none
    ∧ (namedPairs [(34, 1)]).map clampPair = auto ∧ (tSet Params.default .idle).params.autoAudit = false
    ∧ ((tSet Params.default .idle).params.apply auto).autoAudit = true
    ∧ (tO.params.lowWater ≠ (tO.params.apply [(.lowWater, 0)]).lowWater
        ∧ (tO.params.apply [(.lowWater, 0)]).lowWater < tO.schedule.queuedCount) := by decide +kernel

theorem test_witness_RephaseSetsAngle_both :
    let s : State := { State.reset with shaft := { (tTurning State.reset).shaft with angleValid := false } }
    s.takesRequests ∧ s.shaft.stopped = false ∧ s.shaft.angleValid = false ∧ (0 : BitVec 16).toNat < 4096 := by decide

/-! ## Witnesses: the shaft, further clauses -/

/-- The line FEEDING with the parked count at n. -/
def tParked (n : Int) (s : State) : State :=
  let t := tMode .feeding s
  { t with line := { t.line with parkedCount := n } }

theorem test_witness_EncoderCountMovesShaft_parked :
    let forward (s : State) : Shaft := { s.shaft with
      position := s.shaft.position + 1, stopped := false, lastCount := some .forward, reverseRun := 0 }
    let reverse (s : State) : Shaft := { s.shaft with
      position := s.shaft.position - 1, stopped := false, lastCount := some .reverse, clean := false, reverseRun := 1 }
    (tParked 16 tO).line.effective = .feeding ∧ (tParked 16 tO).line.parkHanded = false
    ∧ ((16 : Int) + 1).natAbs = 17 ∧ ((-16 : Int) + -1).natAbs = 17 ∧ ((15 : Int) + 1).natAbs ≠ 17
    ∧ (tParked (-16) tO).shaft.reverseRun ≠ 32 ∧ (tParked 16 tO).line.faults.has .park = false
    ∧ (forward (tParked 16 tO)).eventHere = false ∧ (reverse (tParked (-16) tO)).reverseRun = 1
    ∧ (tParked 16 tO).motion.burst = none ∧ (tParked 16 tO).motion.feed = none := by decide +kernel

theorem test_witness_IndexPulseTaken_arming :
    let park (armCount speed : Nat) : State := { tParking 1 tO with
      shaft := { tO.shaft with speed := speed }
      gov := { (tParking 1 tO).gov with armed := false, inTol := 2, armCount := armCount } }
    (park 2 60).gov.state = .parking ∧ (park 2 60).gov.released = true ∧ (park 2 60).gov.armed = false
    ∧ demandOf (park 2 60) = 60 ∧ mag (((park 2 70).shaft.speed : Int) - (park 2 70).gov.applied) ≤ 10
    ∧ ¬ mag (((park 2 71).shaft.speed : Int) - (park 2 71).gov.applied) ≤ 10
    ∧ 10 < mag ((demandOf (park 2 60) : Int) - 1000)
    ∧ { (park 2 60).gov with applied := 1000 }.applied = 1000 := by decide +kernel

theorem test_witness_WindowEventsByAngle_counts :
    let due : State := { tJudged (.armed 2) .plan 0 0 with shaft := (tAt 3328 tClosed tO).shaft }
    let close := tWithBurst (tBurst 1 0) (tMode .running (tAt 768 { tOpen with stopGiven := true } tO))
    (tAt 4102 tClosed tO).resetAsserted = false ∧ (tAt 4102 tClosed tO).line.effective ≠ .feeding
    ∧ (tAt 4102 tClosed tO).shaft.position ≤ 4102 ∧ -4104 < (tAt 4102 tClosed tO).shaft.position
    ∧ State.reset.shaft.angleValid = false ∧ due.breakDue = true ∧ due.shaft.angle = due.shaft.active.windowOpen
    ∧ due.shaft.window.inProgress = false ∧ due.shaft.angleValid = true ∧ (tAt 3328 tClosed tO).breakDue = false
    ∧ close.motion.burst = some (tBurst 1 0) ∧ (tBurst 1 0).frozen = false ∧ close.shaft.window.inProgress = true
    ∧ close.shaft.angle = close.shaft.window.closeAt ∧ close.shaft.angle ≠ close.shaft.window.stopAt
    ∧ close.line.faults.has .overrun = false ∧ close.line.effective = .running ∧ close.shaft.stopped = false
    ∧ (tAt 768 tOpen tO).motion.emitting = false
    ∧ (tParking 1 tO).gov.armed = true ∧ (tParking 1 tO).gov.braked = false := by decide +kernel

theorem test_witness_WindowEventsByAngle_resume :
    let s := tWithBurst { tBurst 7 2 with frozen := true } (tAt 357 tOpen
      { tO with line := { tO.line with permission := true } })
    let fresh : State := { s with
      shaft := { s.shaft with period := none }, gov := { s.gov with applied := 600 } }
    s.motion.burst = some { tBurst 7 2 with frozen := true } ∧ s.line.permission = true
    ∧ s.shaft.window.inProgress = true
    ∧ forwardCounts s.shaft.window.openAt s.shaft.angle < forwardCounts s.shaft.window.openAt s.shaft.window.closeAt
    ∧ s.shaft.stopped = false ∧ s.shaft.lastCount = some .forward ∧ s.shaft.period = some 60000
    ∧ fresh.shaft.period = none ∧ fresh.gov.applied ≠ 0 ∧ 100000 = 60000000 / fresh.gov.applied
    ∧ tO.motion.burstFrozen = false ∧ tO.line.permission = false := by decide +kernel

theorem test_witness_StoppedShaftSettles_reached :
    let turning : State := tAt 0 tOpen tO
    let feed : State := tParking 1 (tStopping .feed .park (tHead (.feed .jump 1 0 tRef) turning))
    let atOnce (p : StopPurpose) : State := tStopping p .atOnce turning
    feed.gov.state = .parking ∧ feed.shaft.angleValid = true ∧ feed.shaft.stop.insideActive = true
    ∧ feed.line.effective = .stopping ∧ feed.line.stopPurpose = some .feed ∧ feed.line.stopKind = some .park
    ∧ feed.line.resumeStep = .none ∧ feed.planner.headStitch = none
    ∧ (tStopping .endOfPanel .park feed).line.stopPurpose = some .endOfPanel
    ∧ (atOnce .hold).gov.state = .halted ∧ (atOnce .hold).line.effective = .stopping
    ∧ (atOnce .hold).line.stopKind = some .atOnce ∧ (atOnce .hold).line.stopPurpose = some .hold
    ∧ (atOnce .fault).line.stopPurpose = some .fault ∧ feed.bars.change = none ∧ feed.anyWaiting = false := by
  decide +kernel

/-! ## Witnesses: the axes, further clauses -/

/-- The state turning inside the window with the permission granted and the head record begun. -/
def tOpening (s : State) : State :=
  let t := tTurning s
  { t with line := { t.line with permission := true }, planner := { t.planner with headBegun := true } }

/-- The state with these replay stitches. -/
def tReplaying (l : List Stitch) (s : State) : State := { s with line := { s.line with replay := l } }

theorem test_witness_PulsesEmittedInsideTheWindow_begins :
    let still : Stitch := { tStitch with stepX := 0, stepY := 0 }
    let replay := tReplaying [tStitch] (tOpening tO)
    let empty : State := { tOpening tO with planner := Planner.reset }
    let unbegun : State := { tOpening tO with planner := { tO.planner with headBegun := false } }
    replay.line.replay.head? = some tStitch ∧ replay.line.permission = true ∧ replay.motion.burst = none
    ∧ 1 ≤ replay.params.kX ∧ 1 ≤ replay.params.kY ∧ tStitch.stepX ≠ 0 ∧ replay.shaft.period = some 60000
    ∧ (tHead (.tack still true) (tOpening tO)).planner.headStitch = some (still, true)
    ∧ (tHead (.tack still true) (tOpening tO)).planner.headBegun = true ∧ still.stepX = 0 ∧ still.stepY = 0
    ∧ empty.line.replay = [] ∧ empty.planner.headStitch = none
    ∧ unbegun.planner.head = some tStitchRec ∧ tStitchRec.stitch?.isSome = true ∧ unbegun.planner.headBegun = false
    ∧ tO.line.permission = false ∧ (tEmitting 1 1 tO).motion.burst ≠ none := by decide +kernel

/-- An axis with n pulses left, one of them held back or not. -/
def tAxis (n : Nat) (waiting : Bool) : AxisMove := ⟨n, true, 98, waiting⟩

theorem test_witness_PulsesEmittedInsideTheWindow_waiting :
    let x : State := tWithBurst { tBurst 0 0 with x := tAxis 2 true } (tAt (-668) tOpen tO)
    let y : State := tWithBurst { tBurst 0 0 with x := tAxis 1 false, y := tAxis 1 true } (tAt (-668) tOpen tO)
    let fed : State := tWithFeed { tFeed .moving 0 0 with y := tAxis 2 true } tO
    let home : State := { tNone with motion := { tNone.motion with homing := some ⟨20798, 200, true⟩ } }
    x.shaft.pulsesAllowed = true ∧ x.motion.homing = none ∧ x.motion.xKnown = true
    ∧ x.motion.burst = some { tBurst 0 0 with x := tAxis 2 true } ∧ 2 ≤ (tAxis 2 true).left ∧ 1 ≤ (tAxis 1 true).left
    ∧ y.motion.burst = some { tBurst 0 0 with x := tAxis 1 false, y := tAxis 1 true } ∧ y.shaft.pulsesAllowed = true
    ∧ fed.motion.burst = none ∧ fed.motion.feed = some { tFeed .moving 0 0 with y := tAxis 2 true }
    ∧ fed.auditCounts = false ∧ fed.shaft.pulsesAllowed = true
    ∧ home.motion.homing = some ⟨20798, 200, true⟩ ∧ 20798 + 1 < 2600 * home.params.kX ∧ home.shaft.pulsesAllowed = true
    ∧ (tAt 768 tOpen tO).shaft.pulsesAllowed = false ∧ tO.anyWaiting = false := by decide +kernel

theorem test_witness_StitchCompletionHandOffs_records :
    let s := tMode .running (tEmitting 1 0 tO)
    let stop := tHead tStitchRec s
    let counted : State := { tDriving s with audit := { Audit.reset with state := .counting, cCmd := 65482 } }
    s.motion.burst = some (tBurst 1 0) ∧ (tBurst 1 0).y.left = 0 ∧ (tBurst 1 0).x.left = 1
    ∧ (tBurst 1 0).x.waiting = false ∧ s.audit.state ≠ .counting ∧ s.line.effective = .running
    ∧ s.line.resumeStep ≠ .frozen ∧ s.line.replay = [] ∧ (removeHead stop).planner.head = some (.endMark tRef)
    ∧ (PlanRecord.endMark tRef).isStop = true
    ∧ (removeHead { s with planner := { s.planner with queue := [tStitchRec, tStitchRec] } }).planner.headIsStop = false
    ∧ counted.audit.state = .counting ∧ counted.line.effective = .running ∧ counted.gov.state = .locked
    ∧ mag tStitch.stepY * counted.params.kY = 52 ∧ counted.audit.cCmd + 52 < 65535
    ∧ 65535 ≤ { counted.audit with cCmd := 65483 }.cCmd + 52 := by decide +kernel

theorem test_witness_StitchCompletionHandOffs_replay :
    let b : Burst := { tBurst 1 0 with source := .replay }
    let s (l : List Stitch) : State := tReplaying l (tWithBurst b (tMode .running (tEmitting 1 0 tO)))
    let up : State := { s [tStitch] with bars := { (s [tStitch]).bars with b0 := ⟨.up, false, true, false, false, .idle⟩ } }
    let stop : State := { s [tStitch] with planner := { tO.planner with queue := [.endMark tRef] } }
    let frozen : State := { s [tStitch] with line := { (s [tStitch]).line with resumeStep := .frozen, overlapPending := true } }
    (s []).motion.burst = some b ∧ b.source = .replay ∧ (s [tStitch, tStitch]).line.replay.tail ≠ []
    ∧ (s [tStitch]).line.replay.tail = [] ∧ (s [tStitch]).planner.headStitch = some (tStitch, false)
    ∧ tStitch.bars = (s [tStitch]).bars.engaged ∧ tStitch.bars ≠ up.bars.engaged
    ∧ stop.planner.head = some (.endMark tRef) ∧ (s [tStitch]).line.effective = .running
    ∧ { (tDriving tO).gov with purpose := some .replay }.purpose = some .replay
    ∧ frozen.line.resumeStep = .frozen ∧ frozen.line.effective = .running ∧ frozen.line.overlapPending = true
    ∧ (tStopping .hold .atSegment frozen).line.effective ≠ .running := by decide +kernel

theorem test_witness_FeedMovesBeginSearchAndCut_empty :
    let lead := tFeeding (.leadIn 1000) 0 0 true
    let gap := tFeeding .gap 0 0 true
    let last : State := { gap with
      schedule := ⟨[tActive], true⟩
      planner := { gap.planner with queue := [.feed .gap 0 0 tRef], cursor := some (tGroup .finished 2 true) } }
    let back : State := { tMode .feeding tO with motion := { tO.motion with backMove := some (-25, 0) } }
    let cut : State := { tFeeding .gap 1 1 true with
      schedule := ⟨[{ tActive with spec := { tSpec with cut := true } }], true⟩, params := { tO.params with kY := 0, kX := 0 } }
    lead.planner.headBegun = true ∧ ((1000 : Int) - lead.motion.x) * lead.params.kX - lead.motion.ex = 0
    ∧ lead.cutGap = false ∧ lead.bars.change = none ∧ gap.cutGap = false
    ∧ last.schedule.orders = tActive :: [] ∧ last.planner.queue.tail = []
    ∧ last.planner.cursor.map (fun c => c.stage) = some .finished ∧ last.line.effective = .feeding
    ∧ { last with schedule := ⟨[tActive, tQueued], true⟩ }.schedule.orders = tActive :: tQueued :: []
    ∧ back.motion.backMove = some (-25, 0) ∧ (-25 : Int) * back.params.kX ≠ 0 ∧ back.motion.feed = none
    ∧ back.shaft.stopped = true ∧ cut.cutGap = true ∧ (1 / 2 : Int) * cut.params.kY = 0 := by decide +kernel

theorem test_witness_FeedMovesBeginSearchAndCut_frozen :
    let lead := tWithFeed (tFeed .frozen 0 1) (tFeeding (.leadIn 999) 0 1 true)
    let jump := tWithFeed (tFeed .frozen 1 0) (tFeeding .jump 1 0 true)
    let searched := tWithFeed { tFeed .searchEnded 0 0 with reentered := true } (tFeeding .markSearch 0 0 true)
    lead.motion.feed = some (tFeed .frozen 0 1) ∧ (tFeed .frozen 0 1).state = .frozen
    ∧ (tFeed .frozen 0 1).source = .record ∧ lead.planner.head = some (.feed (.leadIn 999) 0 1 tRef)
    ∧ ((999 : Int) - lead.motion.x) * lead.params.kX - lead.motion.ex ≠ 0
    ∧ jump.planner.head.map PlanRecord.isLeadIn ≠ some true ∧ (tFeed .frozen 1 0).x.left ≠ 0
    ∧ searched.motion.feed = some { tFeed .searchEnded 0 0 with reentered := true }
    ∧ searched.motion.backMove = none ∧ (tFeed .searchEnded 0 0).reentered = false := by decide +kernel

theorem test_witness_FeedMovesBeginSearchAndCut_ends :
    let whole : Order := { tActive with spec := { tSpec with cut := false } }
    let s (kind : FeedKind) : State := tWithFeed (tFeed .moving 0 1) (tFeeding kind 0 2 true)
    let uncut : State := { s .gap with schedule := ⟨[whole], true⟩ }
    let second : State := tWithFeed { tFeed .moving 0 1 with part := .second, cutDone := true } (s .gap)
    let waits (p : StopPurpose) : State := tStopping p .atStitch (tCutting true)
    (s .jump).motion.burst = none ∧ (s .jump).motion.feed = some (tFeed .moving 0 1) ∧ (tFeed .moving 0 1).x.left = 0
    ∧ (tFeed .moving 0 1).y.left = 1 ∧ (tFeed .moving 0 1).y.waiting = false
    ∧ (s .jump).planner.queue = .feed .jump 0 2 tRef :: [.endMark tRef] ∧ (s .jump).line.effective = .feeding
    ∧ (s .jump).audit.state ≠ .counting ∧ (s .gap).cutGap = true ∧ (tFeed .moving 0 1).part = .first
    ∧ uncut.cutGap = false ∧ second.motion.feed = some { tFeed .moving 0 1 with part := .second, cutDone := true }
    ∧ (tCutting true).stitchStopOn = false ∧ (waits .hold).stitchStopOn = true ∧ (waits .fault).stitchStopOn = true
    ∧ (waits .hold).motion.emitting = false ∧ (waits .hold).shaft.stopped = true
    ∧ (waits .hold).line.stopPurpose = some .hold ∧ (waits .fault).line.stopPurpose = some .fault
    ∧ (waits .hold).motion.cutTimer = some 150 := by decide +kernel

/-! ## Witnesses: the bars, the line and the audit, further clauses -/

theorem test_witness_BarsMoveThroughDeadTime_refused :
    let thread := tMode .threading tO
    2 < (3 : Byte).toNat ∧ (2 : Byte).toNat ≤ 2 ∧ 1 < (2 : Byte).toNat ∧ (1 : Byte).toNat ≤ 1 ∧ tO.takesRequests
    ∧ tO.line.effective ≠ .threading ∧ thread.line.effective = .threading ∧ (tTurning thread).takesRequests
    ∧ ¬ ((tTurning thread).shaft.stopped = true ∧ (tTurning thread).pins.jog = false)
    ∧ ¬ (thread.shaft.stopped = true ∧ { thread.pins with jog := true }.jog = false)
    ∧ (thread.shaft.stopped = true ∧ thread.pins.jog = false)
    ∧ (tChange ⟨.restore, tBars, false⟩ thread).bars.change ≠ none := by decide +kernel

/-- The state with bar 0 held up, so that the head stitch's bars are not held. -/
def tRaised (s : State) : State := tBar0 ⟨.up, false, true, false, false, .idle⟩ s

theorem test_bar0_not_held : ¬ ∀ b, ((tRaised tO).bars.get b).heldAt (tStitch.bars.mem b) = true :=
  fun h => absurd (h .b0) (by decide)

/-- The state with these history entries and overlap recovery due. -/
def tRecovering (h : List Stitch) (overlap : Nat) : State :=
  { tO with line := { tO.line with history := h, overlapPending := true }, params := { tO.params with overlap := overlap } }

theorem test_witness_RunBeginsResumeSequence_steps :
    let frozen (src : BurstSource) := tWithBurst { tBurst 1 0 with frozen := true, source := src } tO
    let b (s : State) : Nat := max s.line.replay.length (min s.params.overlap
      (s.line.history.reverse.takeWhile fun u => decide (s.line.history.getLast?.map (fun v => v.bars) = some u.bars)).length)
    (frozen .head).shaft.parked = true ∧ (frozen .head).motion.burst = some { tBurst 1 0 with frozen := true, source := .head }
    ∧ (frozen .replay).motion.burst = some { tBurst 1 0 with frozen := true, source := .replay }
    ∧ (frozen .head).gov.state = .halted ∧ 1 ≤ (frozen .head).params.deadTime
    ∧ (tRecovering [tStitch, { tStitch with bars := ⟨true, false, false⟩ }, tStitch, tStitch] 6).motion.feed = none
    ∧ b (tRecovering [tStitch, { tStitch with bars := ⟨true, false, false⟩ }, tStitch, tStitch] 6) = 2
    ∧ b (tRecovering [tStitch] 0) = 0 ∧ (tRecovering [tStitch] 0).line.overlapPending = true
    ∧ (tReplaying [tStitch] tO).line.replay = tStitch :: [] ∧ (tReplaying [tStitch] tO).line.overlapPending = false
    ∧ (tRaised tO).planner.headStitch = some (tStitch, false) ∧ (tRaised tO).shaft.parked = true := by decide +kernel

theorem test_witness_RunBeginsResumeSequence_cancelsHold :
    let hold (o : HoldOrigin) (s : State) : State :=
      let t := tStopping .hold .atStitch s
      { t with line := { t.line with holdOrigin := some o } }
    let stop := tHead (.feed .jump 1 0 tRef) (tParking 1 tO)
    (hold .running tO).takesRequests ∧ (hold .running tO).stoppingForHold = true
    ∧ (hold .running tO).line.faults.latched = [] ∧ (hold .running tO).motion.xKnown = true
    ∧ (hold .running tO).orderActive = true ∧ (hold .running tO).line.holdOrigin = some .running
    ∧ (hold .running (tWithBurst (tBurst 1 0) tO)).motion.burst ≠ none ∧ tO.planner.headIsStop = false
    ∧ (hold .running (tParking 1 tO)).gov.state = .parking ∧ (hold .running (tDriving tO)).gov.state = .locked
    ∧ (hold .feeding (tChange ⟨.record, tBars, false⟩ tO)).bars.change ≠ none
    ∧ (hold .feeding stop).bars.change = none ∧ (hold .feeding stop).line.resumeStep = .none
    ∧ (hold .feeding stop).planner.headStitch = none
    ∧ (hold .stopFeed stop).line.holdOrigin = some .stopFeed ∧ (hold .stopFeed stop).gov.state ≠ .halted
    ∧ (hold .stopEnd (tTurning tO)).line.holdOrigin = some .stopEnd
    ∧ (hold .stopEnd (tTurning tO)).gov.state = .halted ∧ (hold .stopEnd (tTurning tO)).shaft.parked = false := by
  decide +kernel

theorem test_witness_RunBeginsResumeSequence_backMove :
    let f : Feed := { tFeed .moving 0 1 with source := .backMove }
    let s : State := tWithFeed f { tMode .feeding (tRecovering [tStitch, tStitch] 6) with
      line := { (tMode .feeding (tRecovering [tStitch, tStitch] 6)).line with recoveryCount := 1, resumeStep := .backMove } }
    s.resetAsserted = false ∧ s.shaft.stopped = true ∧ s.motion.burst = none ∧ s.motion.feed = some f
    ∧ f.state = .moving ∧ f.source = .backMove ∧ f.x.left = 0 ∧ f.y.left = 1 ∧ f.y.waiting = false
    ∧ s.audit.state ≠ .counting ∧ s.line.history.drop (s.line.history.length - s.line.recoveryCount) = tStitch :: []
    ∧ s.line.effective = .feeding ∧ s.gov.state = .halted ∧ s.line.faults.atOnce = false ∧ s.stoppingForFault = false
    ∧ (tStopping .hold .atStitch s).stoppingForHold = true ∧ (tStopping .hold .atStitch s).line.stopKind = some .atStitch
    ∧ 1 ≤ s.params.deadTime := by decide +kernel

theorem test_witness_HoldStopsTheLine_origins :
    let hold (k : HoldKind) (s : State) : State :=
      let t := tStopping .hold k.stopKind s
      { t with line := { t.line with holdOrigin := some .feeding } }
    (tStopping .feed .park tO).line.effective = .stopping ∧ (tStopping .feed .park tO).line.stopPurpose = some .feed
    ∧ (tStopping .endOfPanel .park tO).line.stopPurpose = some .endOfPanel
    ∧ (hold .atStitch tO).stoppingForHold = true ∧ (hold .atStitch tO).line.stopKind = some (HoldKind.stopKind .atStitch)
    ∧ (hold .atStitch tO).line.holdOrigin = some .feeding ∧ (hold .atSegment tO).stoppingForHold = true
    ∧ (hold .atOnce tO).line.stopKind = some (HoldKind.stopKind .atOnce)
    ∧ (tParking 1 (tTurning (tStopping .feed .park tO))).gov.state = .parking
    ∧ (tTurning (tMode .feeding tO)).line.permission = false ∧ 2 < (3 : Byte).toNat
    ∧ { tO.params with holdInputKind := none }.holdInputKind = none := by decide

theorem test_witness_FaultsLatchAndStop_moves :
    let moving := tWithFeed (tFeed .moving 1 0) (tWithBurst (tBurst 1 0) tO)
    moving.motion.burst = some (tBurst 1 0) ∧ (tBurst 1 0).frozen = false
    ∧ moving.motion.feed = some (tFeed .moving 1 0) ∧ (tFeed .moving 1 0).state = .moving
    ∧ (tCutting false).motion.feed = some (tFeed .cutting 0 0) ∧ (tFeed .cutting 0 0).state = .cutting
    ∧ moving.line.faults.has .estop = false ∧ (tCutting false).resetAsserted = false := by decide

theorem test_witness_AuditCountsAndJudges_pulses :
    let s := tWithFeed (tFeed .moving 0 2) (tCounting 0 0)
    let last : State := { s with audit := { s.audit with cCmd := 65534 } }
    s.motion.burst = none ∧ s.motion.feed = some (tFeed .moving 0 2) ∧ (tFeed .moving 0 2).state = .moving
    ∧ s.shaft.pulsesAllowed = true ∧ 2 ≤ (tFeed .moving 0 2).y.left ∧ (tFeed .moving 0 2).y.waiting = false
    ∧ s.audit.state = .counting ∧ s.line.effective = .feeding ∧ s.audit.cCmd + 1 < 65535
    ∧ last.audit.cCmd = 65534 := by decide

theorem test_witness_AuditCountsAndJudges_index :
    let at4096 (s : State) : State := tAt 4096 tOpen s
    let run : State := tDriving (tMode .running (at4096 (tCounting 0 0)))
    let starting : State := { at4096 (tCounting 0 0) with
      shaft := { (at4096 (tCounting 0 0)).shaft with revStart := some 0, clean := true } }
    (at4096 (tCounting 0 0)).shaft.angleValid = true ∧ (at4096 (tCounting 0 0)).shaft.position = 4096
    ∧ (at4096 (tCounting 0 0)).shaft.pendingSet = none ∧ (at4096 (tCounting 0 0)).anyWaiting = false
    ∧ (at4096 (tCounting 0 0)).shaft.revStart = none ∧ starting.shaft.revStart = some 0 ∧ starting.shaft.clean = true
    ∧ 0 < 60000 ∧ (indexGov false (at4096 (tCounting 0 0))).gateOpen = (at4096 (tCounting 0 0)).gateOpen
    ∧ (tCounting 0 0).line.effective = .feeding ∧ (tCounting 0 0).audit.state = .counting
    ∧ ¬ (tO.audit.state = .counting) ∧ (indexGov true run).gateOpen ≠ run.gateOpen := by decide +kernel

/-! ## Witnesses: frames under a reset, counts and index pulses in every band, the ends of a change, START and HOLD -/

/-- R105 and R121: a STEP output is high for the 5 µs of a pulse, and low with none since the reset. -/
theorem test_step_outputs :
    (tO.motion.outputs (some 4) (some 5)).xstep = true ∧ (tO.motion.outputs (some 4) (some 5)).ystep = false
    ∧ State.reset.motion.outputs none none = ⟨false, false, false, false, false, true⟩ := by decide

theorem test_witness_FramesJudgedInOrder_reset :
    { (tReply tO).link with resetPending := true }.resetPending = true
    ∧ { tO with resetAsserted := true }.resetAsserted = true := by decide

/-- The line FEEDING, turning at a position, with a frozen feed move and a frozen burst in hand. -/
def tFrozenAt (z parked : Int) (w : Window) : State :=
  tWithBurst { tBurst 1 1 with frozen := true } (tWithFeed (tFeed .frozen 1 1) (tParked parked (tAt z w tO)))

theorem test_witness_EncoderCountMovesShaft_moves :
    let forward (s : State) : Shaft := { s.shaft with
      position := s.shaft.position + 1, stopped := false, lastCount := some .forward, reverseRun := 0 }
    let s := tFrozenAt 4102 16 tClosed
    s.resetAsserted = false ∧ s.anyWaiting = false ∧ s.motion.burst ≠ none ∧ s.motion.feed ≠ none
    ∧ s.line.permission = false ∧ s.shaft.position ≤ 4102 ∧ -4104 < s.shaft.position
    ∧ (forward s).eventHere = false ∧ s.line.effective = .feeding ∧ s.line.parkHanded = false
    ∧ (s.line.parkedCount + 1).natAbs = 17 ∧ (s.line.parkedCount + -1).natAbs ≠ 17
    ∧ ((tFrozenAt 4102 (-16) tClosed).line.parkedCount + -1).natAbs = 17 ∧ s.shaft.reverseRun ≠ 32
    ∧ s.line.faults.has .park = false := by decide +kernel

theorem test_witness_IndexPulseTaken_bands :
    let here (z y : Int) (w : Window) : Bool := Shaft.eventHere { (tAt z w tO).shaft with position := y }
    let early : Window := { tOpen with stopAt := 4095 }
    (tAt 4094 tClosed tO).resetAsserted = false ∧ (tAt 4094 tClosed tO).shaft.pendingSet = none
    ∧ (tAt 4094 tClosed tO).shaft.angleValid = true ∧ (tAt 4094 tClosed tO).audit.state ≠ .counting
    ∧ (tAt 4094 tClosed tO).anyWaiting = false ∧ here 4094 (-1) tClosed = false ∧ here 4094 0 tClosed = false
    ∧ here 4094 (-1) early = true ∧ here 4094 0 tOpen = true ∧ here 4095 0 tOpen = true
    ∧ here (-2) 0 tOpen = true ∧ here (-4098) (-1) early = true ∧ here (-1) 0 tClosed = false
    ∧ (tAt 4098 tOpen tO).shaft.position = 4098 ∧ (tAt (-4094) tOpen tO).shaft.position = -4094
    ∧ (tAt 2 tOpen tO).shaft.position = 2 ∧ (tAt 4094 tOpen tO).shaft.revStart = none
    ∧ { (tAt 4094 tOpen tO).shaft with revStart := some 3 }.revStart = some 3 := by decide +kernel

theorem test_witness_WindowEventsByAngle_feeding :
    let s := tFrozenAt 4102 16 tClosed
    let r := tFrozenAt (-4102) (-16) tOpen
    s.resetAsserted = false ∧ s.shaft.angleValid = true ∧ s.shaft.position ≤ 4102 ∧ -4104 < s.shaft.position
    ∧ s.line.effective = .feeding ∧ s.line.parkHanded = false ∧ (s.line.parkedCount + 1).natAbs = 17
    ∧ ¬ ((tFrozenAt 4102 15 tClosed).line.parkHanded = false ∧ ((tFrozenAt 4102 15 tClosed).line.parkedCount + 1).natAbs = 17)
    ∧ -4102 ≤ r.shaft.position ∧ r.shaft.position < 4104 ∧ r.shaft.reverseRun ≠ 32
    ∧ (r.line.parkedCount + -1).natAbs = 17 ∧ (tAt (-4102) tOpen tO).line.effective ≠ .feeding := by decide +kernel

theorem test_witness_StitchCompletionHandOffs_stepTwo :
    let s := tWithBurst (tBurst 0 1) (tStopping .hold .atSegment (tTurning tO))
    let t := { s with line := { s.line with resumeStep := .frozen, overlapPending := true } }
    t.line.resumeStep = .frozen ∧ t.line.effective ≠ .running ∧ t.line.overlapPending = true
    ∧ t.shaft.stopped = false ∧ t.motion.burst = some (tBurst 0 1) ∧ t.audit.state ≠ .counting := by decide +kernel

theorem test_witness_BarsMoveThroughDeadTime_released : ((tBar0 tDead tO).bars.get .b0).released = false := by decide

/-- The line FEEDING at a resume step with a change to bars 0 and 1 whose bar 0 is still being lowered, and these records. -/
def tEnding (kind : ChangeKind) (step : ResumeStep) (q : List PlanRecord) : State :=
  let s := tMode .feeding (tChange ⟨kind, tBars, false⟩ (tBar0 tPowered tO))
  { s with line := { s.line with resumeStep := step }, planner := { s.planner with queue := q } }

theorem test_witness_BarsConfirmOrTimeOut_ends :
    let change : PlanRecord := .barChange tBars tRef
    let one : Stitch := { tStitch with bars := ⟨true, false, false⟩ }
    let s := tEnding .record .none [change, .endMark tRef]
    let frozen (src : BurstSource) := tWithBurst { tBurst 1 0 with frozen := true, source := src }
      (tEnding .restore .frozen [tStitchRec])
    s.bars.change = some ⟨.record, tBars, false⟩ ∧ tBars.mem .b0 = true
    ∧ (s.bars.get .b1).heldAt (tBars.mem .b1) = true ∧ (s.bars.get .b2).heldAt (tBars.mem .b2) = true
    ∧ (s.bars.get .b0).released = false ∧ (s.bars.get .b0).state = .lowering ∧ (s.bars.get .b0).vlo = true
    ∧ s.line.effective = .feeding ∧ s.line.resumeStep = .none ∧ s.line.replay = [] ∧ s.gov.state = .halted
    ∧ s.line.faults.atOnce = false ∧ (removeHead s).planner.headStitch = none
    ∧ (removeHead (tEnding .record .none [change, tStitchRec])).planner.headStitch = some (tStitch, false)
    ∧ (removeHead (tEnding .record .none [change, .stitch one true])).planner.headStitch = some (one, true)
    ∧ 1 ≤ s.params.deadTime ∧ (tEnding (.force .b0) .none [tStitchRec]).bars.change = some ⟨.force .b0, tBars, false⟩
    ∧ (tEnding .restore .backMove [tStitchRec]).line.resumeStep = .backMove
    ∧ (frozen .head).line.resumeStep = .frozen
    ∧ (frozen .replay).motion.burst = some { tBurst 1 0 with frozen := true, source := .replay }
    ∧ (tEnding .restore .replay [tStitchRec]).line.resumeStep = .replay
    ∧ (tEnding .restore .restore [tStitchRec]).planner.headStitch ≠ none
    ∧ (tEnding .restore .restore [.endMark tRef]).planner.headStitch = none := by decide +kernel

theorem test_witness_RunBeginsResumeSequence_inputAndHeads :
    let jog := tMode .threading { tO with gov := { (tDriving tO).gov with purpose := some .jog, state := .ramping } }
    let change := tHead (.barChange ⟨true, false, false⟩ tRef) tO
    let f : Feed := { tFeed .frozen 1 1 with source := .backMove }
    (tReply tO).resetAsserted = false ∧ (tReply tO).link.replySlot ≠ none ∧ (tReply tO).orderActive = true
    ∧ jog.line.effective = .threading ∧ jog.gov.purpose = some .jog ∧ jog.orderActive = true
    ∧ (tHead (.endMark tRef) tO).planner.headStitch = none ∧ change.planner.headStitch = none
    ∧ change.recordChangeInHand = false ∧ change.planner.head = some (.barChange ⟨true, false, false⟩ tRef)
    ∧ (tChange ⟨.record, ⟨true, false, false⟩, false⟩ change).recordChangeInHand = true
    ∧ (change.bars.get .b1).heldAt ((⟨true, false, false⟩ : BarSet).mem .b1) = false ∧ 1 ≤ change.params.deadTime
    ∧ (tWithFeed f (tRecovering [tStitch] 6)).motion.feed = some f ∧ f.source = .backMove
    ∧ (tWithFeed f (tRecovering [tStitch] 6)).line.overlapPending = true
    ∧ (tFeed .frozen 1 1).source ≠ .backMove ∧ (tFeed .moving 1 0).y.left = 0 ∧ (tFeed .moving 1 0).x.left = 1
    ∧ (tFeed .moving 1 0).x.waiting = false := by decide +kernel

theorem test_witness_RunBeginsResumeSequence_jogShape :
    GovShape { (tDriving tO).gov with purpose := some .jog, state := .ramping } := by decide

theorem test_witness_HoldStopsTheLine_input :
    (tReply (tMode .running tO)).resetAsserted = false ∧ (tReply (tMode .running tO)).link.replySlot ≠ none
    ∧ (tReply (tMode .running tO)).params.holdInputKind = some .atStitch
    ∧ (tReply (tMode .running tO)).line.effective = .running := by decide

/-! ## Witnesses: waiting changes, the held demand, the stops that await a move, and feeds kept aside -/

/-- The state turning, with a change that waits for the shaft to stop. -/
def tWaiting (kind : ChangeKind) (target : BarSet) (s : State) : State := tChange ⟨kind, target, true⟩ (tTurning s)

theorem test_witness_StoppedShaftSettles_waiting :
    let held := tWaiting .restore tBars tO
    let moves := tWaiting (.force .b0) ⟨false, false, false⟩ (tMode .threading tO)
    held.resetAsserted = false ∧ held.shaft.stopped = false ∧ held.bars.change = some ⟨.restore, tBars, true⟩
    ∧ held.anyWaiting = false ∧ held.gov.state = .halted ∧ held.line.effective ≠ .stopping
    ∧ held.line.effective ≠ .feeding
    ∧ (∀ b ∈ [Bar.b0, .b1, .b2], (held.judgedBar b (tBars.mem b)).heldAt (tBars.mem b) = true)
    ∧ moves.bars.change = some ⟨.force .b0, ⟨false, false, false⟩, true⟩ ∧ moves.line.effective = .threading
    ∧ Bar.b0 ∈ (ChangeKind.force .b0).bars ∧ (moves.judgedBar .b0 false).heldAt false = false
    ∧ (tChange ⟨.restore, tBars, false⟩ (tTurning tO)).bars.change.map (fun c => c.waiting) ≠ some true := by
  decide +kernel

/-- A waiting restore whose bars are in place ends at the stopped event (R124); a raised one begins it. -/
theorem test_waiting_change_begins_at_the_stop :
    (tAfter .stopped (tWaiting .restore tBars tO)).bars.change = none
    ∧ (tAfter .stopped (tWaiting .restore tBars (tRaised tO))).bars.change = some ⟨.restore, tBars, false⟩ := by
  decide +kernel

theorem test_witness_DemandIsTheLeastTerm_held :
    let gov (st : GovState) (released : Bool) : State :=
      { tO with gov := { (tDriving tO).gov with state := st, purpose := some .park, released := released } }
    ScheduleShape State.reset ∧ DemandShape State.reset ∧ DemandShape tO ∧ DemandShape (tDriving tO) ∧ tO.line.faults.atOnce = false
    ∧ step State.reset = .next State.reset
    ∧ (tDriving tO).gov.state = .locked ∧ tO.gov.state = .halted ∧ (gov .ramping true).gov.state = .ramping
    ∧ (gov .parking true).gov.state = .parking ∧ (gov .parking true).gov.released = true
    ∧ (gov .parking false).gov.released = false := by
  refine ⟨by decide +kernel, by decide, by decide +kernel, by decide +kernel, by decide, rfl, ?_⟩
  decide

theorem test_witness_StitchCompletionHandOffs_stops :
    let still (p : StopPurpose) : State := tWithBurst (tBurst 0 0) (tStopping p .atStitch tO)
    let turning := tWithBurst (tBurst 0 0) (tStopping .hold .atStitch (tTurning (tDriving tO)))
    let stitching (q : List PlanRecord) : State :=
      let s := tStopping .hold .atSegment (tTurning (tDriving tO))
      { s with line := { s.line with permission := true }, planner := { s.planner with queue := q } }
    let first : State := stitching [tStitchRec, .endMark tRef]
    let more : State := stitching [tStitchRec, tStitchRec]
    (still .hold).motion.burst = some (tBurst 0 0) ∧ (still .hold).shaft.stopped = true
    ∧ (still .hold).motion.feedRunning = false ∧ (still .hold).stitchStopOn = true
    ∧ (still .hold).audit.state ≠ .counting ∧ (still .hold).line.stopPurpose = some .hold
    ∧ (still .fault).stitchStopOn = true ∧ (still .fault).line.stopPurpose = some .fault
    ∧ turning.shaft.stopped = false ∧ turning.stitchStopOn = true ∧ turning.gov.state = .locked
    ∧ turning.line.faults.atOnce = false ∧ turning.motion.feedRunning = false ∧ turning.line.resumeStep ≠ .frozen
    ∧ (tParking 1 (tStopping .hold .atStitch (tTurning tO))).gov.state = .parking
    ∧ first.segmentStopOn = true ∧ { tBurst 0 0 with last := true }.last = true
    ∧ (completeBurst (tBurst 0 0) (tWithBurst (tBurst 0 0) first)).line.replay = []
    ∧ (completeBurst (tBurst 0 0) (tWithBurst (tBurst 0 0) first)).planner.headIsStop = true
    ∧ more.segmentStopOn = true ∧ (tBurst 0 0).last = false
    ∧ (completeBurst (tBurst 0 0) (tWithBurst (tBurst 0 0) more)).planner.headIsStop = false := by decide +kernel

/-- The line FEEDING with a back move handed over and a FROZEN feed of the head record, in hand or kept aside. -/
def tBehind (back : Option (Int × Int)) (inHand : Bool) : State :=
  let s := tFeeding .jump 1 0 true
  let f := tFeed .frozen 1 0
  { s with motion := { s.motion with
      backMove := back, feed := if inHand then some f else none, asideFeed := if inHand then none else some f } }

theorem test_witness_FeedMovesBeginSearchAndCut_behind :
    let ended (again : Bool) : State :=
      tWithFeed { tFeed .searchEnded 0 0 with reentered := again } (tBehind (some (-25, 0)) false)
    let replaying (inHand : Bool) := tReplaying [tStitch] (tBehind none inHand)
    let cut := tWithFeed (tFeed .frozen 0 0) (tFeeding .gap 0 1 true)
    (tFeeding .jump 1 0 true).motion.asideFeed = none
    ∧ (tBehind (some (-25, 0)) true).line.effective = .feeding ∧ (tBehind (some (-25, 0)) true).shaft.stopped = true
    ∧ (tBehind (some (-25, 0)) true).motion.backMove = some (-25, 0)
    ∧ (-25 : Int) * (tBehind (some (-25, 0)) true).params.kX ≠ 0
    ∧ (tBehind (some (-25, 0)) true).motion.feed = some (tFeed .frozen 1 0) ∧ (tFeed .frozen 1 0).source = .record
    ∧ (tBehind (some (-25, 0)) false).motion.feed = none
    ∧ (ended true).motion.feed = some { tFeed .searchEnded 0 0 with reentered := true }
    ∧ (replaying true).motion.feed = some (tFeed .frozen 1 0) ∧ (replaying true).line.replay ≠ []
    ∧ (replaying true).motion.backMove = none ∧ (replaying false).motion.asideFeed = some (tFeed .frozen 1 0)
    ∧ (replaying false).motion.feed = none ∧ (tBehind none false).motion.asideFeed = some (tFeed .frozen 1 0)
    ∧ (tBehind none false).line.replay = [] ∧ (tBehind none false).line.resumeStep = .none
    ∧ cut.cutGap = true ∧ (tFeed .frozen 0 0).part = .first ∧ (tFeed .frozen 0 0).x.left = 0
    ∧ (tFeed .frozen 0 0).y.left = 0 ∧ cut.motion.feed = some (tFeed .frozen 0 0) ∧ cut.motion.backMove = none := by
  decide +kernel

/-- R117 with R148: the back move goes before the head's FROZEN move, which then resumes. -/
theorem test_back_move_goes_before_the_frozen_record_move :
    let t := tAfter .feedBegin (tBehind (some (-25, 0)) true)
    t.motion.feed.map (fun f => (f.source, f.x.left)) = some (.backMove, 200)
    ∧ t.motion.asideFeed = some (tFeed .frozen 1 0)
    ∧ (tAfter .feedBegin (tBehind none false)).motion.feed.map (fun f => (f.source, f.x.left)) = some (.record, 1) := by
  decide +kernel

theorem test_witness_FeedMovesBeginSearchAndCut_stops :
    let s (kind : FeedKind) (p : StopPurpose) : State :=
      tStopping p .atStitch (tWithFeed (tFeed .moving 0 1) (tFeeding kind 0 2 true))
    let second : State := tWithFeed { tFeed .moving 0 1 with part := .second, cutDone := true } (s .gap .hold)
    (s .jump .hold).motion.burst = none ∧ (s .jump .hold).motion.feed = some (tFeed .moving 0 1)
    ∧ (s .jump .hold).stitchStopOn = true ∧ (s .jump .hold).shaft.stopped = true
    ∧ (s .jump .hold).audit.state ≠ .counting ∧ (s .jump .hold).cutGap = false
    ∧ (s .jump .hold).planner.queue = .feed .jump 0 2 tRef :: [.endMark tRef] ∧ (s .jump .hold).planner.headIsGap = false
    ∧ (s .jump .hold).line.stopPurpose = some .hold ∧ (s .jump .fault).line.stopPurpose = some .fault
    ∧ (s .jump .fault).stitchStopOn = true
    ∧ second.motion.feed = some { tFeed .moving 0 1 with part := .second, cutDone := true }
    ∧ second.stitchStopOn = true ∧ second.planner.headIsGap = true := by decide +kernel

/-- The state with no dead time, and bar 0's inputs showing it down or not. -/
def tAtOnce (down : Bool) (s : State) : State :=
  { s with params := { s.params with deadTime := 0 }, pins := { s.pins with bdn := ⟨down, false, false⟩ } }

/-- R124 and R125, case by case: a held bar stands; one moving with its valve on gets a fresh bar_timeout; one in its dead
time goes on with it; any other begins, at once where there is no dead time, and then may already be in place. -/
theorem test_witness_BarsMoveThroughDeadTime_judged :
    let timedOut : BarRec := ⟨.lowering, true, false, false, true, .idle⟩
    let down := tRaised tO
    tO.judgedBar .b0 true = tO.bars.get .b0 ∧ (tBar0 timedOut tO).judgedBar .b0 true = tPowered
    ∧ (tBar0 tDead tO).judgedBar .b0 true = tDead
    ∧ down.judgedBar .b0 true = ⟨.lowering, false, false, false, false, .deadTime down.params.deadTime⟩
    ∧ (tAtOnce false down).judgedBar .b0 true = tPowered
    ∧ ((tAtOnce true down).judgedBar .b0 true).heldAt true = true := by decide +kernel

theorem test_witness_BarsMoveThroughDeadTime_inPlace :
    let s := tMode .feeding (tHead (.barChange tBars tRef) tO)
    (∀ b ∈ [Bar.b0, .b1, .b2], (s.judgedBar b (tBars.mem b)).heldAt (tBars.mem b) = true)
    ∧ s.planner.queue = .barChange tBars tRef :: [.endMark tRef] ∧ s.bars.change = none
    ∧ (tAfter .barChangeBegin s).planner.headStitch = none
    ∧ ((tMode .threading tO).judgedBar .b0 true).heldAt true = true := by decide +kernel

theorem test_witness_SetParamsAppliesWholeOrNothing_governed :
    let s : State := { tSet Params.default .idle with gov := { (tDriving tO).gov with purpose := some .jog } }
    let line := [(ParamId.lineMax, (100 : Int)), (.creep, 30)]
    s.takesRequests ∧ (namedPairs [(1, 100), (2, 30)]).map clampPair = line ∧ (s.params.apply line).beyondChain = false
    ∧ s.params.lineMax ≠ (s.params.apply line).lineMax
    ∧ guardFault (s.params.apply line) s.shaft.accepted.width = none := by decide +kernel

/-- R87: a line_max and a creep lowered in a jog lower the demand with them. -/
theorem test_setParams_in_a_jog_lowers_the_demand :
    let s : State := { tMode .threading tNone with gov := { (tDriving tO).gov with
      purpose := some .jog, state := .ramping, demand := 60, applied := 60 } }
    (tAfter (.setParams 1 [(1, 100), (2, 30)]) s).gov.demand = 30 := by decide +kernel

theorem test_witness_BarsMoveThroughDeadTime_waits :
    let s := tBar0 tDead (tWaiting .restore tBars tO)
    s.resetAsserted = false ∧ (s.bars.get .b0).timer = .deadTime 20 ∧ (s.bars.get .b0).state = .lowering
    ∧ s.changeDone = false ∧ s.bars.change.map (fun c => c.waiting) = some true
    ∧ ¬ (tBar0 tDead tO).bars.change.map (fun c => c.waiting) = some true := by decide

/-- R124: while a change waits no valve is touched, and at the stopped event the bar's dead time is run in full. -/
theorem test_waiting_change_touches_no_valve :
    let t := tAfter (.deadTimeExpiry .b0) (tBar0 tDead (tWaiting .restore tBars tO))
    ((t.bars.get .b0).vlo, (t.bars.get .b0).vra, (t.bars.get .b0).timer) = (false, false, .idle)
    ∧ ((tAfter .stopped t).bars.get .b0).timer = .deadTime 20 := by decide +kernel

/-! ## Witnesses: the stopped shaft in FEEDING and STOPPING, pending sets, frames byte by byte, breaks -/

/-- Bars 0 and 1 in place or bar 0 raised, the line in a mode, with a waiting change to them at a resume step. -/
def tWaits (kind : ChangeKind) (step : ResumeStep) (q : List PlanRecord) (s : State) : State :=
  let t := tWaiting kind tBars s
  { t with line := { t.line with resumeStep := step }, planner := { t.planner with queue := q } }

theorem test_witness_StoppedShaftSettles_feeding :
    let change : PlanRecord := .barChange tBars tRef
    let one : Stitch := { tStitch with bars := ⟨true, false, false⟩ }
    let feeding := tMode .feeding tO
    let record (r : PlanRecord) := tWaits .record .none [change, r] feeding
    let frozen (src : BurstSource) := tWithBurst { tBurst 1 0 with frozen := true, source := src }
      (tWaits .restore .frozen [tStitchRec] feeding)
    let next (r : PlanRecord) := (removeHead (record r)).planner.headStitch
    (record (.endMark tRef)).bars.change = some ⟨.record, tBars, true⟩
    ∧ (record (.endMark tRef)).line.effective = .feeding ∧ (record (.endMark tRef)).gov.state = .halted
    ∧ (record (.endMark tRef)).anyWaiting = false ∧ (record (.endMark tRef)).line.replay = []
    ∧ next (.endMark tRef) = none ∧ next tStitchRec = some (tStitch, false) ∧ next (.stitch one true) = some (one, true)
    ∧ (∀ b ∈ ChangeKind.record.bars, ((record tStitchRec).judgedBar b (tBars.mem b)).heldAt (tBars.mem b) = true)
    ∧ ((record tStitchRec).bars.get .b1).heldAt (one.bars.mem .b1) = false ∧ 1 ≤ (record tStitchRec).params.deadTime
    ∧ (frozen .head).line.resumeStep = .frozen ∧ (frozen .head).bars.change = some ⟨.restore, tBars, true⟩
    ∧ (frozen .replay).motion.burst = some { tBurst 1 0 with frozen := true, source := .replay }
    ∧ (tWaits .restore .replay [tStitchRec] feeding).line.resumeStep = .replay
    ∧ (tWaits .restore .backMove [tStitchRec] feeding).line.resumeStep = .backMove
    ∧ (tWaits .restore .restore [tStitchRec] feeding).planner.headStitch ≠ none
    ∧ (tWaits .restore .restore [.endMark tRef] feeding).planner.headStitch = none
    ∧ ((tWaits .restore .none [tStitchRec] (tRaised feeding)).judgedBar .b0 true).heldAt true = false := by decide +kernel

theorem test_witness_StoppedShaftSettles_stopping :
    let stop (p : StopPurpose) (k : StopKind) (kind : ChangeKind) (s : State) : State :=
      tWaits kind .none [.barChange tBars tRef, .endMark tRef] (tStopping p k s)
    let parks := tParking 1 (tStopping .feed .park (tHead (.barChange tBars tRef) (tAt 0 tOpen tO)))
    (stop .hold .atStitch .record tO).line.effective = .stopping
    ∧ (stop .hold .atStitch .record tO).bars.change = some ⟨.record, tBars, true⟩
    ∧ (stop .hold .atStitch .record tO).stitchStopOn = true ∧ (stop .hold .atStitch .record tO).gov.state ≠ .parking
    ∧ (stop .hold .atStitch .record tO).motion.emitting = false
    ∧ (stop .hold .atStitch .record tO).motion.feedRunning = false
    ∧ (stop .fault .atStitch .record tO).line.stopPurpose = some .fault
    ∧ (stop .hold .atOnce .restore tO).line.stopKind = some .atOnce
    ∧ (stop .fault .atOnce .restore tO).line.stopPurpose = some .fault
    ∧ ((stop .hold .atStitch .restore (tRaised tO)).judgedBar .b0 true).heldAt true = false
    ∧ (tParking 1 (stop .hold .atStitch .restore (tRaised tO))).line.stopPurpose = some .hold
    ∧ parks.planner.head = some (.barChange tBars tRef) ∧ parks.recordChangeInHand = false
    ∧ parks.planner.headStitch = none ∧ parks.line.resumeStep = .none := by decide +kernel

/-- A waiting record change whose bars are in place ends at the stop and the stitch behind it starts the line. -/
theorem test_waiting_record_change_ends_at_the_stop :
    let t := tAfter .stopped (tWaits .record .none [.barChange tBars tRef, tStitchRec] (tMode .feeding tO))
    t.bars.change = none ∧ t.planner.head = some tStitchRec ∧ t.line.effective = .running ∧ t.gov.state = .ramping := by
  decide +kernel

/-- The state with a timing set pending. -/
def tPending (s : State) : State := { s with shaft := { s.shaft with pendingSet := some ⟨1000, 2500, 1500⟩ } }

theorem test_witness_IndexPulseTaken_pending :
    (tPending State.reset).shaft.angleValid = false ∧ (tPending State.reset).anyWaiting = false
    ∧ (tPending State.reset).shaft.pendingSet = some ⟨1000, 2500, 1500⟩
    ∧ (tPending (tAt 4096 tOpen tO)).shaft.window.inProgress = true
    ∧ (tPending (tAt 4096 tClosed tO)).shaft.window.inProgress = false
    ∧ (tAt 100 tOpen tO).shaft.angleValid = true ∧ (tAt 100 tOpen tO).shaft.position = 100
    ∧ ¬ (4094 ≤ (100 : Int) ∧ (100 : Int) ≤ 4098) ∧ ¬ (-2 ≤ (3 : Int) ∧ (3 : Int) ≤ 2)
    ∧ ¬ (-4098 ≤ (-4093 : Int) ∧ (-4093 : Int) ≤ -4094) := by decide

/-- R80: the pulse is taken and the pending set is active. -/
theorem test_pending_set_becomes_active_at_an_index :
    let t := tAfter (.indexPulse 9) (tPending (tAt 4096 tClosed tO))
    t.shaft.active = ⟨1000, 2500, 1500⟩ ∧ t.shaft.pendingSet = none ∧ t.shaft.position = 0 := by decide +kernel

theorem test_witness_AssemblerTakesBytes_collects :
    (tAsm [2] State.reset).link.asm = some (2 :: []) ∧ (2 : Byte).toNat ≤ 240 ∧ ([] : List Byte).length < (2 : Byte).toNat + 3
    ∧ (tAsm [2, 0x13, 1, 0xC3, 5] State.reset).link.asm = some (2 :: [0x13, 1, 0xC3, 5])
    ∧ ([0x13, 1, 0xC3, 5] : List Byte).length < (2 : Byte).toNat + 3
    ∧ ([0x13, 1] : List Byte).length < (0 : Byte).toNat + 3 ∧ (240 : Byte).toNat ≤ 240
    ∧ (tAsm [2] State.reset).resetAsserted = false := by decide

theorem test_witness_ScansAndNeedlesJudged_notice :
    let s := tJudged (.armed 2) .plan 0 0
    0 < s.monitor.needles.length ∧ s.bars.engaged.mem (needleBar 0) = true ∧ s.monitor.seen.getLsbD 0 = false
    ∧ s.monitor.needles[0]? = some (.armed 2) ∧ s.params.breakLimit ≤ 2 + 1
    ∧ (monitorOpen s).notified (.needleBroken 1 0 tRef 1) := by
  refine ⟨by decide, by decide, by decide, by decide +kernel, by decide, ?_⟩
  exact Or.inl (by decide +kernel)

theorem test_witness_PlanGroupsInOrder_next :
    let last := tGroup .repeating 2 true
    (1 : Nat) ≤ 6 ∧ tSegments.store.segment 4 2 = some (.tack 6) ∧ (tSegments.store.slot 4).segmentCount = 3
    ∧ (tGroup .repeating 0 true).segment + 1 < 3 ∧ ¬ last.segment + 1 < 3 ∧ last.repeatNo < last.order.repeats
    ∧ ¬ { last with repeatNo := 2 }.repeatNo < last.order.repeats
    ∧ cursorAfter tSegments 6 last = { last with segment := 3, place := 0, cap := 0, stage := .between } := by decide +kernel

theorem test_witness_StoppedShaftSettles_parkDone :
    let s (p : StopPurpose) (k : StopKind) : State := tParking 1 (tStopping p k (tAt 0 tOpen tO))
    let broken : State := tLatched .thread .atStitch (s .fault .atStitch)
    (s .hold .atStitch).gov.state = .parking ∧ (s .hold .atStitch).shaft.angleValid = true
    ∧ (s .hold .atStitch).shaft.stop.insideActive = true ∧ (s .hold .atStitch).line.effective = .stopping
    ∧ (s .hold .atStitch).line.stopPurpose = some .hold ∧ (s .hold .atSegment).line.stopKind ≠ some .atOnce
    ∧ (s .fault .atStitch).line.stopPurpose = some .fault ∧ (s .fault .atStitch).shaft.stopped = false
    ∧ (s .fault .atStitch).resetAsserted = false ∧ (s .fault .atStitch).bars.change.map (fun c => c.waiting) ≠ some true
    ∧ (s .fault .atStitch).anyWaiting = false ∧ broken.line.faults.threadStop = true
    ∧ broken.line.overlapPending = false := by decide +kernel

/-- R159: the park of a thread-break stop ends FAULTED with overlap_pending set. -/
theorem test_thread_break_stop_ends_in_recovery :
    let t := tAfter .stopped
      (tLatched .thread .atStitch (tParking 1 (tStopping .fault .atStitch (tAt 0 tOpen tO))))
    t.line.effective = .faulted ∧ t.line.overlapPending = true := by decide +kernel

theorem test_witness_HomingFindsX_estop :
    let s : State := { tNone with motion := { tNone.motion with homing := some ⟨20799, 200, false⟩, xKnown := false } }
    s.resetAsserted = false ∧ s.motion.homing = some ⟨20799, 200, false⟩ ∧ s.motion.xKnown = false := by decide

/-- R119: ESTOP ends a homing of 20799 pulses at 8 pulses per pu: NOT_FOUND, 2599 pu. -/
theorem test_estop_reports_the_homing :
    let t := tAfter .estopAsserted { tNone with motion := { tNone.motion with homing := some ⟨20799, 200, false⟩ } }
    Notice.homeDone false 2599 ∈ t.link.notices ∨ t.link.tx = some (.notice, (Notice.homeDone false 2599).frame) := by
  decide +kernel

theorem test_witness_AbortPanelEndsOrder_changes :
    let s (kind : ChangeKind) : State := tBar0 tDead (tChange ⟨kind, tBars, false⟩ tO)
    (s .record).bars.change = some ⟨.record, tBars, false⟩ ∧ (s .restore).bars.change = some ⟨.restore, tBars, false⟩
    ∧ (s (.force .b0)).bars.change.map (fun u => u.kind) = some (.force .b0) ∧ tO.bars.change = none
    ∧ (s .record).takesRequests ∧ (s .record).line.effective = .idle
    ∧ (s .record).schedule.orders = tActive :: [tQueued] := by decide +kernel

theorem test_witness_FaultsLatchAndStop_stops :
    let turning (m : Mode) : State := tTurning (tDriving (tMode m tO))
    let stopping (p : StopPurpose) (k : StopKind) : State := tStopping p k (tTurning (tDriving tO))
    actionOf tO.params .thread = .atStitch ∧ actionOf tO.params .drive = .atOnce ∧ actionOf tO.params .barTimeout = .inPlace
    ∧ actionOf tO.params .feedSlip = .report ∧ (turning .running).line.faults.has .thread = false
    ∧ (turning .running).line.effective = .running ∧ (tMode .feeding tO).line.effective = .feeding
    ∧ (stopping .feed .park).line.effective = .stopping ∧ (stopping .feed .park).stoppingForFault = false
    ∧ (stopping .hold .atOnce).stoppingForHold = true ∧ (stopping .hold .atOnce).line.stopKind = some .atOnce
    ∧ (stopping .hold .atSegment).stoppingForHold = true ∧ (stopping .hold .atSegment).line.stopKind ≠ some .atOnce
    ∧ (stopping .fault .atStitch).stoppingForFault = true ∧ (stopping .fault .atStitch).line.stopKind ≠ some .atOnce
    ∧ (stopping .fault .atOnce).stoppingForFault = true ∧ (tMode .faulted tO).line.effective = .faulted
    ∧ (turning .running).shaft.stopped = false ∧ (tMode .feeding tO).shaft.stopped = true := by decide +kernel

theorem test_witness_FaultsLatchAndStop_waits :
    let turning (m : Mode) : State := tTurning (tDriving (tMode m tO))
    (tWithBurst (tBurst 1 0) (turning .running)).motion.emitting = true
    ∧ (tWithFeed (tFeed .moving 1 0) (turning .feeding)).motion.feedRunning = true
    ∧ ¬ ((turning .running).motion.emitting = true ∨ (turning .running).motion.feedRunning = true)
    ∧ (turning .running).gov.state = .locked ∧ (turning .running).line.faults.atOnce = false
    ∧ (tParking 1 (turning .running)).gov.state = .parking ∧ (tTurning (tMode .feeding tO)).gov.state = .halted
    ∧ (tTurning (tMode .feeding tO)).shaft.stopped = false := by decide +kernel

/-- R159: a break while the line stops for a feed makes the stop a fault stop, and the park goes on. -/
theorem test_break_takes_over_a_stop_for_feed :
    let t := latch .thread none (tParking 1 (tStopping .feed .park (tTurning tO)))
    t.line.stopPurpose = some .fault ∧ t.line.stopKind = some .atStitch ∧ t.gov.state = .parking := by decide +kernel

theorem test_witness_RunBeginsResumeSequence_faultStop :
    let f : Feed := { tFeed .moving 1 0 with source := .backMove }
    let s : State := tStopping .fault .atStitch (tWithFeed f (tRecovering [tStitch, tStitch] 6))
    s.stoppingForFault = true ∧ s.line.stopKind = some .atStitch ∧ s.motion.feed = some f ∧ f.source = .backMove
    ∧ f.y.left = 0 ∧ f.x.left = 1 ∧ f.x.waiting = false ∧ s.motion.burst = none ∧ s.shaft.stopped = true := by decide

theorem test_witness_StoppedShaftSettles_parkInFeeding :
    let s : State := tParking 1 (tMode .feeding (tAt 0 tOpen tO))
    s.gov.state = .parking ∧ s.shaft.angleValid = true ∧ s.shaft.stop.insideActive = true
    ∧ s.line.effective ≠ .stopping ∧ s.shaft.stopped = false ∧ s.anyWaiting = false
    ∧ s.bars.change.map (fun c => c.waiting) ≠ some true := by decide +kernel

theorem test_witness_RunBeginsResumeSequence_parkGoesOn :
    let held (q : PlanRecord) : State :=
      let t := tParking 1 (tStopping .hold .atStitch (tHead q (tTurning tO)))
      { t with line := { t.line with holdOrigin := some .feeding } }
    let s := held (.feed .jump 1 0 tRef)
    s.stoppingForHold = true ∧ s.line.holdOrigin = some .feeding ∧ s.line.faults.latched = [] ∧ s.motion.xKnown = true
    ∧ s.orderActive = true ∧ s.line.resumeStep = .none ∧ s.planner.headStitch = none ∧ s.recordChangeInHand = false
    ∧ s.bars.change = none ∧ s.gov.state = .parking := by decide +kernel

end Sys2Proof.Machine
end

section
/-! PROOFS. What the part does to the Pattern Store and the Panel Schedule outside the pattern and order requests: the
figures of the ACTIVE order move on, and the ACTIVE order ends and the next one is taken. Every event and every other
request is a run of these two moves. -/

namespace Sys2Proof.Machine

/-! ## The stock: what the invariants of chapters 1 and 2 speak of -/

/-- The Pattern Store with the orders of the schedule. -/
structure Stock where
  store : Store
  orders : List Order

/-- The stock of a state. -/
def State.stock (s : State) : Stock := ⟨s.store, s.schedule.orders⟩

@[simp] theorem State.stock_store (s : State) : s.stock.store = s.store := rfl
@[simp] theorem State.stock_orders (s : State) : s.stock.orders = s.schedule.orders := rfl

/-- The head order taken (R27). -/
def takeHead : List Order → List Order
  | [] => []
  | o :: rest => o.taken :: rest

/-- The stock after the ACTIVE order has ended (R32, R33). -/
def Stock.ended (a : Stock) (o : Order) : Stock :=
  ⟨a.store.dropUse o.spec.slot, takeHead (a.orders.filter fun x => decide (x.state ≠ .active))⟩

/-- One move of a running line: figures of orders move on (R29 to R31), or the ACTIVE order ends (R32, R33). -/
inductive Stock.Moves : Stock → Stock → Prop
  | figures (a : Stock) (f : Order → Order) (keeps : ∀ o, (f o).spec = o.spec ∧ (f o).state = o.state) :
      Moves a ⟨a.store, a.orders.map f⟩
  | ended (a : Stock) (o : Order) (active : a.orders.find? (fun x => decide (x.state = .active)) = some o) :
      Moves a (a.ended o)

/-- The stock of one state leads to that of another by moves of a running line. -/
def Runs (s t : State) : Prop := Relation.ReflTransGen Stock.Moves s.stock t.stock

theorem Runs.of_stock {s t : State} (h : t.stock = s.stock) : Runs s t := by
  unfold Runs; rw [h]

theorem Runs.refl (s : State) : Runs s s := .of_stock rfl

theorem Runs.trans {s t u : State} (h : Runs s t) (k : Runs t u) : Runs s u := Relation.ReflTransGen.trans h k

/-- A run after a change that leaves the stock alone. -/
theorem Runs.after_same {s t u : State} (k : Runs t u) (h : t.stock = s.stock := by rfl) : Runs s u :=
  (Runs.of_stock h).trans k

/-- A run before a change that leaves the stock alone. -/
theorem Runs.then_same {s t u : State} (k : Runs s t) (h : u.stock = t.stock := by rfl) : Runs s u :=
  k.trans (.of_stock h)

theorem Runs.move {s t : State} (h : Stock.Moves s.stock t.stock) : Runs s t := .single h

theorem SameButGov.runs {s t : State} : SameButGov s t → Runs s t := by
  rintro ⟨_, rfl⟩; exact .of_stock rfl
theorem SameButStop.runs {s t : State} : SameButStop s t → Runs s t := by
  rintro ⟨_, _, _, _, rfl⟩; exact .of_stock rfl
theorem SameButBars.runs {s t : State} : SameButBars s t → Runs s t := by
  rintro ⟨_, _, rfl⟩; exact .of_stock rfl
theorem SameButLine.runs {s t : State} : SameButLine s t → Runs s t := by
  rintro ⟨_, _, _, _, _, _, _, _, rfl⟩; exact .of_stock rfl

/-! ## The schedule's own operations -/

/-- New figures for the ACTIVE order that keep what was ordered and its state. -/
theorem setActive_runs {f : Order → Order} (keeps : ∀ o, (f o).spec = o.spec ∧ (f o).state = o.state) (s : State) :
    Runs s (setActive f s) :=
  .move (.figures s.stock (fun o => if o.state = .active then f o else o) fun o => by
    split
    · exact keeps o
    · exact ⟨rfl, rfl⟩)

theorem recordBegun_runs (r : PlanRecord) (s : State) : Runs s (recordBegun r s) := by
  have figures := setActive_runs (f := fun o => { o with phase := r.phase, currentRepeat := r.ref.repeatNo, started := true })
    (fun _ => ⟨rfl, rfl⟩) { s with planner := { s.planner with headBegun := true } }
  unfold recordBegun
  split
  · exact .refl s
  · simp only
    split
    · exact .of_stock rfl
    · split
      · exact .after_same figures
      · exact .after_same (.then_same figures)

theorem countStitch_runs (s : State) : Runs s (countStitch s) :=
  setActive_runs (f := fun o => { o with stitchesExecuted := min 65535 (o.stitchesExecuted + 1) })
    (fun _ => ⟨rfl, rfl⟩) s

@[simp] theorem appendRecord_stock (s : State) : (appendRecord s).stock = s.stock := by
  obtain ⟨more, c, h, -, -⟩ := appendRecord_frame s
  rw [h]; rfl

@[simp] theorem appendRecords_stock (n : Nat) (s : State) : (appendRecords n s).stock = s.stock := by
  induction n generalizing s with
  | zero => rfl
  | succ n ih => rw [appendRecords, ih, appendRecord_stock]

@[simp] theorem handToPlanner_stock (o : OrderSpec) (s : State) : (handToPlanner o s).stock = s.stock :=
  appendRecords_stock ..

@[simp] theorem judgeQueue_stock (before : Nat) (s : State) : (judgeQueue before s).stock = s.stock := by
  obtain ⟨a, k, h⟩ := judgeQueue_frame before s
  rw [h]; rfl

/-- With no order ACTIVE the head order is taken (R27). -/
theorem takeNext_stock {s : State} (h : s.orderActive = false) :
    (takeNext s).stock = ⟨s.store, takeHead s.schedule.orders⟩ := by
  unfold takeNext
  rw [if_neg (by simp [h])]
  cases e : s.schedule.orders with
  | nil => simp [State.stock, takeHead, e]
  | cons o rest => simp only [judgeQueue_stock, handToPlanner_stock]; rfl

theorem endOrder_runs (outcome : PanelOutcome) (s : State) : Runs s (endOrder outcome s) := by
  unfold endOrder
  cases e : s.schedule.activeOrder with
  | none => exact .refl s
  | some o =>
    refine .move ?_
    simp only
    rw [takeNext_stock]
    · exact .ended s.stock o e
    · simp [State.orderActive, Schedule.activeOrder]

theorem removeHead_runs (s : State) : Runs s (removeHead s) := by
  obtain ⟨p, g, h, -, -⟩ := removeHead_frame s
  rw [h]; exact .of_stock rfl

/-! ## The Travel Audit and the Thread Monitor -/

theorem addCmd_runs (n : Nat) (s : State) : Runs s (addCmd n s) := by
  obtain ⟨a, g, m, l, k, h⟩ := addCmd_frame n s
  rw [h]; exact .of_stock rfl

theorem endAudit_runs (cause : EndCause) (s : State) : Runs s (endAudit cause s) := by
  obtain ⟨a, g, m, l, k, h⟩ := endAudit_frame cause s
  rw [h]; exact .of_stock rfl

theorem endAtLimit_runs (cause : EndCause) (n : Nat) (s : State) : Runs s (endAtLimit cause n s) := by
  unfold endAtLimit; split
  · exact endAudit_runs ..
  · exact .refl s

theorem addRoll_runs (s : State) : Runs s (addRoll s) := by
  unfold addRoll; split
  · exact .after_same (endAtLimit_runs ..)
  · exact .refl s

theorem addWheel_runs (s : State) : Runs s (addWheel s) := by
  unfold addWheel; split
  · exact .after_same (endAtLimit_runs ..)
  · exact .refl s

theorem auditIndex_runs (s : State) : Runs s (auditIndex s) := by
  unfold auditIndex; split <;> exact .of_stock rfl

theorem monitorBurst_runs (r : Ref) (src : StitchSource) (s : State) : Runs s (monitorBurst r src s) := by
  unfold monitorBurst; split <;> exact .of_stock rfl

theorem monitorClose_runs (s : State) : Runs s (monitorClose s) := by
  unfold monitorClose; split <;> exact .of_stock rfl

theorem evaluate_runs (r : Ref) (s : State) : Runs s (evaluate r s) := by
  unfold evaluate; simp only
  split
  · exact .of_stock rfl
  · exact .after_same (latch_stop ..).runs

theorem monitorOpen_runs (s : State) : Runs s (monitorOpen s) := by
  unfold monitorOpen
  extract_lets _ t
  refine .then_same (t := t) ?_
  unfold t
  split
  · exact .refl s
  · split
    · split
      · exact .of_stock rfl
      · exact evaluate_runs ..
    · exact .refl s

theorem scanBegins_runs (s : State) : Runs s (scanBegins s) := by
  unfold scanBegins; split <;> exact .of_stock rfl

theorem scanFailed_runs (s : State) : Runs s (scanFailed s) := by
  unfold scanFailed; simp only
  split
  · exact .of_stock rfl
  · exact .after_same (latch_stop ..).runs

theorem scanEnds_runs (received : BitVec 104) (s : State) : Runs s (scanEnds received s) := by
  unfold scanEnds; split
  · exact .refl s
  · split
    · exact .of_stock rfl
    · exact scanFailed_runs s

/-! ## The Line Controller -/

theorem lineBurstDone_runs (last emptied : Bool) (s : State) : Runs s (lineBurstDone last emptied s) := by
  unfold lineBurstDone
  refine (endStep_line emptied s).runs.trans ?_
  generalize endStep emptied s = t
  simp only
  split
  · exact (stitchStop_stop ..).runs
  · split
    · split
      · exact .after_same (stitchStop_stop ..).runs
      · exact .refl t
    · split
      · split
        · exact .after_same (stopForRecord_line ..).runs
        · exact (watch_line ..).runs
      · exact .refl t

theorem restoreDone_runs (s : State) : Runs s (restoreDone s) := by
  unfold restoreDone; split
  · split
    · exact (startFrozen_line s).runs
    · exact (startReplay_line s).runs
    · exact (headStep_line s).runs
    · exact .refl s
  · exact .refl s

theorem lineRecordDone_runs (s : State) : Runs s (lineRecordDone s) := by
  unfold lineRecordDone; split
  · exact (stitchStop_stop ..).runs
  · split
    · exact (takeStep_line s).runs
    · exact .refl s

theorem lineFeedDone_runs (s : State) : Runs s (lineFeedDone s) := by
  unfold lineFeedDone; split
  · exact .after_same (setMode_stop ..).runs
  · exact lineRecordDone_runs s

theorem lineBackMoveDone_runs (s : State) : Runs s (lineBackMoveDone s) := by
  unfold lineBackMoveDone
  extract_lets _ t
  refine .after_same (t := t) ?_
  split
  · exact (stitchStop_stop ..).runs
  · split
    · exact (replayStep_line _).runs
    · exact .refl t

theorem lineCount_runs (d : Direction) (s : State) : Runs s (lineCount d s) := by
  unfold lineCount
  split
  · extract_lets n t
    split
    · exact .after_same (latch_stop ..).runs
    · exact .of_stock rfl
  · exact .refl s

theorem lineStopped_runs (s : State) : Runs s (lineStopped s) := by
  unfold lineStopped; split
  · exact (reachStop_stop ..).runs
  · exact .refl s

theorem cancelHold_runs (why : Reason) (s : State) : Runs s (cancelHold why s) := by
  unfold cancelHold; simp only
  split
  · split
    · exact (setMode_stop ..).runs
    · exact (setMode_stop ..).runs.trans (takeStep_line _).runs
  · split
    · exact (setMode_stop ..).runs.trans (orderPark_line _).runs
    · exact (setMode_stop ..).runs
  · split
    · exact (setMode_stop ..).runs.trans (orderPark_line _).runs
    · exact (setMode_stop ..).runs
  · refine .trans ?_ ((testResume_line _).runs.trans (watch_line ..).runs)
    refine (setMode_stop .running none none why s).runs.trans ?_
    split
    · split <;> exact (startOrder_gov ..).runs
    · exact .refl _

theorem decideRun_runs (why : Reason) (s : State) : Runs s (decideRun why s).1 := by
  unfold decideRun; simp only
  split
  · exact .refl s
  split
  · exact .refl s
  split
  · exact .refl s
  split
  · exact .refl s
  refine .trans (.of_stock rfl : Runs s (setRequested .run s)) ?_
  split
  · exact cancelHold_runs ..
  · exact (beginResume_line ..).runs

theorem decideHold_runs (kind : HoldKind) (why : Reason) (s : State) : Runs s (decideHold kind why s).1 := by
  unfold decideHold
  split
  case h_1 => exact (beginHold_stop ..).runs
  case h_2 => exact (beginHold_stop ..).runs
  case h_3 =>
    split
    · exact (beginHold_stop ..).runs
    · split
      · exact (setMode_stop ..).runs.trans (carryHold_stop ..).runs
      · exact .refl s
    · exact .refl s
    · exact (beginHold_stop ..).runs
  all_goals exact .refl s

theorem decideModeHold_runs (kind : Byte) (s : State) : Runs s (decideModeHold kind s).1 := by
  unfold decideModeHold; split
  · exact decideHold_runs ..
  · exact .refl s

theorem decideRest_runs (r : ReqMode) (m : Mode) (s : State) : Runs s (decideRest r m s).1 := by
  unfold decideRest
  split
  case h_5 =>
    split
    · exact .refl s
    · exact .after_same (setMode_stop ..).runs
  all_goals exact .refl s

theorem decideClearFaults_runs (s : State) : Runs s (decideClearFaults s).1 := by
  unfold decideClearFaults
  split
  · exact .refl s
  · extract_lets kept _ f _ t
    refine .after_same (t := t) ?_
    dsimp only
    split
    · unfold leaveFaulted
      split
      · split <;> exact .after_same (setMode_stop ..).runs
      · exact .refl t
    · exact .refl t

theorem abortChange_runs (s : State) : Runs s (abortChange s) := by
  unfold abortChange; split
  · exact .refl s
  · split <;> exact .of_stock rfl

theorem decideAbort_runs (s : State) : Runs s (decideAbort s).1 := by
  unfold decideAbort
  split
  case h_4 =>
    split
    · exact .refl s
    · refine Runs.trans ?_ (endOrder_runs ..)
      exact .after_same (.then_same (abortChange_runs _))
  all_goals exact .refl s

/-! ## The Motion Output -/

theorem completeHeadBurst_runs (b : Burst) (s : State) : Runs s (completeHeadBurst b s) := by
  unfold completeHeadBurst
  extract_lets a c
  have counted : Runs s c := (Runs.then_same (removeHead_runs s)).trans ((addCmd_runs ..).trans (countStitch_runs _))
  exact (counted.trans (.then_same (monitorBurst_runs ..))).trans (lineBurstDone_runs ..)

theorem completeReplayBurst_runs (b : Burst) (s : State) : Runs s (completeReplayBurst b s) := by
  unfold completeReplayBurst
  extract_lets _ a c
  have replayed : Runs s c := (Runs.after_same (addCmd_runs ..)).trans (monitorBurst_runs ..)
  exact (Runs.then_same replayed).trans (lineBurstDone_runs ..)

theorem completeBurst_runs (b : Burst) (s : State) : Runs s (completeBurst b s) := by
  unfold completeBurst; split
  · exact completeHeadBurst_runs b s
  · exact completeReplayBurst_runs b s

theorem emitBurst_runs (w : Nat) (b : Burst) (s : State) : Runs s (emitBurst w b s) := by
  unfold emitBurst burstPeriod; simp only
  split
  · exact .of_stock rfl
  · split <;> exact .of_stock rfl

theorem openBurst_runs (b : Burst) (s : State) : Runs s (openBurst b s) := by
  unfold openBurst
  refine Runs.trans (.of_stock rfl : Runs s { s with motion := { s.motion with burst := some b } }) ?_
  simp only
  split
  · exact completeBurst_runs ..
  · exact emitBurst_runs ..

theorem motionOpen_runs (s : State) : Runs s (motionOpen s) := by
  unfold motionOpen
  split
  · split
    · exact openBurst_runs ..
    · split
      · exact .refl s
      · split
        · exact (recordBegun_runs ..).trans (openBurst_runs ..)
        · exact .refl s
  · exact .refl s

theorem motionClose_runs (s : State) : Runs s (motionClose s) := by
  unfold motionClose; split
  · exact .after_same (latch_stop ..).runs
  · exact .refl s

theorem completeFeed_runs (s : State) : Runs s (completeFeed s) := by
  unfold completeFeed
  extract_lets gap a _ b
  have record : Runs s b := .then_same (removeHead_runs s)
  refine .trans (.then_same (t := if gap then endOrder .done b else b) ?_) (lineFeedDone_runs _)
  split
  · exact record.trans (endOrder_runs ..)
  · exact record

theorem completeMove_runs (f : Feed) (s : State) : Runs s (completeMove f s) := by
  unfold completeMove; split
  · exact completeFeed_runs s
  · exact .after_same (lineBackMoveDone_runs _)

/-- A stop that awaited the work in hand, carried on where one is on (R153). -/
theorem stitchStop_if_runs (why : Reason) (s : State) : Runs s (if s.stitchStopOn then stitchStop why s else s) := by
  split
  · exact (stitchStop_stop ..).runs
  · exact .refl s

theorem feedSpent_runs (f : Feed) (s : State) : Runs s (feedSpent f s) := by
  unfold feedSpent; split
  · refine .trans ?_ (stitchStop_if_runs ..)
    exact .after_same (latch_stop ..).runs
  · split
    · exact .of_stock rfl
    · exact completeMove_runs f s

theorem moveFeed_runs (f : Feed) (s : State) : Runs s (moveFeed f s) := by
  unfold moveFeed; simp only; split
  · exact .after_same (feedSpent_runs ..)
  · exact .of_stock rfl

theorem beginFeed_runs (kind : FeedKind) (x y : Int) (s : State) : Runs s (beginFeed kind x y s) := by
  unfold beginFeed; simp only
  split
  · exact moveFeed_runs ..
  · exact moveFeed_runs ..
  · split <;> exact moveFeed_runs ..
  · exact moveFeed_runs ..

theorem beginHead_runs (s : State) : Runs s (beginHead s) := by
  unfold beginHead
  split
  · exact ((recordBegun_runs ..).trans (removeHead_runs _)).trans (lineRecordDone_runs _)
  · refine .trans ?_ (.trans (recordBegun_runs ..) (beginFeed_runs ..))
    split
    · split <;> exact .of_stock rfl
    · exact .refl s
  · exact .refl s

theorem resumeFeed_runs (f : Feed) (s : State) : Runs s (resumeFeed f s) := by
  unfold resumeFeed; split
  · exact moveFeed_runs ..
  · split <;> exact moveFeed_runs ..

theorem setAside_runs (s : State) : Runs s (setAside s) := by
  unfold setAside; split <;> exact .of_stock rfl

theorem takeUpHead_runs (s : State) : Runs s (takeUpHead s) := by
  unfold takeUpHead; split
  · split
    · exact resumeFeed_runs ..
    · exact .after_same (beginHead_runs _)
  · split
    · exact .after_same (resumeFeed_runs ..)
    · exact beginHead_runs s

theorem beginNextFeed_runs (s : State) : Runs s (beginNextFeed s) := by
  unfold beginNextFeed; split
  · exact (setAside_runs s).trans (.after_same (moveFeed_runs ..))
  · split
    · exact takeUpHead_runs s
    · exact .refl s

theorem feedBegin_runs (s : State) : Runs s (feedBegin s) := by
  unfold feedBegin; split
  · split
    · exact beginNextFeed_runs s
    · split
      · exact resumeFeed_runs ..
      · split
        · exact beginNextFeed_runs s
        · exact .refl s
  · exact .refl s

theorem movePulse_runs (axis : Axis) (positive : Bool) (s : State) : Runs s (movePulse axis positive s) := by
  unfold movePulse; split
  · split <;> exact .of_stock rfl
  · exact .of_stock rfl

theorem burstPulse_runs (axis : Axis) (b : Burst) (s : State) : Runs s (burstPulse axis b s) := by
  have pulse : ∀ (c : Burst) (p : Bool),
      Runs s (movePulse axis p { s with motion := { s.motion with burst := some c } }) := fun c p =>
    .after_same (movePulse_runs ..)
  unfold burstPulse
  extract_lets c p _ t
  split
  · exact (pulse c p).trans (completeBurst_runs ..)
  · exact pulse c p

theorem feedPulse_runs (axis : Axis) (f : Feed) (s : State) : Runs s (feedPulse axis f s) := by
  have pulse : ∀ (g : Feed) (p : Bool), Runs s (movePulse axis p (setFeed g s)) := fun g p =>
    .after_same (movePulse_runs ..)
  unfold feedPulse
  cases axis with
  | x =>
    simp only; split
    · exact (pulse ..).trans (feedSpent_runs ..)
    · exact pulse ..
  | y =>
    simp only; split
    · exact ((pulse ..).trans (addCmd_runs ..)).trans (feedSpent_runs ..)
    · exact (pulse ..).trans (addCmd_runs ..)

theorem stepDue_runs (axis : Axis) (s : State) : Runs s (stepDue axis s) := by
  unfold stepDue; split
  · split
    · exact .refl s
    · split
      · exact burstPulse_runs ..
      · exact .of_stock rfl
  · split
    · split
      · exact .refl s
      · split
        · exact feedPulse_runs ..
        · exact .of_stock rfl
    · exact .refl s

theorem emitHeld_runs (axis : Axis) (s : State) : Runs s (emitHeld axis s) := by
  unfold emitHeld; split
  · split
    · exact burstPulse_runs ..
    · exact .refl s
  · split
    · split
      · exact feedPulse_runs ..
      · exact .refl s
    · exact .refl s

theorem homingPulse_runs (h : Homing) (s : State) : Runs s (homingPulse h s) := by
  unfold homingPulse; simp only; split <;> exact .of_stock rfl

theorem homingDue_runs (s : State) : Runs s (homingDue s) := by
  unfold homingDue; split
  · exact .refl s
  · split
    · exact .refl s
    · split
      · exact homingPulse_runs ..
      · exact .of_stock rfl

theorem emitHeldHoming_runs (s : State) : Runs s (emitHeldHoming s) := by
  unfold emitHeldHoming; split
  · exact .refl s
  · split
    · exact homingPulse_runs ..
    · exact .refl s

theorem emitWaiting_runs (s : State) : Runs s (emitWaiting s) := by
  unfold emitWaiting; split
  · exact ((emitHeld_runs ..).trans (emitHeld_runs ..)).trans (emitHeldHoming_runs _)
  · exact .refl s

theorem decideHomeX_runs (s : State) : Runs s (decideHomeX s).1 := by
  unfold decideHomeX
  split
  · exact .refl s
  split
  · exact .refl s
  split
  · exact .refl s
  split
  · exact .refl s
  unfold startHoming; simp only
  split <;> exact .of_stock rfl

theorem xhomeLevel_runs (level : Bool) (s : State) : Runs s (xhomeLevel level s) := by
  unfold xhomeLevel; split
  · exact .refl s
  · split <;> exact .of_stock rfl

theorem markEdge_runs (s : State) : Runs s (markEdge s) := by
  unfold markEdge; split
  · exact .refl s
  · split
    · exact .after_same (completeFeed_runs _)
    · exact .refl s

theorem cutEnds_runs (s : State) : Runs s (cutEnds s) := by
  unfold cutEnds; simp only
  split
  · exact .refl s
  refine .trans (.of_stock rfl : Runs s { s with motion := { s.motion with cutTimer := none } }) ?_
  split
  · exact .refl _
  · split
    · split
      · exact .after_same (stitchStop_if_runs ..)
      · exact moveFeed_runs ..
    · exact .refl _

theorem estopMotion_runs (s : State) : Runs s (estopMotion s) := by
  unfold estopMotion; simp only
  split <;> exact .of_stock rfl

/-! ## The needle bars -/

theorem settleChange_runs (s : State) : Runs s (settleChange s) := by
  unfold settleChange; split
  · exact .refl s
  · split
    · split
      · exact (completeRecordChange_line s).runs.trans (lineRecordDone_runs _)
      · exact .after_same (restoreDone_runs _)
      · exact .of_stock rfl
    · exact .refl s

theorem beginWaiting_runs (s : State) : Runs s (beginWaiting s) := by
  unfold beginWaiting; split
  · exact .refl s
  · split
    · exact (beginChange_bars ..).runs.trans (settleChange_runs _)
    · exact .refl s

theorem barChangeBegin_runs (s : State) : Runs s (barChangeBegin s) := by
  unfold barChangeBegin; split
  · exact beginWaiting_runs s
  · split
    · split
      · exact ((recordBegun_runs ..).trans (beginChange_bars ..).runs).trans (settleChange_runs _)
      · exact .refl s
    · exact .refl s

theorem deadTimeEnds_runs (b : Bar) (s : State) : Runs s (deadTimeEnds b s) := by
  unfold deadTimeEnds; split
  · split
    · exact (setBar_bars ..).runs
    · exact (energizeBar_bars ..).runs.trans (settleChange_runs _)
  · exact .refl s

theorem endForce_runs (b : Bar) (s : State) : Runs s (endForce b s) := by
  unfold endForce; split
  · split <;> exact .of_stock rfl
  · exact .refl s

theorem barTimesOut_runs (b : Bar) (s : State) : Runs s (barTimesOut b s) := by
  unfold barTimesOut; simp only
  split
  · exact ((setBar_bars ..).runs.trans (endForce_runs ..)).trans (latch_stop ..).runs
  · exact .refl s

theorem barInputs_runs (b : Bar) (s : State) : Runs s (barInputs b s) := by
  unfold barInputs; simp only
  split
  · exact (setBar_bars ..).runs
  · exact (confirmBar_bars ..).runs.trans (settleChange_runs _)

theorem decideForceBar_runs (bar dir : Byte) (s : State) : Runs s (decideForceBar bar dir s).1 := by
  unfold decideForceBar
  split
  · exact .refl s
  split
  · exact .refl s
  split
  · exact .refl s
  split
  · exact .refl s
  split
  · exact .refl s
  exact (beginChange_bars ..).runs.trans (settleChange_runs _)

/-! ## The shaft -/

theorem deliverOpen_runs (s : State) : Runs s (deliverOpen s) := by
  unfold deliverOpen; simp only
  split
  · refine .trans (.of_stock rfl : Runs s (drawChoice s).2) ?_
    split
    · exact (motionOpen_runs _).trans (monitorOpen_runs _)
    · exact (monitorOpen_runs _).trans (motionOpen_runs _)
  · exact (monitorOpen_runs s).trans (motionOpen_runs _)

theorem deliverClose_runs (s : State) : Runs s (deliverClose s) := (motionClose_runs s).trans (monitorClose_runs _)

theorem reachAngle_runs (s : State) : Runs s (reachAngle s) := by
  unfold reachAngle; simp only
  split
  · exact .refl s
  split
  · split
    · exact .after_same (deliverOpen_runs _)
    · exact .refl s
  split
  · exact .after_same (stopAngleGov_gov _).runs
  split
  · exact .after_same (deliverClose_runs _)
  · exact .refl s

theorem countEffects_runs (d : Direction) (encoder : Bool) (s : State) : Runs s (countEffects d encoder s) := by
  unfold countEffects
  refine .trans ?_ (.trans (testResume_line _).runs (emitWaiting_runs _))
  have a : Runs s (if encoder then latch .encoder none s else s) := by
    split
    · exact (latch_stop ..).runs
    · exact .refl s
  split
  · exact a.trans (reachAngle_runs _)
  · exact a

theorem takeCount_runs (d : Direction) (s : State) : Runs s (takeCount d s) := by
  unfold takeCount; simp only
  split
  · refine .trans (.of_stock rfl : Runs s (drawChoice (setShaft (s.shaft.count d s.line.effective) s)).2) ?_
    split
    · exact (countEffects_runs ..).trans (lineCount_runs ..)
    · exact (lineCount_runs ..).trans (countEffects_runs ..)
  · exact .after_same ((lineCount_runs ..).trans (countEffects_runs ..))

theorem measureRevolution_runs (now : Nat) (s : State) : Runs s (measureRevolution now s) := by
  unfold measureRevolution; simp only
  split
  · exact .of_stock rfl
  · split
    · split <;> exact .of_stock rfl
    · exact .of_stock rfl

theorem indexJump_runs (s : State) : Runs s (indexJump s) := by
  have at0 : ∀ t : State, Runs t (setShaft { t.shaft with position := 0 } t) := fun _ => .of_stock rfl
  unfold indexJump; simp only
  split
  · exact ((Runs.after_same (reachAngle_runs _)).trans (at0 _)).trans (reachAngle_runs _)
  · split
    · exact (at0 s).trans (reachAngle_runs _)
    · exact at0 s

theorem deliverIndex_runs (measured : Bool) (s : State) : Runs s (deliverIndex measured s) := by
  unfold deliverIndex; simp only
  split
  · refine .trans (.of_stock rfl : Runs s (drawChoice s).2) ?_
    split
    · exact (indexGov_gov ..).runs.trans (auditIndex_runs _)
    · exact (auditIndex_runs _).trans (indexGov_gov ..).runs
  · exact (indexGov_gov ..).runs.trans (auditIndex_runs _)

theorem forwardIndex_runs (now : Nat) (s : State) : Runs s (forwardIndex now s) := by
  have deliver : ∀ t : State, Runs t (deliverIndex t.shaft.measures (measureRevolution now t)) := fun t =>
    (measureRevolution_runs ..).trans (deliverIndex_runs ..)
  unfold forwardIndex; simp only
  split
  · refine .trans (.of_stock rfl : Runs s (drawChoice s).2) ?_
    split
    · exact (deliver _).trans (indexJump_runs _)
    · exact (indexJump_runs _).trans (deliver _)
  · exact (indexJump_runs s).trans (deliver _)

theorem backIndex_runs (s : State) : Runs s (backIndex s) := .then_same (indexJump_runs s)

theorem badIndex_runs (now : Nat) (s : State) : Runs s (badIndex now s) :=
  .after_same (latch_stop ..).runs

theorem takeIndex_runs (now : Nat) (s : State) : Runs s (takeIndex now s) := by
  unfold takeIndex
  extract_lets t
  refine .trans (.then_same (t := t) ?_) (emitWaiting_runs _)
  unfold t
  split
  · exact .of_stock rfl
  · split
    · exact forwardIndex_runs ..
    · exact backIndex_runs s
    · exact backIndex_runs s
    · exact badIndex_runs ..

theorem governorStopped_runs (s : State) : Runs s (governorStopped s) := by
  unfold governorStopped
  refine .trans ?_ (lineStopped_runs _)
  refine (stoppedGov_gov s).runs.trans ?_
  split
  · exact .refl _
  · exact (parkDone_line _).runs
  · exact (latch_stop ..).runs

theorem shaftStops_runs (s : State) : Runs s (shaftStops s) := by
  unfold shaftStops; simp only
  split
  · exact .refl s
  refine .trans (.after_same (beginWaiting_runs (monitorStopped (setShaft s.shaft.stop s)))) ?_
  generalize beginWaiting (monitorStopped (setShaft s.shaft.stop s)) = a
  split
  · refine .trans (.of_stock rfl : Runs a (drawChoice a).2) ?_
    split
    · exact (governorStopped_runs _).trans (emitWaiting_runs _)
    · exact (emitWaiting_runs _).trans (governorStopped_runs _)
  · exact governorStopped_runs a

theorem decideSetTiming_runs (o c a : BitVec 16) (s : State) : Runs s (decideSetTiming o c a s).1 := by
  unfold decideSetTiming; simp only
  split
  · exact .refl s
  split
  · exact .refl s
  split
  · exact .refl s
  split
  · exact .refl s
  split
  · exact .refl s
  split
  · exact .refl s
  split
  · exact .refl s
  split <;> exact .of_stock rfl

theorem decideRephase_runs (a : BitVec 16) (s : State) : Runs s (decideRephase a s).1 := by
  unfold decideRephase; simp only
  split
  · exact .refl s
  split
  · exact .refl s
  split <;> exact .of_stock rfl

/-! ## The parameters and the Travel Audit's requests -/

theorem rearm_runs (old : Params) (s : State) : Runs s (rearm old s) := by
  unfold rearm; split <;> exact .of_stock rfl

theorem auditParams_runs (old : Params) (s : State) : Runs s (auditParams old s) := by
  unfold auditParams; split
  · split <;> exact .of_stock rfl
  · split <;> exact .of_stock rfl

theorem governParams_runs (old : Params) (s : State) : Runs s (governParams old s) := by
  unfold governParams; split <;> exact .of_stock rfl

theorem applyParams_runs (pairs : List (ParamId × Int)) (s : State) : Runs s (applyParams pairs s) := by
  unfold applyParams
  refine .trans ?_ (.trans (auditParams_runs ..) (governParams_runs ..))
  exact .after_same (.then_same (rearm_runs ..))

theorem decideSetParams_runs (pairs : List (BitVec 8 × BitVec 32)) (s : State) : Runs s (decideSetParams pairs s).1 := by
  unfold decideSetParams; simp only
  split
  · exact .refl s
  split
  · exact .refl s
  split
  · exact .refl s
  split
  · exact .refl s
  split
  · exact .refl s
  exact applyParams_runs ..

theorem decideGetParams_runs (ids : List (BitVec 8)) (s : State) : Runs s (decideGetParams ids s).1 := by
  unfold decideGetParams; simp only
  split
  · exact .refl s
  · split <;> exact .refl s

theorem decideAuditStop_runs (s : State) : Runs s (decideAuditStop s).1 := by
  unfold decideAuditStop; split
  · exact endAudit_runs ..
  · exact .refl s

theorem decideHistory_runs (first : Byte) (s : State) : Runs s (decideHistory first s).1 := by
  unfold decideHistory; split <;> exact .refl s

theorem decidePatternInfo_runs (slot : Byte) (s : State) : Runs s (decidePatternInfo slot s).1 := by
  unfold decidePatternInfo; simp only; split <;> exact .refl s

end Sys2Proof.Machine
end

section
/-! PROOFS. Laws of the Pattern Store (chapter 1): what each of its operations writes, where a slot's segments lie, which
runs of areas are free, and the set a bar byte stands for. -/

namespace Sys2Proof.Machine

/-! ## Slots -/

theorem Store.slot_setSlot_same {t : Store} {i : Nat} (r : Slot) (h : i < t.slots.length) : (t.setSlot i r).slot i = r := by
  simp [Store.slot, Store.setSlot, List.getD_eq_getElem?_getD, h]

theorem Store.slot_setSlot_ne (t : Store) {i j : Nat} (r : Slot) (h : j ≠ i) : (t.setSlot i r).slot j = t.slot j := by
  simp [Store.slot, Store.setSlot, List.getD_eq_getElem?_getD, List.getElem?_set_ne h.symm]

theorem Store.setSlot_of_length_le {t : Store} {i : Nat} (r : Slot) (h : t.slots.length ≤ i) : t.setSlot i r = t := by
  simp [Store.setSlot, List.set_eq_of_length_le h]

@[simp] theorem Store.length_setSlot (t : Store) (i : Nat) (r : Slot) :
    (t.setSlot i r).slots.length = t.slots.length := List.length_set
@[simp] theorem Store.segMem_setSlot (t : Store) (i : Nat) (r : Slot) : (t.setSlot i r).segMem = t.segMem := rfl

@[simp] theorem Store.slots_freeAreas (t : Store) (i : Nat) : (t.freeAreas i).slots = t.slots := by
  unfold Store.freeAreas; simp only; split <;> rfl

@[simp] theorem Store.slot_freeAreas (t : Store) (i j : Nat) : (t.freeAreas i).slot j = t.slot j := by
  simp [Store.slot]

theorem Store.freeAreas_of_empty {t : Store} {i : Nat} (h : (t.slot i).state = .empty) : t.freeAreas i = t := by
  simp [Store.freeAreas, h]

theorem Store.segMem_freeAreas {t : Store} {i : Nat} (h : (t.slot i).state ≠ .empty) :
    (t.freeAreas i).segMem = SegMem.clear t.segMem (256 * (t.slot i).firstArea)
      (256 * ((t.slot i).firstArea + (t.slot i).areaCount)) := by
  simp [Store.freeAreas, h]

/-- Append segments to a slot (R8): what an accepted PATTERN_ADD does to the store. -/
def Store.appendSegments (t : Store) (i : Nat) (xs : List Segment) : Store :=
  Store.setSlot
    { t with segMem := SegMem.writeRun t.segMem ((t.slot i).address (t.slot i).segmentCount) xs } i
    { t.slot i with segmentCount := (t.slot i).segmentCount + xs.length }

/-! ## Places -/

/-- The places filled after a run of records is written. -/
theorem SegMem.mem_writeRun {m : SegMem} {a : Nat} {xs : List Segment} {c : Nat × Segment}
    (h : c ∈ SegMem.writeRun m a xs) : (a ≤ c.1 ∧ c.1 < a + xs.length) ∨ c ∈ m := by
  induction xs generalizing m a with
  | nil => exact .inr h
  | cons x xs ih =>
    rw [List.length_cons]
    rcases ih h with run | old
    · exact .inl (by omega)
    · rcases SegMem.mem_write old with rfl | old
      · exact .inl (by dsimp only; omega)
      · exact .inr old

/-- Segments of a slot lie one after the other from its first area on (R1). -/
theorem Slot.address_eq (r : Slot) (k : Nat) : r.address k = 256 * r.firstArea + k := by
  unfold Slot.address; omega

theorem Slot.owns_eq_true (r : Slot) (a : Nat) :
    r.owns a = true ↔ r.state ≠ .empty ∧ r.firstArea ≤ a ∧ a < r.firstArea + r.areaCount := by
  simp [Slot.owns, and_assoc]

theorem Slot.holds_eq_true (r : Slot) (a : Nat) :
    r.holds a = true ↔ r.state ≠ .empty ∧ 256 * r.firstArea ≤ a ∧ a < 256 * r.firstArea + r.segmentCount := by
  simp [Slot.holds, and_assoc]

/-- Two slots that own no area together share no place. -/
theorem Slot.places_disjoint {r q : Slot} (hr : r.state ≠ .empty) (hq : q.state ≠ .empty)
    (fits : q.firstArea + q.areaCount ≤ 16) (apart : ∀ a < 16, (r.owns a && q.owns a) = false) {x : Nat}
    (hx : 256 * q.firstArea ≤ x ∧ x < 256 * (q.firstArea + q.areaCount)) :
    ¬ (256 * r.firstArea ≤ x ∧ x < 256 * (r.firstArea + r.areaCount)) := by
  intro h
  have ownsR : r.owns (x / 256) = true := by rw [Slot.owns_eq_true]; exact ⟨hr, by omega, by omega⟩
  have ownsQ : q.owns (x / 256) = true := by rw [Slot.owns_eq_true]; exact ⟨hq, by omega, by omega⟩
  have := apart (x / 256) (by omega)
  simp [ownsR, ownsQ] at this

/-- The segments of a slot are a matter of its place, its count and what is read there. -/
theorem Store.segments_congr {t u : Store} {i : Nat} (count : (u.slot i).segmentCount = (t.slot i).segmentCount)
    (first : (u.slot i).firstArea = (t.slot i).firstArea)
    (reads : ∀ k < (t.slot i).segmentCount,
      SegMem.read u.segMem ((t.slot i).address k) = SegMem.read t.segMem ((t.slot i).address k)) :
    u.segments i = t.segments i := by
  unfold Store.segments
  rw [count]
  refine List.filterMap_congr fun k hk => ?_
  have hk : k < (t.slot i).segmentCount := List.mem_range.1 hk
  have address : (u.slot i).address k = (t.slot i).address k := by simp [Slot.address_eq, first]
  simp [Store.segment, count, address, reads k hk]

/-- A slot that owns places has room for as many segments as a walk of it meets. -/
theorem Store.length_segments_le (t : Store) (i : Nat) : (t.segments i).length ≤ (t.slot i).segmentCount :=
  (List.length_filterMap_le ..).trans (by simp)

/-- With every segment present (R4) a slot has as many segments as it counts. -/
theorem Store.length_segments {t : Store} {i : Nat} (h : ∀ k < (t.slot i).segmentCount, (t.segment i k).isSome = true) :
    (t.segments i).length = (t.slot i).segmentCount := by
  unfold Store.segments
  rw [List.length_filterMap_eq_countP, List.countP_eq_length.2 (by simpa using h), List.length_range]

/-! ## Free runs (R2) -/

/-- A run is free for a request naming a slot when no other slot owns an area of it. -/
theorem Store.runFree_iff (t : Store) (i a n : Nat) :
    t.runFree i a n = true ↔ ∀ k < n, ∀ j < 16, j ≠ i → (t.slot j).owns (a + k) = false := by
  simp only [Store.runFree, Store.freeFor, List.all_eq_true, List.mem_range, Bool.or_eq_true, decide_eq_true_eq,
    Bool.not_eq_true']
  exact forall₂_congr fun k _ => forall₂_congr fun j _ => Decidable.or_iff_not_imp_left

/-- The lowest-numbered run of n free areas (R2). -/
theorem Store.allocate_eq_some {t : Store} {i n a : Nat} (hn : n ≤ 16) :
    t.allocate i n = some a ↔ a + n ≤ 16 ∧ t.runFree i a n = true ∧ ∀ b < a, t.runFree i b n = false := by
  simp only [Store.allocate, List.find?_range_eq_some, List.mem_range, Bool.not_eq_true']
  constructor
  · rintro ⟨h, ha, lower⟩; exact ⟨by omega, h, lower⟩
  · rintro ⟨ha, h, lower⟩; exact ⟨h, by omega, lower⟩

theorem Store.allocate_eq_none {t : Store} {i n : Nat} (hn : n ≤ 16) :
    t.allocate i n = none ↔ ∀ a, a + n ≤ 16 → t.runFree i a n = false := by
  simp only [Store.allocate, List.find?_range_eq_none, Bool.not_eq_true']
  exact forall_congr' fun a => ⟨fun h ha => h (by omega), fun h ha => h (by omega)⟩

theorem foldl_max_eq {l : List Nat} {m b : Nat} (hm : m ∈ l ∨ m = b) (hb : b ≤ m) (hl : ∀ x ∈ l, x ≤ m) :
    l.foldl max b = m := by
  induction l generalizing b with
  | nil => simpa [eq_comm] using hm
  | cons x xs ih =>
    have hx : x ≤ m := hl x (by simp)
    refine ih ?_ (by omega) fun y hy => hl y (by simp [hy])
    rcases hm with hm | rfl
    · rcases List.mem_cons.1 hm with rfl | hm
      · exact .inr (by omega)
      · exact .inl hm
    · exact .inr (by omega)

/-- The longest free run (R2). -/
theorem Store.longestRun_eq {t : Store} {i m : Nat} (found : ∃ a, a + m ≤ 16 ∧ t.runFree i a m = true)
    (longest : ∀ a n, a + n ≤ 16 → t.runFree i a n = true → n ≤ m) : t.longestRun i = m := by
  obtain ⟨a, ha, free⟩ := found
  refine foldl_max_eq (.inl ?_) (by omega) fun n hn => ?_
  · simp only [List.mem_filter, List.mem_range, List.any_eq_true]
    exact ⟨by omega, a, by omega, free⟩
  · simp only [List.mem_filter, List.mem_range, List.any_eq_true] at hn
    obtain ⟨hn, b, hb, free⟩ := hn
    exact longest b n (by omega) free

theorem Store.otherLoading_eq_false (t : Store) (i : Nat) :
    t.otherLoading i = false ↔ ∀ j < 16, j ≠ i → (t.slot j).state ≠ .loading := by
  simp [Store.otherLoading, List.any_eq_false]

/-! ## Bar bytes (R189) -/

theorem BarSet.ofByte_of_bars {b : Byte} (h : 1 ≤ b.toNat ∧ b.toNat ≤ 7) :
    BarSet.ofByte b = some ⟨b.getLsbD 0, b.getLsbD 1, b.getLsbD 2⟩ :=
  if_neg (by omega)

theorem BarSet.ofByte_eq_none {b : Byte} (h : ¬ (1 ≤ b.toNat ∧ b.toNat ≤ 7)) : BarSet.ofByte b = Option.none :=
  if_pos (by omega)

/-- The bar sets a byte can name are those of the bytes 1 to 7. -/
theorem BarSet.byte_of_ofByte {b : Byte} {t : BarSet} (h : BarSet.ofByte b = some t) :
    (1 ≤ b.toNat ∧ b.toNat ≤ 7) ∧ t = ⟨b.getLsbD 0, b.getLsbD 1, b.getLsbD 2⟩ := by
  by_cases bars : 1 ≤ b.toNat ∧ b.toNat ≤ 7
  · exact ⟨bars, by simpa [BarSet.ofByte_of_bars bars, eq_comm] using h⟩
  · simp [BarSet.ofByte_eq_none bars] at h

/-- A byte between 1 and 7 names a bar. -/
theorem BarSet.isEmpty_of_byte {b : Byte} (h : 1 ≤ b.toNat ∧ b.toNat ≤ 7) :
    BarSet.isEmpty ⟨b.getLsbD 0, b.getLsbD 1, b.getLsbD 2⟩ = false := by
  revert h; revert b; decide

end Sys2Proof.Machine
end

section
/-! PROOFS. What one step can do to the Pattern Store and the orders, said once: a run of the line, a reset, or one of the
six things that the pattern and order requests do. -/

namespace Sys2Proof.Machine

/-- Everything a step can do to the Pattern Store and the orders of the schedule. -/
inductive Stock.Change (a : Stock) : Stock → Prop
  /-- The line runs. -/
  | runs {b : Stock} (h : Relation.ReflTransGen Stock.Moves a b) : Change a b
  /-- A reset (R19, R36). -/
  | reset : Change a ⟨Store.reset, []⟩
  /-- PATTERN_BEGIN gives slot i a free run (R6, R7). -/
  | began (i : Nat) (r : Slot) (hi : i < 16) (alone : ∀ j < 16, j ≠ i → (a.store.slot j).state ≠ .loading)
      (unused : (a.store.slot i).state = .ready → (a.store.slot i).useCount = 0)
      (fresh : r.state = .loading ∧ r.segmentCount = 0 ∧ r.atClose = AtClose.zero ∧ r.useCount = 0)
      (run : 1 ≤ r.areaCount ∧ r.firstArea + r.areaCount ≤ 16)
      (fields : r.startX ≤ 2400 ∧ 1 ≤ r.pitch ∧ r.pitch ≤ 10000 ∧ r.initialBars.isEmpty = false)
      (free : ∀ k < r.areaCount, ∀ j < 16, j ≠ i → (a.store.slot j).owns (r.firstArea + k) = false) :
      Change a ⟨(a.store.freeAreas i).setSlot i r, a.orders⟩
  /-- PATTERN_ADD appends segments to the LOADING slot i (R8). -/
  | appended (i : Nat) (xs : List Segment) (hi : i < 16) (loading : (a.store.slot i).state = .loading)
      (room : (a.store.slot i).segmentCount + xs.length ≤ 256 * (a.store.slot i).areaCount) :
      Change a ⟨a.store.appendSegments i xs, a.orders⟩
  /-- PATTERN_END makes the LOADING slot i READY (R12). -/
  | closed (i : Nat) (c : AtClose) (hi : i < 16) (loading : (a.store.slot i).state = .loading)
      (some_segment : 1 ≤ (a.store.slot i).segmentCount) :
      Change a ⟨a.store.setSlot i { a.store.slot i with state := .ready, atClose := c, useCount := 0 }, a.orders⟩
  /-- PATTERN_END of an unsound pattern or PATTERN_ERASE makes slot i EMPTY (R11, R14). -/
  | emptied (i : Nat) (hi : i < 16) (unused : (a.store.slot i).useCount = 0 ∨ (a.store.slot i).state = .loading) :
      Change a ⟨a.store.emptySlot i, a.orders⟩
  /-- ORDER_ADD appends an order on a READY slot, ACTIVE where no order is (R21, R25, R27). -/
  | joined (o : Order) (slot_lt : o.spec.slot < 16) (ready : (a.store.slot o.spec.slot).state = .ready)
      (room : a.orders.length < 8) (newId : ∀ x ∈ a.orders, x.spec.orderId ≠ o.spec.orderId)
      (place : o.state =
        if (a.orders.find? fun x => decide (x.state = .active)).isSome then OrderState.queued else .active) :
      Change a ⟨a.store.countUse o.spec.slot, a.orders ++ [o]⟩
  /-- ORDER_CANCEL takes a QUEUED order out (R26). -/
  | cancelled (o : Order) (mem : o ∈ a.orders) (queued : o.state ≠ .active) :
      Change a ⟨a.store.dropUse o.spec.slot, a.orders.filter fun x => decide (x.spec.orderId ≠ o.spec.orderId)⟩

theorem Stock.Change.refl (a : Stock) : a.Change a := .runs .refl

theorem Runs.change {s t : State} (h : Runs s t) : s.stock.Change t.stock := .runs h

/-! ## The pattern and order requests -/

theorem decidePatternBegin_change (slot n : Byte) (x p : BitVec 16) (bars : Byte) (s : State) :
    s.stock.Change (decidePatternBegin slot n x p bars s).1.stock := by
  unfold decidePatternBegin
  extract_lets i n
  split
  · exact .refl _
  split
  · exact .refl _
  split
  · exact .refl _
  split
  · exact .refl _
  split
  · exact .refl _
  split
  · exact .refl _
  rename_i hi other used count start pitch
  split
  · exact .refl _
  · rename_i set hset
    split
    · exact .refl _
    · rename_i a ha
      obtain ⟨byte, rfl⟩ := BarSet.byte_of_ofByte hset
      obtain ⟨run, free, -⟩ := (Store.allocate_eq_some (by omega)).1 ha
      exact .began i ⟨.loading, a, n, 0, x.toNat, p.toNat, _, AtClose.zero, 0⟩ (by omega)
        ((s.store.otherLoading_eq_false i).1 (by simpa using other))
        (fun ready => Nat.eq_zero_of_not_pos fun h => used ⟨ready, h⟩) ⟨rfl, rfl, rfl, rfl⟩ ⟨by dsimp only; omega, run⟩
        ⟨by dsimp only; omega, by dsimp only; omega, by dsimp only; omega, BarSet.isEmpty_of_byte byte⟩
        ((s.store.runFree_iff i a n).1 free)

theorem decidePatternAdd_change (slot : Byte) (records : List (BitVec 64)) (s : State) :
    s.stock.Change (decidePatternAdd slot records s).1.stock := by
  unfold decidePatternAdd
  extract_lets i r
  split
  · exact .refl _
  split
  · exact .refl _
  split
  · exact .refl _
  rename_i loading
  split
  · exact .refl _
  · dsimp only
    split
    · exact .refl _
    · exact .appended i _ (by omega) (by simpa using loading) (Nat.le_of_not_lt ‹_›)

/-- A walk that ends well has met a STITCH, so the pattern has a segment. -/
theorem walkSegments_ok_ne_nil {startX i : Nat} {xs : List Segment} {w : Walk}
    (h : walkSegments startX i Walk.origin xs = .ok w) : xs ≠ [] := by
  rintro rfl
  simp [walkSegments, Walk.origin] at h

theorem decidePatternEnd_change (slot : Byte) (s : State) :
    s.stock.Change (decidePatternEnd slot s).1.stock := by
  unfold decidePatternEnd
  extract_lets i r
  split
  · exact .refl _
  split
  · exact .refl _
  rename_i hi loading
  have loading : (s.store.slot i).state = .loading := by simpa using loading
  split
  · exact .emptied i (by omega) (.inr loading)
  · rename_i w hw
    refine .closed i _ (by omega) loading ?_
    have := List.length_pos_iff.2 (walkSegments_ok_ne_nil hw)
    exact this.trans_le (s.store.length_segments_le i)

theorem decidePatternErase_change (slot : Byte) (s : State) :
    s.stock.Change (decidePatternErase slot s).1.stock := by
  unfold decidePatternErase
  extract_lets i
  split
  · exact .refl _
  split
  · exact .refl _
  · exact .emptied i (by omega) (.inl (by dsimp only [State.stock_store]; omega))

/-- An order record without a failing field names a slot of the store (R20). -/
theorem slot_lt_of_sound {o : OrderFields} (h : OrderFields.fault o = none) : o.slot.toNat < 16 := by
  by_contra hs
  by_cases id : o.orderId.toNat = 0
  · rw [OrderFields.fault, if_pos id] at h; cases h
  · rw [OrderFields.fault, if_neg id, if_pos (by omega)] at h; cases h

theorem decideOrderAdd_change (o : OrderFields) (s : State) : s.stock.Change (decideOrderAdd o s).1.stock := by
  unfold decideOrderAdd
  split
  · exact .refl _
  rename_i sound
  split
  · exact .refl _
  rename_i room
  split
  · exact .refl _
  rename_i fresh
  extract_lets spec r clamped order position reply used
  split
  · exact .refl _
  rename_i ready
  split
  · exact .refl _
  split
  · exact .refl _
  split
  · exact .refl _
  have newId : ∀ x ∈ s.stock.orders, x.spec.orderId ≠ spec.orderId := by
    simpa [spec, OrderFields.spec] using fresh
  have ready : (s.store.slot spec.slot).state = .ready := by simpa using ready
  have room : s.stock.orders.length < 8 := by simpa [Config.scheduleCapacity] using room
  split
  · rename_i active
    rw [judgeQueue_stock]
    exact .joined order (slot_lt_of_sound sound) ready room newId (if_pos active).symm
  · rename_i active
    rw [handToPlanner_stock]
    exact .joined order.taken (slot_lt_of_sound sound) ready room newId (if_neg active).symm

theorem decideOrderCancel_change (id : BitVec 16) (s : State) : s.stock.Change (decideOrderCancel id s).1.stock := by
  unfold decideOrderCancel
  split
  · exact .refl _
  split
  · exact .refl _
  rename_i o found
  split
  · exact .refl _
  rename_i queued
  have named : o.spec.orderId = id.toNat := by simpa using List.find?_some found
  rw [judgeQueue_stock, ← named]
  exact .cancelled o (List.mem_of_find?_eq_some found) queued

/-! ## Requests, frames and events -/

/-- How a request is decided changes the stock by one of the changes above. -/
theorem decideRequest_change {c : Instr} {k tag : Byte} {d : State → State × Reply}
    (h : decideRequest c = some (k, tag, d)) (s : State) : s.stock.Change (d s).1.stock := by
  cases c
  case patternBegin => cases h; exact decidePatternBegin_change ..
  case patternAdd => cases h; exact decidePatternAdd_change ..
  case patternEnd => cases h; exact decidePatternEnd_change ..
  case patternErase => cases h; exact decidePatternErase_change ..
  case orderAdd => cases h; exact decideOrderAdd_change ..
  case orderCancel => cases h; exact decideOrderCancel_change ..
  case getInfo => cases h; exact .refl _
  case scheduleList => cases h; exact .refl _
  case status => cases h; exact .refl _
  case needles => cases h; exact .refl _
  case auditResult => cases h; exact .refl _
  case auditStart => cases h; exact .refl _
  case reset => cases h; exact .refl _
  case patternInfo => cases h; exact (decidePatternInfo_runs ..).change
  case history => cases h; exact (decideHistory_runs ..).change
  case setParams => cases h; exact (decideSetParams_runs ..).change
  case getParams => cases h; exact (decideGetParams_runs ..).change
  case setTiming => cases h; exact (decideSetTiming_runs ..).change
  case rephase => cases h; exact (decideRephase_runs ..).change
  case modeRun => cases h; exact (decideRun_runs ..).change
  case modeHold => cases h; exact (decideModeHold_runs ..).change
  case modeIdle => cases h; exact (decideRest_runs ..).change
  case modeThread => cases h; exact (decideRest_runs ..).change
  case abortPanel => cases h; exact (decideAbort_runs s).change
  case homeX => cases h; exact (decideHomeX_runs s).change
  case forceBar => cases h; exact (decideForceBar_runs ..).change
  case clearFaults => cases h; exact (decideClearFaults_runs s).change
  case auditStop => cases h; exact (decideAuditStop_runs s).change
  all_goals cases h

theorem request_change (kind tag : Byte) {d : State → State × Reply}
    (h : ∀ s : State, s.stock.Change (d s).1.stock) (s : State) : s.stock.Change (request kind tag d s).stock := by
  unfold request
  split
  · exact .refl _
  split
  · split <;> exact .refl _
  · exact h (keepLine s)

/-- A request command is its request and the transmitter's choice. -/
theorem exec_request {c : Instr} {k tag : Byte} {d : State → State × Reply} (h : decideRequest c = some (k, tag, d))
    (s : State) : exec c s = .next (transmit (request k tag d s)) := by
  cases c <;> cases h <;> rfl

theorem decideFrame_change (kind tag : Byte) (payload : List Byte) (s : State) :
    s.stock.Change (decideFrame kind tag payload s).1.stock := by
  unfold decideFrame
  split
  · exact .refl _
  · exact .refl _
  · exact .refl _
  · split
    · exact decideRequest_change ‹_› s
    · exact .refl _

theorem frameArrives_change (kind tag : Byte) (payload : List Byte) (s : State) :
    s.stock.Change (frameArrives kind tag payload s).stock := by
  unfold frameArrives
  split
  · exact .refl _
  · exact request_change kind tag (decideFrame_change kind tag payload) s

theorem byteArrives_change (b : Byte) (s : State) : s.stock.Change (byteArrives b s).stock := by
  unfold byteArrives
  extract_lets a t
  cases a with
  | complete f => exact frameArrives_change f.kind f.tag f.payload t
  | hunting => exact .refl _
  | collecting bs => exact .refl _

theorem live_change {f : State → State} (h : ∀ s : State, s.stock.Change (f s).stock) (s : State) :
    s.stock.Change (live f s).stock := by
  unfold live
  split
  · exact .refl _
  · exact h s

/-- An event that makes the line run, on the levels it finds or sets. -/
theorem live_runs_change {f : State → State} {s u t : State} (h : ∀ v, Runs v (f v))
    (e : finish (live f u) = .next t) (levels : u.stock = s.stock := by rfl) : s.stock.Change t.stock := by
  cases e
  rw [← levels]
  exact live_change (fun v => (h v).change) u

theorem txEnds_runs (s : State) : Runs s (txEnds s) := by
  unfold txEnds; split <;> exact .of_stock rfl

/-- What an event does to the stock: the line runs, or a reset restores it. -/
theorem exec_event_change {c : Instr} {s t : State} (event : decideRequest c = none) (h : exec c s = .next t) :
    s.stock.Change t.stock := by
  cases c
  case resetTakesEffect strap =>
    simp only [exec, execResetTakesEffect] at h
    split at h <;> cases h
    · exact .reset
    · exact .refl _
  case resetn => cases h; exact .reset
  case resetnReleased strap =>
    simp only [exec, execResetnReleased] at h
    split at h <;> cases h
    · exact .reset
    · exact .refl _
  case frameReceived kind tag payload => cases h; exact frameArrives_change kind tag payload s
  case byteReceived b => cases h; exact live_change (byteArrives_change b) s
  case barInputChange b up dn =>
    cases h
    show s.stock.Change (State.stock (if _ then _ else _))
    split
    · exact .refl _
    · exact Runs.change (.after_same (barInputs_runs b _))
  case estopReleased => cases h; exact .refl _
  case drvfltReleased => cases h; exact .refl _
  case interByteGap => exact live_runs_change (f := setAsm none) (fun _ => .of_stock rfl) h
  case framingErrorOrBreak => exact live_runs_change (f := setAsm none) (fun _ => .of_stock rfl) h
  case frameTransmitted => exact live_runs_change txEnds_runs h
  case indexPulse now => exact live_runs_change (takeIndex_runs now) h
  case stopped => exact live_runs_change shaftStops_runs h
  case stepPulseDue axis => exact live_runs_change (stepDue_runs axis) h
  case feedBegin => exact live_runs_change feedBegin_runs h
  case markEdge => exact live_runs_change markEdge_runs h
  case cutTimeExpiry => exact live_runs_change cutEnds_runs h
  case homePulseDue => exact live_runs_change homingDue_runs h
  case xhomeAsserted level => exact live_runs_change (xhomeLevel_runs level) h
  case barChangeBegin => exact live_runs_change barChangeBegin_runs h
  case deadTimeExpiry b => exact live_runs_change (deadTimeEnds_runs b) h
  case barTimeout b => exact live_runs_change (barTimesOut_runs b) h
  case drvfltAsserted => exact live_runs_change (fun v => (latch_stop .drive none v).runs) h
  case startInput => exact live_runs_change (decideRun_runs .input) h
  case jogReleased => exact live_runs_change (fun v => (jogEnd_gov v).runs) h
  case scanTimerExpiry => exact live_runs_change scanBegins_runs h
  case scanComplete first rest => exact live_runs_change (scanEnds_runs _) h
  case estopAsserted =>
    refine live_runs_change (fun v => ?_) h
    exact ((estopBars_bars v).runs.trans (estopMotion_runs _)).trans (latch_stop ..).runs
  case demandPwmPeriod =>
    refine live_runs_change (fun v => ?_) h
    exact .of_stock rfl
  case encoderCount a b =>
    refine live_runs_change (fun v => ?_) h
    split
    · exact takeCount_runs ..
    · exact .refl v
  case holdInput =>
    refine live_runs_change (fun v => ?_) h
    split
    · exact decideHold_runs ..
    · exact .refl v
  case jogPressed =>
    refine live_runs_change (fun v => ?_) h
    split
    · exact (jogBegin_gov v).runs
    · exact .refl v
  case feedRollerEdge a b =>
    refine live_runs_change (fun v => ?_) h
    split
    · exact addRoll_runs v
    · exact .refl v
  case measuringWheelEdge a b =>
    refine live_runs_change (fun v => ?_) h
    split
    · exact addWheel_runs v
    · exact .refl v
  all_goals cases event

theorem exec_change {c : Instr} {s t : State} (h : exec c s = .next t) : s.stock.Change t.stock := by
  cases e : decideRequest c with
  | none => exact exec_event_change e h
  | some p =>
    obtain ⟨k, tag, d⟩ := p
    rw [exec_request e] at h
    cases h
    exact request_change k tag (decideRequest_change e) s

/-- What a step can do to the Pattern Store and the orders. -/
theorem step_change {s t : State} (h : step s = .next t) : s.stock.Change t.stock := by
  unfold step at h
  split at h
  · cases h; exact .refl _
  · rename_i c rest _
    exact exec_change (s := { s with pending := rest }) h

end Sys2Proof.Machine
end

section
/-! PROOFS. The Pattern Store's shape (R1, R3, R4) under every change of the stock. Each change writes one slot and touches
segment memory only in that slot's own areas. -/

namespace Sys2Proof.Machine

/-! ## A store in shape -/

section
variable {t : Store} (h : StoreShape t) {i j : Nat}
include h

theorem StoreShape.length_slots : t.slots.length = 16 := by
  obtain ⟨slots, -⟩ := h; exact slots

theorem StoreShape.canonical : SegMem.wf t.segMem = true := by
  obtain ⟨-, wf, -⟩ := h; exact wf

theorem StoreShape.slot_shape (hi : i < 16) : SlotShape (t.slot i) := by
  obtain ⟨-, -, shapes, -⟩ := h; exact shapes i hi

theorem StoreShape.apart (hi : i < 16) (hj : j < 16) (ne : i ≠ j) :
    ∀ a < 16, ((t.slot i).owns a && (t.slot j).owns a) = false := by
  obtain ⟨-, -, -, apart, -⟩ := h; exact apart i hi j hj ne

/-- At most one slot is LOADING (R6). -/
theorem StoreShape.one_loading (hi : i < 16) (hj : j < 16) (li : (t.slot i).state = .loading)
    (lj : (t.slot j).state = .loading) : i = j := by
  obtain ⟨-, -, -, -, loading, -⟩ := h; exact loading i hi j hj li lj

theorem StoreShape.present (hi : i < 16) : ∀ k < (t.slot i).segmentCount, (t.segment i k).isSome = true := by
  obtain ⟨-, -, -, -, -, present, -⟩ := h; exact present i hi

/-- In a store in shape every place filled is held by a slot. -/
theorem StoreShape.held {c : Nat × Segment} (hc : c ∈ t.segMem) : ∃ j < 16, (t.slot j).holds c.1 = true := by
  obtain ⟨-, -, -, -, -, -, held⟩ := h
  simpa using held c hc

/-- A slot that is not EMPTY has its run inside the memory and its segments inside its run. -/
theorem StoreShape.run_fits (hi : i < 16) (ne : (t.slot i).state ≠ .empty) :
    (t.slot i).firstArea + (t.slot i).areaCount ≤ 16 ∧ (t.slot i).segmentCount ≤ 256 * (t.slot i).areaCount := by
  obtain ⟨-, fits, -, -⟩ := h.slot_shape hi
  obtain ⟨-, run, room, -⟩ := fits ne
  exact ⟨run, room⟩

/-- A slot with a segment is not EMPTY. -/
theorem StoreShape.not_empty_of_segment (hi : i < 16) {k : Nat} (hk : k < (t.slot i).segmentCount) :
    (t.slot i).state ≠ .empty := by
  intro state
  obtain ⟨empty, -⟩ := h.slot_shape hi
  rw [empty state] at hk
  exact absurd hk (Nat.not_lt_zero k)

/-- No segment of another slot lies in the areas of a slot. -/
theorem StoreShape.address_outside (hi : i < 16) (hj : j < 16) (ne : j ≠ i) (ni : (t.slot i).state ≠ .empty) {k : Nat}
    (hk : k < (t.slot j).segmentCount) :
    ¬ (256 * (t.slot i).firstArea ≤ (t.slot j).address k
      ∧ (t.slot j).address k < 256 * ((t.slot i).firstArea + (t.slot i).areaCount)) := by
  have nj := h.not_empty_of_segment hj hk
  obtain ⟨fits, room⟩ := h.run_fits hj nj
  refine Slot.places_disjoint ni nj fits (h.apart hi hj ne.symm) ?_
  rw [Slot.address_eq]
  omega

/-- Freeing a slot's areas leaves every other slot's segments (R1, R7). -/
theorem StoreShape.read_freeAreas (hi : i < 16) (hj : j < 16) (ne : j ≠ i) {k : Nat}
    (hk : k < (t.slot j).segmentCount) :
    SegMem.read (t.freeAreas i).segMem ((t.slot j).address k) = SegMem.read t.segMem ((t.slot j).address k) := by
  by_cases ni : (t.slot i).state = .empty
  · rw [Store.freeAreas_of_empty ni]
  · rw [Store.segMem_freeAreas ni, SegMem.read_clear, if_neg (h.address_outside hi hj ne ni hk)]

/-- Appending to a slot leaves every other slot's segments (R8). -/
theorem StoreShape.read_appendSegments (hi : i < 16) (hj : j < 16) (ne : j ≠ i) (ni : (t.slot i).state ≠ .empty)
    {xs : List Segment} (room : (t.slot i).segmentCount + xs.length ≤ 256 * (t.slot i).areaCount) {k : Nat}
    (hk : k < (t.slot j).segmentCount) :
    SegMem.read (t.appendSegments i xs).segMem ((t.slot j).address k) = SegMem.read t.segMem ((t.slot j).address k) := by
  have outside := h.address_outside hi hj ne ni hk
  refine SegMem.read_writeRun_other _ _ _ _ ?_
  rw [Slot.address_eq (t.slot i)]
  omega

end

/-! ## One slot replaced -/

/-- What a new record r of slot i and a new memory m must meet to keep the store's shape. -/
structure Replaces (t : Store) (i : Nat) (r : Slot) (m : SegMem) : Prop where
  canonical : SegMem.wf m = true
  shape : SlotShape r
  apart : ∀ j < 16, j ≠ i → ∀ a < 16, (r.owns a && (t.slot j).owns a) = false
  loading : r.state = .loading → ∀ j < 16, j ≠ i → (t.slot j).state ≠ .loading
  present : ∀ k < r.segmentCount, (SegMem.read m (r.address k)).isSome = true
  others : ∀ j < 16, j ≠ i → ∀ k < (t.slot j).segmentCount,
    SegMem.read m ((t.slot j).address k) = SegMem.read t.segMem ((t.slot j).address k)
  filled : ∀ c ∈ m, r.holds c.1 = true ∨ ∃ j < 16, j ≠ i ∧ (t.slot j).holds c.1 = true

theorem StoreShape.replace {t : Store} (h : StoreShape t) {i : Nat} (hi : i < 16) {r : Slot} {m : SegMem}
    (new : Replaces t i r m) : StoreShape (Store.setSlot { t with segMem := m } i r) := by
  obtain ⟨len, -, shapes, apart, loading, present, -⟩ := h
  have same : (Store.setSlot { t with segMem := m } i r).slot i = r := Store.slot_setSlot_same r (by simpa [len] using hi)
  have other : ∀ j, j ≠ i → (Store.setSlot { t with segMem := m } i r).slot j = t.slot j := fun j ne =>
    Store.slot_setSlot_ne _ r ne
  refine ⟨by simpa using len, new.canonical, fun j hj => ?_, fun j hj l hl ne a ha => ?_, fun j hj l hl aj al => ?_,
    fun j hj k hk => ?_, fun c hc => ?_⟩
  · by_cases e : j = i
    · rw [e, same]; exact new.shape
    · rw [other j e]; exact shapes j hj
  · by_cases ej : j = i
    · subst ej; rw [same, other l ne.symm]; exact new.apart l hl ne.symm a ha
    · by_cases el : l = i
      · subst el; rw [same, other j ej, Bool.and_comm]; exact new.apart j hj ej a ha
      · rw [other j ej, other l el]; exact apart j hj l hl ne a ha
  · by_cases ej : j = i
    · by_cases el : l = i
      · rw [ej, el]
      · rw [ej, same] at aj; rw [other l el] at al
        exact absurd al (new.loading aj l hl el)
    · by_cases el : l = i
      · rw [el, same] at al; rw [other j ej] at aj
        exact absurd aj (new.loading al j hj ej)
      · rw [other j ej] at aj; rw [other l el] at al
        exact loading j hj l hl aj al
  · by_cases e : j = i
    · subst e
      rw [same] at hk
      simpa [Store.segment, same, hk] using new.present k hk
    · rw [other j e] at hk
      have := present j hj k hk
      rw [Store.segment, if_pos hk] at this
      rw [Store.segment, other j e, if_pos hk, Store.segMem_setSlot, new.others j hj e k hk]
      exact this
  · simp only [List.any_eq_true, List.mem_range]
    rcases new.filled c hc with held | ⟨j, hj, e, held⟩
    · exact ⟨i, hi, by rw [same]; exact held⟩
    · exact ⟨j, hj, by rw [other j e]; exact held⟩

/-! ## Each change of the stock -/

/-- A record that keeps its slot's areas and segments, as a close or a use count does. -/
theorem StoreShape.relabel {t : Store} (h : StoreShape t) {i : Nat} (hi : i < 16) {r : Slot} (shape : SlotShape r)
    (state : r.state = .empty ↔ (t.slot i).state = .empty) (loading : r.state = .loading → (t.slot i).state = .loading)
    (area : r.firstArea = (t.slot i).firstArea ∧ r.areaCount = (t.slot i).areaCount)
    (count : r.segmentCount = (t.slot i).segmentCount) : StoreShape (t.setSlot i r) := by
  obtain ⟨first, areas⟩ := area
  have owns : r.owns = (t.slot i).owns := by funext a; simp [Slot.owns, state, first, areas]
  have holds : r.holds = (t.slot i).holds := by funext a; simp [Slot.holds, state, first, count]
  refine h.replace (m := t.segMem) hi ⟨h.canonical, shape, fun j hj ne => ?_, fun lr j hj ne lj => ?_, fun k hk => ?_,
    fun _ _ _ _ _ => rfl, fun c hc => ?_⟩
  · rw [owns]; exact h.apart hi hj ne.symm
  · exact ne (h.one_loading hj hi lj (loading lr))
  · rw [count] at hk
    have address : r.address k = (t.slot i).address k := by simp [Slot.address_eq, first]
    simpa [Store.segment, hk, address] using h.present hi k hk
  · obtain ⟨j, hj, held⟩ := h.held hc
    by_cases e : j = i
    · subst e; exact .inl (by rw [holds]; exact held)
    · exact .inr ⟨j, hj, e, held⟩

/-- What a slot's freed areas leave: every place still filled is another slot's. -/
theorem StoreShape.held_freeAreas {t : Store} (h : StoreShape t) {i : Nat} (hi : i < 16) {c : Nat × Segment}
    (hc : c ∈ (t.freeAreas i).segMem) : ∃ j < 16, j ≠ i ∧ (t.slot j).holds c.1 = true := by
  by_cases ni : (t.slot i).state = .empty
  · rw [Store.freeAreas_of_empty ni] at hc
    obtain ⟨j, hj, held⟩ := h.held hc
    refine ⟨j, hj, ?_, held⟩
    rintro rfl
    exact ((Slot.holds_eq_true _ _).1 held).1 ni
  · rw [Store.segMem_freeAreas ni] at hc
    obtain ⟨hc, outside⟩ := List.mem_filter.1 hc
    obtain ⟨j, hj, held⟩ := h.held hc
    refine ⟨j, hj, ?_, held⟩
    rintro rfl
    obtain ⟨-, lo, up⟩ := (Slot.holds_eq_true _ _).1 held
    obtain ⟨-, room⟩ := h.run_fits hi ni
    simp at outside
    omega

theorem StoreShape.wf_freeAreas {t : Store} (h : StoreShape t) (i : Nat) : SegMem.wf (t.freeAreas i).segMem = true := by
  by_cases ni : (t.slot i).state = .empty
  · rw [Store.freeAreas_of_empty ni]; exact h.canonical
  · rw [Store.segMem_freeAreas ni]; exact SegMem.wf_clear _ _ h.canonical

/-- A slot's areas freed and a record without segments written (R7, R11, R14). -/
theorem StoreShape.renew {t : Store} (h : StoreShape t) {i : Nat} (hi : i < 16) {r : Slot} (shape : SlotShape r)
    (none : r.segmentCount = 0) (apart : ∀ j < 16, j ≠ i → ∀ a < 16, (r.owns a && (t.slot j).owns a) = false)
    (loading : r.state = .loading → ∀ j < 16, j ≠ i → (t.slot j).state ≠ .loading) :
    StoreShape ((t.freeAreas i).setSlot i r) := by
  have new : Replaces t i r (t.freeAreas i).segMem :=
    ⟨h.wf_freeAreas i, shape, apart, loading, fun k hk => absurd hk (by omega),
      fun j hj ne k hk => h.read_freeAreas hi hj ne hk, fun c hc => .inr (h.held_freeAreas hi hc)⟩
  have same : t.freeAreas i = { t with segMem := (t.freeAreas i).segMem } := by
    rw [← Store.slots_freeAreas t i]
  rw [same]
  exact h.replace hi new

theorem slotShape_empty : SlotShape Slot.empty :=
  ⟨fun _ => rfl, fun h => absurd rfl h, fun _ => ⟨rfl, rfl⟩, fun h => by cases h⟩

theorem StoreShape.emptySlot {t : Store} (h : StoreShape t) {i : Nat} (hi : i < 16) : StoreShape (t.emptySlot i) :=
  h.renew hi slotShape_empty rfl (fun _ _ _ _ _ => rfl) (fun h => by cases h)

/-- A new LOADING record on a run that no other slot owns (R7). -/
theorem StoreShape.begin {t : Store} (h : StoreShape t) {i : Nat} (hi : i < 16) {r : Slot}
    (alone : ∀ j < 16, j ≠ i → (t.slot j).state ≠ .loading)
    (fresh : r.state = .loading ∧ r.segmentCount = 0 ∧ r.atClose = AtClose.zero ∧ r.useCount = 0)
    (run : 1 ≤ r.areaCount ∧ r.firstArea + r.areaCount ≤ 16)
    (fields : r.startX ≤ 2400 ∧ 1 ≤ r.pitch ∧ r.pitch ≤ 10000 ∧ r.initialBars.isEmpty = false)
    (free : ∀ k < r.areaCount, ∀ j < 16, j ≠ i → (t.slot j).owns (r.firstArea + k) = false) :
    StoreShape ((t.freeAreas i).setSlot i r) := by
  obtain ⟨state, count, close, use⟩ := fresh
  refine h.renew hi ⟨by simp [state], fun _ => ⟨run.1, run.2, by omega, fields⟩, fun _ => ⟨use, close⟩, by simp [state]⟩
    count (fun j hj ne a _ => ?_) (fun _ => alone)
  by_cases own : r.owns a = true
  · obtain ⟨-, lo, up⟩ := (r.owns_eq_true a).1 own
    have := free (a - r.firstArea) (by omega) j hj ne
    rw [show r.firstArea + (a - r.firstArea) = a by omega] at this
    simp [this]
  · simp [own]

theorem StoreShape.append {t : Store} (h : StoreShape t) {i : Nat} (hi : i < 16) {xs : List Segment}
    (loading : (t.slot i).state = .loading)
    (room : (t.slot i).segmentCount + xs.length ≤ 256 * (t.slot i).areaCount) : StoreShape (t.appendSegments i xs) := by
  have ni : (t.slot i).state ≠ .empty := by simp [loading]
  obtain ⟨fits, -⟩ := h.run_fits hi ni
  obtain ⟨-, fields, unused, -⟩ := h.slot_shape hi
  obtain ⟨areas, run, -, start⟩ := fields ni
  refine h.replace hi ⟨?_, ?_, fun j hj ne => ?_, fun _ j hj ne lj => ?_, fun k hk => ?_, fun j hj ne k hk => ?_,
    fun c hc => ?_⟩
  · refine SegMem.wf_writeRun xs h.canonical ?_
    rw [Slot.address_eq]; omega
  · exact ⟨by simp [loading], fun _ => ⟨areas, run, room, start⟩, fun _ => unused (by simp [loading]), by simp [loading]⟩
  · exact h.apart hi hj ne.symm
  · exact ne (h.one_loading hj hi lj loading)
  · have place : Slot.address { t.slot i with segmentCount := (t.slot i).segmentCount + xs.length } k
        = (t.slot i).address k := rfl
    rw [place]
    by_cases old : k < (t.slot i).segmentCount
    · rw [SegMem.read_writeRun_other _ _ _ _ (by simp only [Slot.address_eq]; omega)]
      simpa [Store.segment, old] using h.present hi k old
    · have hk : k - (t.slot i).segmentCount < xs.length := by dsimp only at hk; omega
      have := SegMem.read_writeRun t.segMem ((t.slot i).address (t.slot i).segmentCount) xs _ _
        (List.getElem?_eq_getElem hk)
      rw [show (t.slot i).address k = (t.slot i).address (t.slot i).segmentCount + (k - (t.slot i).segmentCount) by
        simp only [Slot.address_eq]; omega, this]
      rfl
  · exact h.read_appendSegments hi hj ne ni room hk
  · rcases SegMem.mem_writeRun hc with run | old
    · rw [Slot.address_eq] at run
      exact .inl ((Slot.holds_eq_true _ _).2 ⟨ni, by dsimp only; omega, by dsimp only; omega⟩)
    · obtain ⟨j, hj, held⟩ := h.held old
      by_cases e : j = i
      · subst e
        obtain ⟨-, lo, up⟩ := (Slot.holds_eq_true _ _).1 held
        exact .inl ((Slot.holds_eq_true _ _).2 ⟨ni, lo, by dsimp only; omega⟩)
      · exact .inr ⟨j, hj, e, held⟩

theorem StoreShape.close {t : Store} (h : StoreShape t) {i : Nat} (hi : i < 16) (c : AtClose)
    (loading : (t.slot i).state = .loading) (one : 1 ≤ (t.slot i).segmentCount) :
    StoreShape (t.setSlot i { t.slot i with state := .ready, atClose := c, useCount := 0 }) := by
  obtain ⟨-, fields, -, -⟩ := h.slot_shape hi
  exact h.relabel hi ⟨by simp, fun _ => fields (by simp [loading]), by simp, fun _ => one⟩ (by simp [loading]) (by simp)
    ⟨rfl, rfl⟩ rfl

/-- A use count may change on a READY slot, and stay 0 on any other (R16). -/
theorem StoreShape.setUse {t : Store} (h : StoreShape t) {i : Nat} (n : Nat)
    (count : (t.slot i).state ≠ .ready → (t.slot i).useCount = 0 → n = 0) :
    StoreShape (t.setSlot i { t.slot i with useCount := n }) := by
  by_cases hi : i < 16
  · obtain ⟨empty, fields, unused, one⟩ := h.slot_shape hi
    refine h.relabel hi ⟨fun e => ?_, fields, fun nr => ?_, one⟩ Iff.rfl id ⟨rfl, rfl⟩ rfl
    · rw [count (by simp_all) (unused (by simp_all)).1, empty e]; rfl
    · exact ⟨count nr (unused nr).1, (unused nr).2⟩
  · rw [Store.setSlot_of_length_le _ (by rw [h.length_slots]; omega)]
    exact h

theorem StoreShape.dropUse {t : Store} (h : StoreShape t) (i : Nat) : StoreShape (t.dropUse i) :=
  h.setUse _ fun _ zero => by omega

theorem StoreShape.countUse {t : Store} (h : StoreShape t) {i : Nat} (ready : (t.slot i).state = .ready) :
    StoreShape (t.countUse i) :=
  h.setUse _ fun nr _ => absurd ready nr

/-! ## After reset -/

@[simp] theorem Store.slot_reset (i : Nat) : Store.reset.slot i = Slot.empty := by
  simp only [Store.slot, Store.reset, List.getD_eq_getElem?_getD, List.getElem?_replicate]
  split <;> rfl

/-- The Pattern Store right after reset (R19). -/
theorem storeShape_reset : StoreShape Store.reset := by
  refine ⟨rfl, rfl, fun i _ => ?_, fun i _ j _ _ a _ => ?_, fun i _ j _ h => ?_, fun i _ k hk => ?_, fun c hc => ?_⟩
  · rw [Store.slot_reset]; exact slotShape_empty
  · rw [Store.slot_reset]; rfl
  · rw [Store.slot_reset] at h; cases h
  · rw [Store.slot_reset] at hk; exact absurd hk (Nat.not_lt_zero k)
  · cases hc

/-! ## Every step -/

theorem StoreShape.moves {a b : Stock} (h : StoreShape a.store) (m : Stock.Moves a b) : StoreShape b.store := by
  cases m with
  | figures f keeps => exact h
  | ended o active => exact h.dropUse _

theorem StoreShape.change {a b : Stock} (h : StoreShape a.store) (c : a.Change b) : StoreShape b.store := by
  cases c with
  | runs run =>
    induction run with
    | refl => exact h
    | tail _ m ih => exact ih.moves m
  | reset => exact storeShape_reset
  | began i r hi alone unused fresh run fields free => exact h.begin hi alone fresh run fields free
  | appended i xs hi loading room => exact h.append hi loading room
  | closed i c hi loading one => exact h.close hi c loading one
  | emptied i hi unused => exact h.emptySlot hi
  | joined o slot_lt ready room newId place => exact h.countUse ready
  | cancelled o mem queued => exact h.dropUse _

/-- Settles O3: a step changes the stock in one of the ways of `Stock.Change`, and each keeps the store's shape. -/
theorem patternStoreShapeKept : Obligations.PatternStoreShapeKept :=
  fun _ _ h hstep => StoreShape.change h (step_change hstep)

end Sys2Proof.Machine
end

section
/-! PROOFS. The Panel Schedule's shape (R16, R25) under every change of the stock: the place of the ACTIVE order, and the
use counts against what was ordered. -/

namespace Sys2Proof.Machine

/-! ## The ACTIVE order at the head (R25) -/

theorem activeAtHead_cons (o : Order) (rest : List Order) :
    activeAtHead (o :: rest) = true ↔ o.state = .active ∧ ∀ x ∈ rest, x.state = .queued := by
  simp [activeAtHead]

theorem activeAtHead_map {f : Order → Order} (keeps : ∀ o, (f o).state = o.state) (l : List Order) :
    activeAtHead (l.map f) = activeAtHead l := by
  cases l <;> simp [activeAtHead, keeps, Function.comp_def]

@[simp] theorem takeHead_map_spec (l : List Order) : (takeHead l).map Order.spec = l.map Order.spec := by
  cases l <;> rfl

theorem activeAtHead_takeHead {l : List Order} (h : ∀ x ∈ l, x.state = .queued) : activeAtHead (takeHead l) = true := by
  cases l with
  | nil => rfl
  | cons o rest => exact (activeAtHead_cons _ _).2 ⟨rfl, fun x hx => h x (by simp [hx])⟩

/-- In a schedule in order the ACTIVE order is the head. -/
theorem find?_active {l : List Order} (h : activeAtHead l = true) :
    (l.find? fun x => decide (x.state = .active)) = l.head? := by
  cases l with
  | nil => rfl
  | cons o rest =>
    obtain ⟨active, -⟩ := (activeAtHead_cons o rest).1 h
    simp [active]

/-- The orders left when the ACTIVE one ends are those behind the head. -/
theorem filter_not_active {o : Order} {rest : List Order} (h : activeAtHead (o :: rest) = true) :
    ((o :: rest).filter fun x => decide (x.state ≠ .active)) = rest := by
  obtain ⟨active, queued⟩ := (activeAtHead_cons o rest).1 h
  rw [List.filter_cons_of_neg (by simp [active]), List.filter_eq_self]
  intro x hx
  simp [queued x hx]

/-- An order taken out from behind the head, or one put at the back, leaves the head in its place. -/
theorem activeAtHead_erase {before after : List Order} {o : Order} (queued : o.state ≠ .active)
    (h : activeAtHead (before ++ o :: after) = true) : activeAtHead (before ++ after) = true := by
  cases before with
  | nil => exact absurd ((activeAtHead_cons o after).1 h).1 queued
  | cons p rest =>
    obtain ⟨active, behind⟩ := (activeAtHead_cons p _).1 h
    refine (activeAtHead_cons p _).2 ⟨active, fun x hx => behind x ?_⟩
    rcases List.mem_append.1 hx with hx | hx <;> simp [hx]

theorem activeAtHead_append {l : List Order} {o : Order} (h : activeAtHead l = true)
    (place : o.state = if (l.find? fun x => decide (x.state = .active)).isSome then OrderState.queued else .active) :
    activeAtHead (l ++ [o]) = true := by
  rw [find?_active h] at place
  cases l with
  | nil => exact (activeAtHead_cons o []).2 ⟨place, by simp⟩
  | cons p rest =>
    obtain ⟨active, behind⟩ := (activeAtHead_cons p rest).1 h
    refine (activeAtHead_cons p _).2 ⟨active, fun x hx => ?_⟩
    rcases List.mem_append.1 hx with hx | hx
    · exact behind x hx
    · rw [List.mem_singleton.1 hx]; exact place

/-- With distinct ids, taking out an id takes out its order alone. -/
theorem filter_orderId {before after : List Order} {o : Order}
    (ids : ((before ++ o :: after).map fun x => x.spec.orderId).Nodup) :
    ((before ++ o :: after).filter fun x => decide (x.spec.orderId ≠ o.spec.orderId)) = before ++ after := by
  simp only [List.map_append, List.map_cons, List.nodup_middle, List.nodup_cons, List.mem_append, List.mem_map,
    not_or, not_exists, not_and] at ids
  obtain ⟨⟨notBefore, notAfter⟩, -⟩ := ids
  rw [List.filter_append, List.filter_cons_of_neg (by simp), List.filter_eq_self.2, List.filter_eq_self.2]
  · intro x hx; simpa using notAfter x hx
  · intro x hx; simpa using notBefore x hx

/-! ## The use counts (R16) -/

/-- What ScheduleShape says of the store and of what was ordered, in schedule order. -/
structure Counted (t : Store) (l : List OrderSpec) : Prop where
  slots : t.slots.length = 16
  room : l.length ≤ 8
  ids : (l.map OrderSpec.orderId).Nodup
  slot_lt : ∀ o ∈ l, o.slot < 16
  uses : ∀ i < 16, (t.slot i).useCount = l.countP fun o => decide (o.slot = i)
  ready : ∀ i < 16, 0 < (t.slot i).useCount → (t.slot i).state = .ready

theorem scheduleShape_iff (s : State) :
    ScheduleShape s ↔ activeAtHead s.stock.orders = true ∧ Counted s.stock.store (s.stock.orders.map Order.spec) := by
  have count : ∀ i, ((s.schedule.orders.map Order.spec).countP fun o => decide (o.slot = i))
      = (s.schedule.orders.filter fun o => decide (o.spec.slot = i)).length := fun i => by
    rw [List.countP_map, List.countP_eq_length_filter]; rfl
  constructor
  · rintro ⟨slots, room, ids, head, slot_lt, uses, ready⟩
    exact ⟨head, slots, by simpa using room, by simpa [Function.comp_def] using ids, by simpa using slot_lt,
      fun i hi => (uses i hi).trans (count i).symm, ready⟩
  · rintro ⟨head, slots, room, ids, slot_lt, uses, ready⟩
    exact ⟨slots, by simpa using room, by simpa [Function.comp_def] using ids, head, by simpa using slot_lt,
      fun i hi => (uses i hi).trans (count i), ready⟩

section
variable {t : Store} {l : List OrderSpec} (h : Counted t l)
include h

/-- A slot that is not READY is in no order. -/
theorem Counted.use_zero {i : Nat} (hi : i < 16) (ne : (t.slot i).state ≠ .ready) : (t.slot i).useCount = 0 :=
  Nat.eq_zero_of_not_pos fun pos => ne (h.ready i hi pos)

/-- A slot that no order names takes any record that counts none. -/
theorem Counted.rewrite {i : Nat} {r : Slot} {u : Store} (slots : u.slots = t.slots)
    (unused : (t.slot i).useCount = 0) (none : r.useCount = 0) : Counted (u.setSlot i r) l := by
  have same : ∀ j, u.slot j = t.slot j := fun j => by simp [Store.slot, slots]
  have len : u.slots.length = 16 := slots ▸ h.slots
  have read : ∀ j < 16, (u.setSlot i r).slot j = if j = i then r else t.slot j := fun j hj => by
    by_cases e : j = i
    · subst e; rw [if_pos rfl, Store.slot_setSlot_same r (by omega)]
    · rw [if_neg e, Store.slot_setSlot_ne _ _ e, same]
  refine ⟨by simpa using len, h.room, h.ids, h.slot_lt, fun j hj => ?_, fun j hj pos => ?_⟩
  · rw [read j hj, ← h.uses j hj]
    split
    · subst j; omega
    · rfl
  · rw [read j hj] at pos ⊢
    split at pos
    · omega
    · rw [if_neg ‹_›]; exact h.ready j hj pos

/-- An order leaves and its slot's count falls (R16). -/
theorem Counted.dropUse {o : OrderSpec} {rest : List OrderSpec} (p : l.Perm (o :: rest)) :
    Counted (t.dropUse o.slot) rest := by
  have hs : o.slot < 16 := h.slot_lt o (p.mem_iff.2 (by simp))
  have len := h.slots
  have own := (h.uses o.slot hs).trans (p.countP_eq _)
  have room := h.room
  have ids := (p.map OrderSpec.orderId).nodup_iff.1 h.ids
  rw [p.length_eq, List.length_cons] at room
  rw [List.countP_cons_of_pos (by simp)] at own
  refine ⟨by simpa [Store.dropUse] using len, by omega, (List.nodup_cons.1 ids).2,
    fun x hx => h.slot_lt x (p.mem_iff.2 (by simp [hx])), fun j hj => ?_, fun j hj pos => ?_⟩
  · by_cases e : j = o.slot
    · rw [e, Store.dropUse, Store.slot_setSlot_same _ (by omega)]
      dsimp only; omega
    · rw [Store.dropUse, Store.slot_setSlot_ne _ _ e, h.uses j hj, p.countP_eq,
        List.countP_cons_of_neg (by simpa using fun h => e h.symm)]
  · by_cases e : j = o.slot
    · rw [e, Store.dropUse, Store.slot_setSlot_same _ (by omega)] at pos ⊢
      exact h.ready o.slot hs (by dsimp only at pos; omega)
    · rw [Store.dropUse, Store.slot_setSlot_ne _ _ e] at pos ⊢
      exact h.ready j hj pos

/-- An order on a READY slot enters and its slot's count rises (R16). -/
theorem Counted.countUse {o : OrderSpec} (hs : o.slot < 16) (ready : (t.slot o.slot).state = .ready)
    (room : l.length < 8) (newId : ∀ x ∈ l, x.orderId ≠ o.orderId) : Counted (t.countUse o.slot) (l ++ [o]) := by
  have len := h.slots
  have count : ∀ j, (l ++ [o]).countP (fun x => decide (x.slot = j))
      = l.countP (fun x => decide (x.slot = j)) + if o.slot = j then 1 else 0 := fun j => by
    by_cases e : o.slot = j <;> simp [List.countP_append, e]
  refine ⟨by simpa [Store.countUse] using len, by simpa using room, ?_, fun x hx => ?_, fun j hj => ?_, fun j hj pos => ?_⟩
  · rw [List.map_append, List.map_singleton, ← List.concat_eq_append, List.nodup_concat]
    refine ⟨fun mem => ?_, h.ids⟩
    obtain ⟨x, hx, e⟩ := List.mem_map.1 mem
    exact newId x hx e
  · rcases List.mem_append.1 hx with hx | hx
    · exact h.slot_lt x hx
    · rw [List.mem_singleton.1 hx]; exact hs
  · rw [count]
    by_cases e : j = o.slot
    · rw [e, Store.countUse, Store.slot_setSlot_same _ (by omega), if_pos rfl, ← h.uses _ hs]
    · rw [Store.countUse, Store.slot_setSlot_ne _ _ e, if_neg (fun h => e h.symm), Nat.add_zero, h.uses j hj]
  · by_cases e : j = o.slot
    · rw [e, Store.countUse, Store.slot_setSlot_same _ (by omega)]; exact ready
    · rw [Store.countUse, Store.slot_setSlot_ne _ _ e] at pos ⊢
      exact h.ready j hj pos

end

/-! ## Every step -/

/-- ScheduleShape of a stock. -/
def Stock.Ordered (a : Stock) : Prop := activeAtHead a.orders = true ∧ Counted a.store (a.orders.map Order.spec)

theorem Stock.Ordered.moves {a b : Stock} (h : a.Ordered) (m : Stock.Moves a b) : b.Ordered := by
  obtain ⟨head, counted⟩ := h
  cases m with
  | figures f keeps =>
    have specs : (a.orders.map f).map Order.spec = a.orders.map Order.spec := by
      simp [Function.comp_def, fun o => (keeps o).1]
    exact ⟨(activeAtHead_map (fun o => (keeps o).2) _).trans head, by simpa only [specs] using counted⟩
  | ended o active =>
    obtain ⟨store, orders⟩ := a
    cases orders with
    | nil => cases active
    | cons p rest =>
      obtain rfl : p = o := by simpa [find?_active head] using active
      obtain ⟨-, queued⟩ := (activeAtHead_cons p rest).1 head
      have left : (Stock.mk store (p :: rest)).ended p = ⟨store.dropUse p.spec.slot, takeHead rest⟩ := by
        simp only [Stock.ended, filter_not_active head]
      rw [left]
      exact ⟨activeAtHead_takeHead queued, by simpa using counted.dropUse (.refl _)⟩

theorem ordered_reset : Stock.Ordered ⟨Store.reset, []⟩ :=
  ⟨rfl, rfl, by simp, by simp, by simp, fun i _ => by simp [Slot.empty], fun i _ pos => by simp [Slot.empty] at pos⟩

theorem Stock.Ordered.change {a b : Stock} (h : a.Ordered) (c : a.Change b) : b.Ordered := by
  cases c with
  | runs run =>
    induction run with
    | refl => exact h
    | tail _ m ih => exact ih.moves m
  | reset => exact ordered_reset
  | began i r hi alone unused fresh run fields free =>
    obtain ⟨head, counted⟩ := h
    obtain ⟨-, -, -, none⟩ := fresh
    refine ⟨head, counted.rewrite (Store.slots_freeAreas ..) ?_ none⟩
    by_cases ready : (a.store.slot i).state = .ready
    · exact unused ready
    · exact counted.use_zero hi ready
  | appended i xs hi loading room =>
    obtain ⟨head, counted⟩ := h
    have zero := counted.use_zero hi (by simp [loading])
    exact ⟨head, counted.rewrite rfl zero zero⟩
  | closed i c hi loading one =>
    obtain ⟨head, counted⟩ := h
    exact ⟨head, counted.rewrite rfl (counted.use_zero hi (by simp [loading])) rfl⟩
  | emptied i hi unused =>
    obtain ⟨head, counted⟩ := h
    refine ⟨head, counted.rewrite (Store.slots_freeAreas ..) ?_ rfl⟩
    exact unused.elim id fun loading => counted.use_zero hi (by simp [loading])
  | joined o slot_lt ready room newId place =>
    obtain ⟨head, counted⟩ := h
    refine ⟨activeAtHead_append head place, ?_⟩
    rw [List.map_append, List.map_singleton]
    exact counted.countUse slot_lt ready (by simpa using room) (by simpa using newId)
  | cancelled o mem queued =>
    obtain ⟨head, counted⟩ := h
    obtain ⟨before, after, split⟩ := List.append_of_mem mem
    rw [split] at head counted ⊢
    have ids := counted.ids
    rw [List.map_map] at ids
    rw [filter_orderId ids]
    refine ⟨activeAtHead_erase queued head, counted.dropUse ?_⟩
    simp only [List.map_append, List.map_cons]
    exact List.perm_middle

/-- Settles O4: a step changes the stock in one of the ways of `Stock.Change`, and each keeps the ACTIVE order at the head
and every count the number of orders. -/
theorem scheduleAndUseCountsKept : Obligations.ScheduleAndUseCountsKept :=
  fun s t h hstep => (scheduleShape_iff t).2 (Stock.Ordered.change ((scheduleShape_iff s).1 h) (step_change hstep))

end Sys2Proof.Machine
end

section
/-! PROOFS. The reset state meets every invariant (R19, R36, R64, R83, R101, R121, R132, R144, R166, R175, R188). -/

namespace Sys2Proof.Machine

theorem scheduleShape_reset : ScheduleShape State.reset := (scheduleShape_iff State.reset).2 ordered_reset

/-- No needle is fitted under the maps of the reset (R137). -/
@[simp] theorem fitted_reset (i : Nat) : State.reset.params.fitted i = false := by
  simp [Params.fitted, State.reset, Params.default]

theorem beyondChain_reset : State.reset.params.beyondChain = false := by
  simp [Params.beyondChain]

theorem paramShape_reset : ParamShape State.reset := ⟨by decide, beyondChain_reset, by decide⟩

theorem timingShape_default : TimingShape TimingSet.default := by decide

theorem shaftShape_reset : ShaftShape State.reset.shaft :=
  ⟨nofun, fun _ => by decide, by decide, by decide, timingShape_default, nofun⟩

/-- Every needle is UNUSED and none is fitted (R136, R144). -/
theorem needleShape_reset : NeedleShape State.reset := by
  refine ⟨rfl, fun i hi => ?_, fun _ i _ => fitted_reset i⟩
  have unused : (List.replicate 96 NeedleState.unused).getD i .unused = .unused := by
    rw [List.getD_eq_getElem?_getD, List.getElem?_replicate, if_pos hi, Option.getD_some]
  rw [fitted_reset, show State.reset.monitor.needles.getD i .unused = .unused from unused]
  rfl

theorem barShape_reset : BarShape (BarRec.released0 .unknown) := by decide

/-- Settles O15: each block's reset values one by one. -/
theorem resetStateMeetsEveryInvariant : Obligations.ResetStateMeetsEveryInvariant := by
  refine ⟨storeShape_reset, scheduleShape_reset, ?plan, ?notices, ?gov, ?demand, ?motion,
    ⟨barShape_reset, barShape_reset, barShape_reset⟩, ?line, ?history, paramShape_reset, ?audit, shaftShape_reset,
    needleShape_reset⟩
  case plan => decide
  case notices => decide
  case gov => decide
  case demand => exact ⟨Nat.zero_le _, fun _ => rfl⟩
  case motion => decide
  case line => decide
  case history => decide
  case audit => decide

end Sys2Proof.Machine
end

section
/-! PROOFS. Segment records (R5, 12 section 12.2): the decoder of a record accepts a record exactly when it reads as a
segment with every field in range. -/

namespace Sys2Proof.Machine

theorem moveFault_eq_none (dx dy : Int) : moveFault dx dy = none ↔ moveInRange dx dy := by
  unfold moveFault
  split
  · simp; omega
  · split
    · simp; omega
    · split
      · simp; omega
      · simp; omega

/-- The set of a BARS record: the low three bits of its byte, the rest 0, not all 0. -/
theorem bars_byte : ∀ b : Byte, (1 ≤ b.toNat ∧ b.toNat ≤ 7) ↔
    b.extractLsb' 3 5 = 0 ∧ BarSet.isEmpty ⟨b.getLsbD 0, b.getLsbD 1, b.getLsbD 2⟩ = false := by decide

/-- BARS (R5): the byte at offset 2 names the set. -/
theorem ofByte_record (w : BitVec 64) (set : BarSet) :
    BarSet.ofByte (recordByte w 2) = some set ↔
      set = ⟨w.getLsbD 16, w.getLsbD 17, w.getLsbD 18⟩ ∧ w.extractLsb' 19 5 = 0 ∧ set.isEmpty = false := by
  have bits : ∀ k < 8, (recordByte w 2).getLsbD k = w.getLsbD (16 + k) := fun k hk => by
    simp [recordByte, hk]
  have high : (recordByte w 2).extractLsb' 3 5 = w.extractLsb' 19 5 := by
    ext k hk
    simp [recordByte, show 3 + k < 8 by omega, ← Nat.add_assoc]
  have byte := bars_byte (recordByte w 2)
  rw [high, bits 0 (by omega), bits 1 (by omega), bits 2 (by omega)] at byte
  constructor
  · intro h
    obtain ⟨inRange, rfl⟩ := BarSet.byte_of_ofByte h
    rw [bits 0 (by omega), bits 1 (by omega), bits 2 (by omega)]
    exact ⟨rfl, byte.1 inRange⟩
  · rintro ⟨rfl, zero, left⟩
    rw [BarSet.ofByte_of_bars (byte.2 ⟨zero, left⟩), bits 0 (by omega), bits 1 (by omega), bits 2 (by omega)]

/-- The kind of a record as its first byte. -/
theorem kind_of_toNat {w : BitVec 64} {k : Nat} (h : (recordByte w 0).toNat = k) :
    w.extractLsb' 0 8 = BitVec.ofNat 8 k := by
  rw [← h, BitVec.ofNat_toNat]; rfl

theorem reads_of_parseSegment {w : BitVec 64} {x : Segment} (h : parseSegment w = .ok x) : x.reads w := by
  unfold parseSegment at h
  extract_lets dx dy at h
  split at h
  case h_1 kind =>
    split at h
    · cases h
    · rename_i move
      split at h <;> cases h
      exact ⟨kind_of_toNat kind, rfl, rfl, rfl, (moveFault_eq_none _ _).1 move, ‹_›⟩
  case h_2 kind =>
    split at h <;> cases h
    rename_i move
    exact ⟨kind_of_toNat kind, rfl, rfl, (moveFault_eq_none _ _).1 move⟩
  case h_3 kind =>
    split at h <;> cases h
    rename_i set
    exact ⟨kind_of_toNat kind, (ofByte_record w _).1 set⟩
  case h_4 kind =>
    split at h <;> cases h
    exact ⟨kind_of_toNat kind, rfl, ‹_›⟩
  case h_5 kind =>
    split at h <;> cases h
    exact ⟨kind_of_toNat kind, rfl, ‹_›⟩
  case h_6 => cases h

theorem parseSegment_of_reads {w : BitVec 64} {x : Segment} (h : x.reads w) : parseSegment w = .ok x := by
  have kindByte : ∀ k : Byte, w.extractLsb' 0 8 = k → (recordByte w 0).toNat = k.toNat := fun k e => congrArg _ e
  unfold parseSegment; dsimp only
  cases x with
  | stitch dx dy len =>
    obtain ⟨kind, rfl, rfl, rfl, move, len⟩ := h
    have noFault : moveFault (recordS16 w 2) (recordS16 w 4) = none := (moveFault_eq_none _ _).2 move
    rw [kindByte 1 kind, noFault]
    exact if_pos len
  | jump dx dy =>
    obtain ⟨kind, rfl, rfl, move⟩ := h
    have noFault : moveFault (recordS16 w 2) (recordS16 w 4) = none := (moveFault_eq_none _ _).2 move
    rw [kindByte 2 kind, noFault]
    rfl
  | bars set =>
    obtain ⟨kind, fields⟩ := h
    rw [kindByte 3 kind, (ofByte_record w set).2 fields]
    rfl
  | speed cap =>
    obtain ⟨kind, rfl, cap⟩ := h
    rw [kindByte 4 kind]
    exact if_pos cap
  | tack n =>
    obtain ⟨kind, rfl, n⟩ := h
    rw [kindByte 5 kind]
    exact if_pos n

/-- Settles O24: the two directions, kind by kind. -/
theorem segmentRecordsAccepted : Obligations.SegmentRecordsAccepted :=
  fun _ _ => ⟨reads_of_parseSegment, parseSegment_of_reads⟩

end Sys2Proof.Machine
end

section
/-! PROOFS. Requests whose decision is a matter of the Pattern Store, and what PATTERN_BEGIN does (R2, R6, R7). -/

namespace Sys2Proof.Machine

/-! ## Answering a request -/

/-- A taken request whose decision is known with the line kept for its reply: the decision's state, the line as it stood
before, with the reply placed (R178 to R180). -/
theorem exec_answered {c : Instr} {k tag : Byte} {d : State → State × Reply} {s t : State} {q : Reply}
    (hc : decideRequest c = some (k, tag, d)) (hs : s.takesRequests) (hd : d (keepLine s) = (t, q)) :
    exec c s = .next (transmit ((setTx s.link.tx t).answered k tag q)) := by
  rw [exec_request hc, request_taken _ _ _ _ hs, inRequest, hd]

/-- A decision that changes nothing. -/
theorem exec_refused {c : Instr} {k tag : Byte} {d : State → State × Reply} {s : State} {q : Reply}
    (hc : decideRequest c = some (k, tag, d)) (hs : s.takesRequests) (hd : d (keepLine s) = (keepLine s, q)) :
    exec c s = .next (transmit (s.answered k tag q)) :=
  exec_answered (t := keepLine s) hc hs hd

/-- A decision that writes the Pattern Store alone. -/
theorem exec_stored {c : Instr} {k tag : Byte} {d : State → State × Reply} {s : State} {t : Store} {q : Reply}
    (hc : decideRequest c = some (k, tag, d)) (hs : s.takesRequests)
    (hd : d (keepLine s) = ({ keepLine s with store := t }, q)) :
    exec c s = .next (transmit (State.answered { s with store := t } k tag q)) :=
  exec_answered (t := { keepLine s with store := t }) hc hs hd

/-! ## PATTERN_BEGIN -/

section
variable {slot n bars : Byte} {x p : BitVec 16} {s : State}

theorem decidePatternBegin_slot (h : ¬ slot.toNat < 16) :
    decidePatternBegin slot n x p bars s = (s, Reply.field 0) :=
  if_pos (by omega)

variable (hi : slot.toNat < 16)
include hi

theorem decidePatternBegin_loading (h : ¬ ∀ j < 16, j ≠ slot.toNat → (s.store.slot j).state ≠ .loading) :
    decidePatternBegin slot n x p bars s = (s, Reply.because .inUse .none) := by
  have other : s.store.otherLoading slot.toNat = true := by
    simpa using mt (s.store.otherLoading_eq_false slot.toNat).1 h
  simp only [decidePatternBegin]
  rw [if_neg (by omega), if_pos other]

variable (alone : ∀ j < 16, j ≠ slot.toNat → (s.store.slot j).state ≠ .loading)
include alone

theorem decidePatternBegin_used
    (h : (s.store.slot slot.toNat).state = .ready ∧ 0 < (s.store.slot slot.toNat).useCount) :
    decidePatternBegin slot n x p bars s = (s, Reply.because .inUse .none) := by
  have other := (s.store.otherLoading_eq_false slot.toNat).2 alone
  simp only [decidePatternBegin]
  rw [if_neg (by omega), if_neg (by simp [other]), if_pos h]

variable (unused : ¬ ((s.store.slot slot.toNat).state = .ready ∧ 0 < (s.store.slot slot.toNat).useCount))
include unused

theorem decidePatternBegin_count (h : ¬ (1 ≤ n.toNat ∧ n.toNat ≤ 16)) :
    decidePatternBegin slot n x p bars s = (s, Reply.field 1) := by
  have other := (s.store.otherLoading_eq_false slot.toNat).2 alone
  simp only [decidePatternBegin]
  rw [if_neg (by omega), if_neg (by simp [other]), if_neg unused, if_pos (by omega)]

variable (count : 1 ≤ n.toNat ∧ n.toNat ≤ 16)
include count

theorem decidePatternBegin_start (h : ¬ x.toNat ≤ 2400) :
    decidePatternBegin slot n x p bars s = (s, Reply.field 2) := by
  have other := (s.store.otherLoading_eq_false slot.toNat).2 alone
  simp only [decidePatternBegin]
  rw [if_neg (by omega), if_neg (by simp [other]), if_neg unused, if_neg (by omega), if_pos (by omega)]

variable (start : x.toNat ≤ 2400)
include start

theorem decidePatternBegin_pitch (h : ¬ (1 ≤ p.toNat ∧ p.toNat ≤ 10000)) :
    decidePatternBegin slot n x p bars s = (s, Reply.field 4) := by
  have other := (s.store.otherLoading_eq_false slot.toNat).2 alone
  simp only [decidePatternBegin]
  rw [if_neg (by omega), if_neg (by simp [other]), if_neg unused, if_neg (by omega), if_neg (by omega),
    if_pos (by omega)]

variable (pitch : 1 ≤ p.toNat ∧ p.toNat ≤ 10000)
include pitch

theorem decidePatternBegin_bars (h : ¬ (1 ≤ bars.toNat ∧ bars.toNat ≤ 7)) :
    decidePatternBegin slot n x p bars s = (s, Reply.field 6) := by
  have other := (s.store.otherLoading_eq_false slot.toNat).2 alone
  simp only [decidePatternBegin, BarSet.ofByte_eq_none h]
  rw [if_neg (by omega), if_neg (by simp [other]), if_neg unused, if_neg (by omega), if_neg (by omega),
    if_neg (by omega)]

variable (barByte : 1 ≤ bars.toNat ∧ bars.toNat ≤ 7)
include barByte

/-- With a free run, the slot takes the lowest-numbered one (R2, R7). -/
theorem decidePatternBegin_begun {a : Nat} (run : s.store.allocate slot.toNat n.toNat = some a) :
    decidePatternBegin slot n x p bars s =
      let barSet : BarSet := ⟨bars.getLsbD 0, bars.getLsbD 1, bars.getLsbD 2⟩
      let begun : Slot := ⟨.loading, a, n.toNat, 0, x.toNat, p.toNat, barSet, AtClose.zero, 0⟩
      ({ s with store := (s.store.freeAreas slot.toNat).setSlot slot.toNat begun }, Reply.good (u8 a)) := by
  have other := (s.store.otherLoading_eq_false slot.toNat).2 alone
  simp only [decidePatternBegin, BarSet.ofByte_of_bars barByte, run]
  rw [if_neg (by omega), if_neg (by simp [other]), if_neg unused, if_neg (by omega), if_neg (by omega),
    if_neg (by omega)]

/-- With no free run, the longest one is told (R2). -/
theorem decidePatternBegin_full (run : s.store.allocate slot.toNat n.toNat = none) :
    decidePatternBegin slot n x p bars s = (s, Reply.refusal .noRoom 0 (s.store.longestRun slot.toNat) .none 0) := by
  have other := (s.store.otherLoading_eq_false slot.toNat).2 alone
  simp only [decidePatternBegin, BarSet.ofByte_of_bars barByte, run]
  rw [if_neg (by omega), if_neg (by simp [other]), if_neg unused, if_neg (by omega), if_neg (by omega),
    if_neg (by omega)]

end

/-- Settles O25: R6's checks in their order, then the allocator's lowest free run, or its longest. -/
theorem patternBeginReservesLowestRun : Obligations.PatternBeginReservesLowestRun := by
  intro tag slot areas bars startX pitch s hs i n r answer inRange alone unused countOk startOk pitchOk barsOk free
  have freeIff : ∀ a m, s.store.runFree i a m = true ↔ free a m := fun a m => s.store.runFree_iff i a m
  have refused : ∀ q, decidePatternBegin slot areas startX pitch bars (keepLine s) = (keepLine s, q) → answer s q :=
    fun q h => exec_refused rfl hs h
  refine ⟨fun hi => refused _ (decidePatternBegin_slot hi), fun hi h => refused _ (decidePatternBegin_loading hi h),
    fun hi al h => refused _ (decidePatternBegin_used hi al (not_not.1 h)),
    fun hi al un h => refused _ (decidePatternBegin_count hi al un h),
    fun hi al un cn h => refused _ (decidePatternBegin_start hi al un cn h),
    fun hi al un cn st h => refused _ (decidePatternBegin_pitch hi al un cn st h),
    fun hi al un cn st pt h => refused _ (decidePatternBegin_bars hi al un cn st pt h), ?decided⟩
  case decided =>
    intro hi al un cn st pt br
    constructor
    · intro a fits run lower loading
      refine exec_stored rfl hs (decidePatternBegin_begun (s := keepLine s) hi al un cn st pt br ?_)
      refine (Store.allocate_eq_some cn.2).2 ⟨fits, (freeIff a n).2 run, fun b hb => ?_⟩
      exact Bool.eq_false_iff.2 fun h => lower b hb ((freeIff b n).1 h)
    · intro longest full found greatest
      have longestIs : s.store.longestRun i = longest :=
        Store.longestRun_eq (found.imp fun a h => ⟨h.1, (freeIff a longest).2 h.2⟩)
          fun a m fits run => greatest a m fits ((freeIff a m).1 run)
      rw [← longestIs]
      refine refused _ (decidePatternBegin_full (s := keepLine s) hi al un cn st pt br ?_)
      exact (Store.allocate_eq_none cn.2).2 fun a fits => Bool.eq_false_iff.2 fun h => full a fits ((freeIff a n).1 h)

end Sys2Proof.Machine
end

section
/-! PROOFS. What PATTERN_ADD does (R8): all its records are appended, or none. -/

namespace Sys2Proof.Machine

/-! ## Reading the records -/

theorem parseSegments_ok {ws : List (BitVec 64)} {xs : List Segment} (h : ws.map parseSegment = xs.map Except.ok) (i : Nat) :
    parseSegments i ws = .ok xs := by
  induction ws generalizing xs i with
  | nil => cases xs with
    | nil => rfl
    | cons x xs => cases h
  | cons w ws ih => cases xs with
    | nil => cases h
    | cons x xs =>
      rw [List.map_cons, List.map_cons, List.cons.injEq] at h
      simp only [parseSegments, h.1, ih h.2]

/-- The first record that fails R5 ends the reading, with its index. -/
theorem parseSegments_error {before after : List (BitVec 64)} {w : BitVec 64} {off : Nat}
    (good : ∀ v ∈ before, ∃ x, parseSegment v = .ok x) (bad : parseSegment w = .error off) (i : Nat) :
    parseSegments i (before ++ w :: after) = .error (i + before.length, off) := by
  induction before generalizing i with
  | nil => simp [parseSegments, bad]
  | cons v vs ih =>
    obtain ⟨x, hx⟩ := good v (by simp)
    have rest := ih (fun u hu => good u (by simp [hu])) (i + 1)
    simp [parseSegments, hx, rest]
    omega

/-! ## The segments after an append -/

/-- A list read place by place is the list. -/
theorem filterMap_getElem?_range {α : Type} (xs : List α) : (List.range xs.length).filterMap (fun k => xs[k]?) = xs := by
  have read : (List.range xs.length).map (fun k => xs[k]?) = xs.map some :=
    List.ext_getElem (by simp) fun k _ hk => by simp
  calc (List.range xs.length).filterMap (fun k => xs[k]?)
      = ((List.range xs.length).map fun k => xs[k]?).filterMap id := by
        rw [List.filterMap_map]; rfl
    _ = xs := by rw [read]; simp

section
variable {t : Store} (h : StoreShape t) {i : Nat} (hi : i < 16) {xs : List Segment}
include h hi

theorem StoreShape.slot_appendSegments :
    (t.appendSegments i xs).slot i = { t.slot i with segmentCount := (t.slot i).segmentCount + xs.length } :=
  Store.slot_setSlot_same _ (by rw [h.length_slots]; exact hi)

/-- The slot's own segments: those it had, then the new ones. -/
theorem StoreShape.segments_appendSegments : (t.appendSegments i xs).segments i = t.segments i ++ xs := by
  have slot := h.slot_appendSegments hi (xs := xs)
  have count : ((t.appendSegments i xs).slot i).segmentCount = (t.slot i).segmentCount + xs.length := by rw [slot]
  have start : ∀ k, ((t.appendSegments i xs).slot i).address k = (t.slot i).address k := fun k => by rw [slot]; rfl
  have old : ∀ k ∈ List.range (t.slot i).segmentCount, (t.appendSegments i xs).segment i k = t.segment i k := by
    intro k hk
    have hk := List.mem_range.1 hk
    simp only [Store.segment, start, hk, count, if_true, Nat.lt_add_right xs.length hk]
    exact SegMem.read_writeRun_other _ _ _ _ (by simp only [Slot.address_eq]; omega)
  have new : ∀ k ∈ List.range xs.length,
      (t.appendSegments i xs).segment i ((t.slot i).segmentCount + k) = xs[k]? := by
    intro k hk
    have hk := List.mem_range.1 hk
    simp only [Store.segment, start, count, Nat.add_lt_add_iff_left, hk, if_true]
    have place : (t.slot i).address ((t.slot i).segmentCount + k)
        = (t.slot i).address (t.slot i).segmentCount + k := by simp only [Slot.address_eq]; omega
    rw [place, List.getElem?_eq_getElem hk]
    exact SegMem.read_writeRun _ _ _ _ _ (List.getElem?_eq_getElem hk)
  rw [Store.segments, count, List.range_add, List.filterMap_append, List.filterMap_congr old, List.filterMap_map]
  exact congrArg _ ((List.filterMap_congr new).trans (filterMap_getElem?_range xs))

/-- Every other slot and its segments stand. -/
theorem StoreShape.appendSegments_other {j : Nat} (hj : j < 16) (ne : j ≠ i) (ni : (t.slot i).state ≠ .empty)
    (room : (t.slot i).segmentCount + xs.length ≤ 256 * (t.slot i).areaCount) :
    (t.appendSegments i xs).slot j = t.slot j ∧ (t.appendSegments i xs).segments j = t.segments j := by
  have slot : (t.appendSegments i xs).slot j = t.slot j := Store.slot_setSlot_ne _ _ ne
  exact ⟨slot, Store.segments_congr (by rw [slot]) (by rw [slot]) fun k hk => h.read_appendSegments hi hj ne ni room hk⟩

end

/-! ## PATTERN_ADD -/

section
variable {slot : Byte} {records : List (BitVec 64)} {s : State}

theorem decidePatternAdd_length (h : ¬ (1 ≤ records.length ∧ records.length ≤ 28)) :
    decidePatternAdd slot records s = (s, ⟨.badLength, []⟩) :=
  if_pos (by omega)

variable (carried : 1 ≤ records.length ∧ records.length ≤ 28)
include carried

theorem decidePatternAdd_slot (h : 16 ≤ slot.toNat) : decidePatternAdd slot records s = (s, Reply.field 0) :=
  (if_neg (by omega)).trans (if_pos h)

variable (hi : slot.toNat < 16)
include hi

theorem decidePatternAdd_state (h : (s.store.slot slot.toNat).state ≠ .loading) :
    decidePatternAdd slot records s = (s, Reply.because .notNow .none) :=
  (if_neg (by omega)).trans ((if_neg (by omega)).trans (if_pos h))

variable (loading : (s.store.slot slot.toNat).state = .loading)
include loading

theorem decidePatternAdd_bad {k off : Nat} (h : parseSegments 0 records = .error (k, off)) :
    decidePatternAdd slot records s = (s, Reply.refusal .badValue (1 + 8 * k + off) k .none 0) := by
  simp only [decidePatternAdd, h]
  rw [if_neg (by omega), if_neg (by omega), if_neg (not_not.2 loading)]

theorem decidePatternAdd_full {xs : List Segment} (h : parseSegments 0 records = .ok xs)
    (full : 256 * (s.store.slot slot.toNat).areaCount < (s.store.slot slot.toNat).segmentCount + xs.length) :
    decidePatternAdd slot records s = (s, Reply.refusal .noRoom 0
      (256 * (s.store.slot slot.toNat).areaCount - (s.store.slot slot.toNat).segmentCount) .none 0) := by
  simp only [decidePatternAdd, h]
  rw [if_neg (by omega), if_neg (by omega), if_neg (not_not.2 loading), if_pos full]

theorem decidePatternAdd_good {xs : List Segment} (h : parseSegments 0 records = .ok xs)
    (room : (s.store.slot slot.toNat).segmentCount + xs.length ≤ 256 * (s.store.slot slot.toNat).areaCount) :
    decidePatternAdd slot records s = ({ s with store := s.store.appendSegments slot.toNat xs },
      Reply.good (u16 ((s.store.slot slot.toNat).segmentCount + xs.length))) := by
  simp only [decidePatternAdd, h]
  rw [if_neg (by omega), if_neg (by omega), if_neg (not_not.2 loading), if_neg (by omega)]
  rfl

end

/-- Settles O26: R8's checks in their order, then the append or the refusal of the whole request. -/
theorem patternAddAppends : Obligations.PatternAddAppends := by
  intro tag slot records s hs i r answer carried
  have refused : ∀ q, decidePatternAdd slot records (keepLine s) = (keepLine s, q) → answer s q :=
    fun q h => exec_refused rfl hs h
  refine ⟨fun c => refused _ (decidePatternAdd_length c), fun c hi => refused _ (decidePatternAdd_slot c hi),
    fun c hi l => refused _ (decidePatternAdd_state c hi l), fun c hi l shape => ⟨fun xs good => ⟨fun room => ?_, fun full => ?_⟩,
      fun before after w off e bad good => ?_⟩⟩
  · have ni : (s.store.slot i).state ≠ .empty := by rw [l]; simp
    refine ⟨s.store.appendSegments i xs, ?_, shape.segments_appendSegments hi, shape.slot_appendSegments hi,
      fun j hj ne => shape.appendSegments_other hi hj ne ni room⟩
    exact exec_stored rfl hs (decidePatternAdd_good (s := keepLine s) c hi l (parseSegments_ok good 0) room)
  · exact refused _ (decidePatternAdd_full (s := keepLine s) c hi l (parseSegments_ok good 0) full)
  · have reading := parseSegments_error (after := after) good bad 0
    rw [← e, Nat.zero_add] at reading
    exact refused _ (decidePatternAdd_bad (s := keepLine s) c hi l reading)

end Sys2Proof.Machine
end

section
/-! PROOFS. What PATTERN_END and PATTERN_ERASE do (R10 to R12, R14): the walk of a pattern against its running points, and
the slot emptied. -/

namespace Sys2Proof.Machine

/-! ## The walk -/

/-- The running point of a walk. -/
def Walk.point (w : Walk) : Int × Int := (w.x, w.y)

/-- The walk after one segment, its point not checked. -/
def Walk.pass (w : Walk) : Segment → Walk
  | .stitch dx dy _ => w.move dx dy true
  | .jump dx dy => w.move dx dy false
  | .bars _ => w
  | .speed _ => w
  | .tack _ => w

/-- The walk after some segments. -/
def Walk.over (w : Walk) (xs : List Segment) : Walk := xs.foldl Walk.pass w

@[simp] theorem Walk.over_nil (w : Walk) : w.over [] = w := rfl
@[simp] theorem Walk.over_cons (w : Walk) (x : Segment) (xs : List Segment) : w.over (x :: xs) = (w.pass x).over xs := rfl

/-- A running point inside the frame and not behind the origin (R10). -/
def inFrame (startX : Nat) (p : Int × Int) : Prop := (0 ≤ startX + p.1 ∧ startX + p.1 ≤ 2400) ∧ 0 ≤ p.2

theorem Walk.fault_eq_none {w : Walk} {startX : Nat} : w.fault startX = none ↔ inFrame startX w.point := by
  unfold Walk.fault inFrame Walk.point
  split
  · simp; omega
  · split
    · simp; omega
    · simp; omega

theorem Walk.fault_xRange {w : Walk} {startX : Nat} (h : ¬ (0 ≤ startX + w.x ∧ startX + w.x ≤ 2400)) :
    w.fault startX = some .xRange :=
  if_pos (by omega)

theorem Walk.fault_yNegative {w : Walk} {startX : Nat} (h : 0 ≤ startX + w.x ∧ startX + w.x ≤ 2400) (y : w.y < 0) :
    w.fault startX = some .yNegative :=
  (if_neg (by omega)).trans (if_pos y)

/-- The point a walk comes to is the running point of the segment (R5, R12). -/
theorem runningPoints_cons (w : Walk) (x : Segment) (xs : List Segment) :
    runningPoints w.point (x :: xs) =
      if x.isStitch || x.isJump then (w.pass x).point :: runningPoints (w.pass x).point xs
      else runningPoints (w.pass x).point xs := by
  cases x <;> rfl

theorem runningPoints_append (w : Walk) (xs ys : List Segment) :
    runningPoints w.point (xs ++ ys) = runningPoints w.point xs ++ runningPoints (w.over xs).point ys := by
  induction xs generalizing w with
  | nil => rfl
  | cons x xs ih =>
    rw [List.cons_append, runningPoints_cons, runningPoints_cons, ih, Walk.over_cons]
    split <;> rfl

theorem Walk.over_stitches (w : Walk) (xs : List Segment) :
    (w.over xs).stitches = (w.stitches || xs.any Segment.isStitch) := by
  induction xs generalizing w with
  | nil => simp
  | cons x xs ih =>
    rw [Walk.over_cons, ih]
    cases x <;> simp [Walk.pass, Walk.move, Segment.isStitch]

/-- One segment of a walk: a move whose point is in the frame, or a segment that makes no move, is passed. -/
theorem walkSegments_pass {startX i : Nat} {w : Walk} {x : Segment} {xs : List Segment}
    (first : i = 0 → x.isJump = false) (good : (x.isStitch || x.isJump) = true → inFrame startX (w.pass x).point) :
    walkSegments startX i w (x :: xs) = walkSegments startX (i + 1) (w.pass x) xs := by
  cases x with
  | stitch dx dy len =>
    have ok : (w.move dx dy true).fault startX = none := Walk.fault_eq_none.2 (good rfl)
    simp only [walkSegments, ok, Walk.pass]
  | jump dx dy =>
    have ne : i ≠ 0 := fun e => Bool.noConfusion (first e)
    have ok : (w.move dx dy false).fault startX = none := Walk.fault_eq_none.2 (good rfl)
    simp only [walkSegments, ok, if_neg ne, Walk.pass]
  | bars set => rfl
  | speed cap => rfl
  | tack n => rfl

/-- A walk fails at a move whose point fails (R10). -/
theorem walkSegments_fails {startX i : Nat} {w : Walk} {x : Segment} {xs : List Segment} {why : Why}
    (first : i = 0 → x.isJump = false) (move : (x.isStitch || x.isJump) = true)
    (bad : (w.pass x).fault startX = some why) : walkSegments startX i w (x :: xs) = .error (i, why) := by
  cases x with
  | stitch dx dy len =>
    have bad : (w.move dx dy true).fault startX = some why := bad
    simp only [walkSegments, bad]
  | jump dx dy =>
    have ne : i ≠ 0 := fun e => Bool.noConfusion (first e)
    have bad : (w.move dx dy false).fault startX = some why := bad
    simp only [walkSegments, bad, if_neg ne]
  | bars set => cases move
  | speed cap => cases move
  | tack n => cases move

/-- A walk passes over segments whose running points are in the frame. -/
theorem walkSegments_append {startX i : Nat} {w : Walk} {xs : List Segment} (ys : List Segment)
    (first : i = 0 → xs.head?.map Segment.isJump ≠ some true)
    (good : ∀ p ∈ runningPoints w.point xs, inFrame startX p) :
    walkSegments startX i w (xs ++ ys) = walkSegments startX (i + xs.length) (w.over xs) ys := by
  induction xs generalizing i w with
  | nil => rfl
  | cons x xs ih =>
    rw [runningPoints_cons] at good
    rw [List.cons_append, walkSegments_pass (by simpa using first) (fun move => good _ (by simp [move])),
      ih (by omega) (fun p hp => good p (by split <;> simp [hp])), Walk.over_cons, List.length_cons]
    congr 1
    omega

/-- The walk of a whole pattern whose points are in the frame: it ends well when some segment is a STITCH. -/
theorem walkSegments_all {startX : Nat} {xs : List Segment} (first : xs.head?.map Segment.isJump ≠ some true)
    (good : ∀ p ∈ runningPoints (0, 0) xs, inFrame startX p) :
    walkSegments startX 0 Walk.origin xs =
      if xs.any Segment.isStitch then .ok (Walk.origin.over xs) else .error (xs.length, .noStitch) := by
  have walk := walkSegments_append (w := Walk.origin) (i := 0) [] (fun _ => first) good
  rw [List.append_nil] at walk
  rw [walk, walkSegments, Walk.over_stitches, Nat.zero_add]
  simp [Walk.origin]

theorem walkSegments_firstJump {startX : Nat} {xs : List Segment} (h : xs.head?.map Segment.isJump = some true) :
    walkSegments startX 0 Walk.origin xs = .error (0, .firstJump) := by
  cases xs with
  | nil => cases h
  | cons x xs => cases x with
    | jump dx dy => rfl
    | stitch dx dy len => cases h
    | bars set => cases h
    | speed cap => cases h
    | tack n => cases h

/-- The first move out of the frame ends the walk of a pattern, at its index (R10). -/
theorem walkSegments_first_fault {startX : Nat} {before after : List Segment} {x : Segment} {why : Why}
    (first : (before ++ x :: after).head?.map Segment.isJump ≠ some true) (move : (x.isStitch || x.isJump) = true)
    (good : ∀ p ∈ runningPoints (0, 0) before, inFrame startX p)
    (bad : ((Walk.origin.over before).pass x).fault startX = some why) :
    walkSegments startX 0 Walk.origin (before ++ x :: after) = .error (before.length, why) := by
  have firstBefore : before.head?.map Segment.isJump ≠ some true := by
    cases before with
    | nil => simp
    | cons y ys => exact first
  have firstHere : 0 + before.length = 0 → x.isJump = false := by
    cases before with
    | nil => simpa using first
    | cons y ys => simp
  rw [walkSegments_append (w := Walk.origin) _ (fun _ => firstBefore) good, walkSegments_fails firstHere move bad,
    Nat.zero_add]

/-- The last running point up to a move is the walk's point there. -/
theorem runningPoints_last {before : List Segment} {x : Segment} (move : (x.isStitch || x.isJump) = true)
    {p : Int × Int} (h : (runningPoints (0, 0) (before ++ [x])).getLast? = some p) :
    p = ((Walk.origin.over before).pass x).point := by
  have points := runningPoints_append Walk.origin before [x]
  rw [runningPoints_cons, if_pos move] at points
  change (runningPoints Walk.origin.point (before ++ [x])).getLast? = some p at h
  rw [points] at h
  simpa [runningPoints, eq_comm] using h

/-! ## The figures of a close (R12) -/

/-- A walk's figures are those of the points it has met: the extents bound them and are met, the last is where it stands. -/
structure Walk.Figures (w : Walk) (ps : List (Int × Int)) : Prop where
  bounds : ∀ p ∈ ps, w.xMin ≤ p.1 ∧ p.1 ≤ w.xMax ∧ p.2 ≤ w.yMax
  left : ∃ p ∈ ps, p.1 = w.xMin
  right : ∃ p ∈ ps, p.1 = w.xMax
  top : ∃ p ∈ ps, p.2 = w.yMax
  last : ps.getLast? = some w.point

theorem Walk.figures_origin : Walk.origin.Figures [(0, 0)] :=
  ⟨by simp [Walk.origin], ⟨(0, 0), by simp, rfl⟩, ⟨(0, 0), by simp, rfl⟩, ⟨(0, 0), by simp, rfl⟩, rfl⟩

theorem Walk.Figures.move {w : Walk} {ps : List (Int × Int)} (h : w.Figures ps) (dx dy : Int) (b : Bool) :
    (w.move dx dy b).Figures (ps ++ [(w.move dx dy b).point]) := by
  obtain ⟨bounds, ⟨l, hl, el⟩, ⟨r, hr, er⟩, ⟨t, ht, et⟩, -⟩ := h
  have here : (w.move dx dy b).point ∈ ps ++ [(w.move dx dy b).point] := by simp
  have there : ∀ p ∈ ps, p ∈ ps ++ [(w.move dx dy b).point] := fun p hp => by simp [hp]
  refine ⟨fun p hp => ?_, ?_, ?_, ?_, by simp⟩
  · rcases List.mem_append.1 hp with hp | hp
    · have := bounds p hp
      simp only [Walk.move]
      omega
    · rw [List.mem_singleton.1 hp]
      simp only [Walk.move, Walk.point]
      omega
  · rcases min_choice w.xMin (w.x + dx) with e | e
    · exact ⟨l, there l hl, el.trans e.symm⟩
    · exact ⟨_, here, e.symm⟩
  · rcases max_choice w.xMax (w.x + dx) with e | e
    · exact ⟨r, there r hr, er.trans e.symm⟩
    · exact ⟨_, here, e.symm⟩
  · rcases max_choice w.yMax (w.y + dy) with e | e
    · exact ⟨t, there t ht, et.trans e.symm⟩
    · exact ⟨_, here, e.symm⟩

theorem Walk.Figures.over {w : Walk} {ps : List (Int × Int)} (h : w.Figures ps) (xs : List Segment) :
    (w.over xs).Figures (ps ++ runningPoints w.point xs) := by
  induction xs generalizing w ps with
  | nil => simpa [runningPoints] using h
  | cons x xs ih =>
    rw [runningPoints_cons, Walk.over_cons]
    cases x with
    | stitch dx dy len => simpa [Segment.isStitch, Walk.pass] using ih (h.move dx dy true)
    | jump dx dy => simpa [Segment.isJump, Segment.isStitch, Walk.pass] using ih (h.move dx dy false)
    | bars set => exact ih h
    | speed cap => exact ih h
    | tack n => exact ih h

/-! ## A slot emptied -/

/-- An emptied slot reads EMPTY without segments, and every other slot and its segments stand (R11, R14). -/
theorem StoreShape.emptySlot_effect {t : Store} (h : StoreShape t) {i : Nat} (hi : i < 16) :
    (t.emptySlot i).slot i = Slot.empty ∧ (t.emptySlot i).segments i = []
    ∧ ∀ j < 16, j ≠ i → (t.emptySlot i).slot j = t.slot j ∧ (t.emptySlot i).segments j = t.segments j := by
  have slot : (t.emptySlot i).slot i = Slot.empty :=
    Store.slot_setSlot_same _ (by rw [Store.slots_freeAreas, h.length_slots]; exact hi)
  have other : ∀ j, j ≠ i → (t.emptySlot i).slot j = t.slot j := fun j ne =>
    (Store.slot_setSlot_ne _ _ ne).trans (Store.slot_freeAreas t i j)
  refine ⟨slot, by simp [Store.segments, slot, Slot.empty], fun j hj ne => ⟨other j ne, ?_⟩⟩
  exact Store.segments_congr (by rw [other j ne]) (by rw [other j ne]) fun k hk => h.read_freeAreas hi hj ne hk

/-! ## PATTERN_END and PATTERN_ERASE -/

section
variable {slot : Byte} {s : State}

theorem decidePatternEnd_slot (h : 16 ≤ slot.toNat) : decidePatternEnd slot s = (s, Reply.field 0) := if_pos h

theorem decidePatternErase_slot (h : 16 ≤ slot.toNat) : decidePatternErase slot s = (s, Reply.field 0) := if_pos h

variable (hi : slot.toNat < 16)
include hi

theorem decidePatternErase_used (h : 0 < (s.store.slot slot.toNat).useCount) :
    decidePatternErase slot s = (s, Reply.because .inUse .none) :=
  (if_neg (by omega)).trans (if_pos h)

theorem decidePatternErase_erased (h : (s.store.slot slot.toNat).useCount = 0) :
    decidePatternErase slot s = ({ s with store := s.store.emptySlot slot.toNat }, Reply.good []) :=
  (if_neg (by omega)).trans (if_neg (by omega))

theorem decidePatternEnd_state (h : (s.store.slot slot.toNat).state ≠ .loading) :
    decidePatternEnd slot s = (s, Reply.because .notNow .none) :=
  (if_neg (by omega)).trans (if_pos h)

variable (loading : (s.store.slot slot.toNat).state = .loading)
include loading

theorem decidePatternEnd_unsound {k : Nat} {why : Why}
    (h : walkSegments (s.store.slot slot.toNat).startX 0 Walk.origin (s.store.segments slot.toNat) = .error (k, why)) :
    decidePatternEnd slot s =
      ({ s with store := s.store.emptySlot slot.toNat }, Reply.refusal .badValue 0 k why 0) := by
  simp only [decidePatternEnd, h]
  rw [if_neg (by omega), if_neg (not_not.2 loading)]

theorem decidePatternEnd_closed {w : Walk}
    (h : walkSegments (s.store.slot slot.toNat).startX 0 Walk.origin (s.store.segments slot.toNat) = .ok w) :
    decidePatternEnd slot s =
      let r := s.store.slot slot.toNat
      let c := w.atClose r.pitch
      ({ s with store := s.store.setSlot slot.toNat { r with state := .ready, atClose := c, useCount := 0 } },
        Reply.good (u16 r.segmentCount ++ s16 c.xMin ++ s16 c.xMax ++ u32 c.yMax.toNat ++ s16 c.endDx
          ++ u32 c.endDy.toNat ++ flag c.continuous)) := by
  simp only [decidePatternEnd, h]
  rw [if_neg (by omega), if_neg (not_not.2 loading)]

end

/-- Settles O27: the walk of a pattern is read from its running points; what it answers is PATTERN_END's answer. -/
theorem patternEndAndErase : Obligations.PatternEndAndErase := by
  intro tag slot s hs i r xs points emptied ended erased inX
  have endRefused : ∀ q, decidePatternEnd slot (keepLine s) = (keepLine s, q) → ended s q :=
    fun q h => exec_refused rfl hs h
  have eraseRefused : ∀ q, decidePatternErase slot (keepLine s) = (keepLine s, q) → erased s q :=
    fun q h => exec_refused rfl hs h
  refine ⟨fun hi => ⟨endRefused _ (decidePatternEnd_slot hi), eraseRefused _ (decidePatternErase_slot hi)⟩,
    fun hi l => endRefused _ (decidePatternEnd_state hi l), fun hi l => ?ends,
    fun hi zero => exec_stored rfl hs (decidePatternErase_erased (s := keepLine s) hi zero),
    fun hi used => eraseRefused _ (decidePatternErase_used hi used), fun hi shape => shape.emptySlot_effect hi⟩
  have unsound : ∀ k why, walkSegments r.startX 0 Walk.origin xs = .error (k, why) →
      ended emptied (Reply.refusal .badValue 0 k why 0) := fun k why h =>
    exec_stored rfl hs (decidePatternEnd_unsound (s := keepLine s) hi l h)
  refine ⟨fun ⟨first, stitch, good⟩ => ?closes, fun jump => unsound _ _ (walkSegments_firstJump jump),
    fun first => ⟨fun before after x split move good p last => ?fault, fun shape good noStitch => ?noStitch⟩⟩
  case closes =>
    have walk : walkSegments r.startX 0 Walk.origin xs = .ok (Walk.origin.over xs) :=
      (walkSegments_all first fun p hp => and_assoc.2 (good p hp)).trans (if_pos stitch)
    obtain ⟨bounds, left, right, top, last⟩ := Walk.figures_origin.over xs
    refine ⟨(Walk.origin.over xs).atClose r.pitch,
      exec_stored rfl hs (decidePatternEnd_closed (s := keepLine s) hi l walk), bounds, left, right, top, last, ?_⟩
    exact (Bool.decide_and ..).symm
  case fault =>
    obtain rfl := runningPoints_last move last
    rw [split] at first
    have fails : ∀ why, ((Walk.origin.over before).pass x).fault r.startX = some why →
        ended emptied (Reply.refusal .badValue 0 before.length why 0) := fun why bad =>
      unsound _ _ (by rw [split]; exact walkSegments_first_fault first move good bad)
    exact ⟨fun out => fails _ (Walk.fault_xRange out), fun inside y => fails _ (Walk.fault_yNegative inside y)⟩
  case noStitch =>
    refine unsound _ _ ((walkSegments_all first good).trans ?_)
    rw [noStitch, Store.length_segments (shape.present hi)]
    rfl

end Sys2Proof.Machine
end

section
/-! PROOFS. What ORDER_CANCEL does (R26) and when QUEUE_LOW is raised (R34). -/

namespace Sys2Proof.Machine

/-! ## ORDER_CANCEL -/

section
variable {id : BitVec 16} {s : State}

theorem decideOrderCancel_zero (h : id.toNat = 0) : decideOrderCancel id s = (s, Reply.field 0) := if_pos h

variable (ne : id.toNat ≠ 0)
include ne

theorem decideOrderCancel_notFound (h : ∀ o ∈ s.schedule.orders, o.spec.orderId ≠ id.toNat) :
    decideOrderCancel id s = (s, Reply.because .notFound .none) := by
  have found : (s.schedule.orders.find? fun o => decide (o.spec.orderId = id.toNat)) = none := by
    simpa [List.find?_eq_none] using h
  simp only [decideOrderCancel, found]
  rw [if_neg ne]

variable {o : Order} (found : (s.schedule.orders.find? fun o => decide (o.spec.orderId = id.toNat)) = some o)
include found

theorem decideOrderCancel_active (h : o.state = .active) :
    decideOrderCancel id s = (s, Reply.because .inUse .none) := by
  simp only [decideOrderCancel, found]
  rw [if_neg ne, if_pos h]

theorem decideOrderCancel_queued (h : o.state ≠ .active) :
    decideOrderCancel id s =
      (judgeQueue s.schedule.queuedCount
        { s with
          store := s.store.dropUse o.spec.slot
          schedule := { s.schedule with
            orders := s.schedule.orders.filter fun x => decide (x.spec.orderId ≠ id.toNat) } },
        Reply.good []) := by
  simp only [decideOrderCancel, found]
  rw [if_neg ne, if_neg h]

end

/-- With distinct ids an order is found by its id. -/
theorem find?_orderId {before after : List Order} {o : Order}
    (ids : ((before ++ o :: after).map fun x => x.spec.orderId).Nodup) :
    ((before ++ o :: after).find? fun x => decide (x.spec.orderId = o.spec.orderId)) = some o := by
  simp only [List.map_append, List.map_cons, List.nodup_middle, List.nodup_cons, List.mem_append, List.mem_map,
    not_or, not_exists, not_and] at ids
  obtain ⟨⟨notBefore, -⟩, -⟩ := ids
  exact List.find?_eq_some_iff_append.2 ⟨by simp, before, after, rfl, fun x hx => by simpa using notBefore x hx⟩

/-- A cancel of a QUEUED order: it is taken out, its use dropped, and QUEUE_LOW judged behind the reply (R26, R34). -/
theorem exec_orderCancel_queued {tag : Byte} {id : BitVec 16} {s : State} {before after : List Order} {o : Order}
    (hs : s.takesRequests) (ids : (s.schedule.orders.map fun x => x.spec.orderId).Nodup)
    (split : s.schedule.orders = before ++ o :: after) (named : o.spec.orderId = id.toNat) (ne : id.toNat ≠ 0)
    (queued : o.state ≠ .active) :
    exec (.orderCancel tag id) s = .next (transmit (State.answered (inRequest (judgeQueue s.schedule.queuedCount)
      { s with
        store := s.store.dropUse o.spec.slot
        schedule := { s.schedule with orders := before ++ after } }) 0x0C tag (Reply.good []))) := by
  rw [split] at ids
  have found : (s.schedule.orders.find? fun x => decide (x.spec.orderId = id.toNat)) = some o := by
    rw [split, ← named]; exact find?_orderId ids
  have left : (s.schedule.orders.filter fun x => decide (x.spec.orderId ≠ id.toNat)) = before ++ after := by
    rw [split, ← named]; exact filter_orderId ids
  have decided := decideOrderCancel_queued (s := keepLine s) ne found queued
  rw [show (keepLine s).schedule.orders = s.schedule.orders from rfl, left] at decided
  exact exec_answered rfl hs decided

/-! ## QUEUE_LOW (R34) -/

section
variable {before : Nat} {s : State}

/-- q rising above low_water arms. -/
theorem judgeQueue_rises (rises : before < s.schedule.queuedCount) (above : s.params.lowWater < s.schedule.queuedCount) :
    judgeQueue before s = { s with schedule := { s.schedule with armed := true } } :=
  (if_pos rises).trans (if_pos above)

/-- q falling to low_water or below while armed raises QUEUE_LOW. -/
theorem judgeQueue_falls (above : s.params.lowWater < before) (low : s.schedule.queuedCount ≤ s.params.lowWater)
    (armed : s.schedule.armed = true) :
    judgeQueue before s = raiseNotice (.queueLow s.schedule.queuedCount s.params.lowWater)
      { s with schedule := { s.schedule with armed := false } } :=
  (if_neg (by omega)).trans (if_pos ⟨above, low, armed⟩)

theorem judgeQueue_rises_below (rises : before < s.schedule.queuedCount)
    (low : s.schedule.queuedCount ≤ s.params.lowWater) : judgeQueue before s = s :=
  (if_pos rises).trans (if_neg (by omega))

theorem judgeQueue_stays (falls : s.schedule.queuedCount ≤ before)
    (h : s.schedule.armed = false ∨ s.params.lowWater < s.schedule.queuedCount ∨ before ≤ s.params.lowWater) :
    judgeQueue before s = s := by
  refine (if_neg (by omega)).trans (if_neg ?_)
  rintro ⟨above, low, armed⟩
  rcases h with disarmed | still | below
  · rw [disarmed] at armed; cases armed
  · omega
  · omega

end

/-- Settles O29: the cancel by its checks, then the low-water judgement by its four cases. -/
theorem orderCancelAndQueueLow : Obligations.OrderCancelAndQueueLow := by
  constructor
  · intro tag id s hs shape answer
    obtain ⟨-, -, ids, -⟩ := shape
    have refused : ∀ q, decideOrderCancel id (keepLine s) = (keepLine s, q) → answer s q :=
      fun q h => exec_refused rfl hs h
    refine ⟨fun before after o split named ne => ⟨fun queued => ?_, fun active => ?_⟩,
      fun zero => refused _ (decideOrderCancel_zero zero),
      fun ne absent => refused _ (decideOrderCancel_notFound ne absent)⟩
    · exact exec_orderCancel_queued hs ids split named ne (by simp [queued])
    · refine refused _ (decideOrderCancel_active ne ?_ active)
      show (s.schedule.orders.find? _) = _
      rw [split] at ids ⊢
      rw [← named]
      exact find?_orderId ids
  · intro before s q low t
    exact ⟨judgeQueue_rises, judgeQueue_falls, judgeQueue_stays, judgeQueue_rises_below⟩

end Sys2Proof.Machine
end

section
/-! PROOFS. Handing an order to the Planner (R41, R42): the cursor stands for that order while its first records are
planned, and the line's part in the link is neither read nor written. -/

namespace Sys2Proof.Machine

/-! ## The order of a cursor -/

@[simp] theorem Cursor.nextGroup_order (c : Cursor) (k : PlanContext) : (c.nextGroup k).order = c.order := by
  unfold Cursor.nextGroup
  split
  case h_2 => unfold Cursor.afterSegment; dsimp only; split <;> rfl
  all_goals rfl

@[simp] theorem Cursor.pass_order (c : Cursor) (k : PlanContext) : (c.pass k).order = c.order := by
  unfold Cursor.pass
  split <;> simp

@[simp] theorem Cursor.advance_order (c : Cursor) (k : PlanContext) : (c.advance k).order = c.order := by
  simp only [Cursor.advance]
  split
  · rfl
  · simp

theorem planNext_order {s : State} {fuel : Nat} {c d : Cursor} {r : PlanRecord} (h : planNext s fuel c = some (r, d)) :
    d.order = c.order := by
  induction fuel generalizing c with
  | zero => cases h
  | succ fuel ih =>
    simp only [planNext] at h
    split at h
    · cases h
    · split at h
      · simpa using ih h
      · obtain ⟨-, rfl⟩ : _ ∧ _ = d := by simpa using h
        exact c.advance_order _

@[simp] theorem appendRecord_cursor_order (s : State) :
    (appendRecord s).planner.cursor.map Cursor.order = s.planner.cursor.map Cursor.order := by
  unfold appendRecord
  split
  · rfl
  · rename_i c at_c
    split
    · rfl
    · split
      · rfl
      · rename_i planned
        simp [at_c, planNext_order planned]

@[simp] theorem appendRecords_cursor_order (n : Nat) (s : State) :
    (appendRecords n s).planner.cursor.map Cursor.order = s.planner.cursor.map Cursor.order := by
  induction n generalizing s with
  | zero => rfl
  | succ n ih => rw [appendRecords, ih, appendRecord_cursor_order]

theorem appendRecords_frame (n : Nat) (s : State) : ∃ p, appendRecords n s = { s with planner := p } := by
  induction n generalizing s with
  | zero => exact ⟨s.planner, rfl⟩
  | succ n ih =>
    obtain ⟨more, c, once, -, -⟩ := appendRecord_frame s
    obtain ⟨p, rest⟩ := ih (appendRecord s)
    exact ⟨p, by rw [appendRecords, rest, once]⟩

/-- An order's take writes the Planner and the demand. -/
theorem handToPlanner_frame (o : OrderSpec) (s : State) :
    ∃ p g, handToPlanner o s = { s with planner := p, gov := { s.gov with demand := g } } := by
  obtain ⟨p, h⟩ := appendRecords_frame Config.queueCapacity
    { s with planner := { s.planner with cursor := some (Cursor.start o (s.store.slot o.slot)), headBegun := false } }
  exact ⟨p, _, by rw [handToPlanner, h]; rfl⟩

@[simp] theorem handToPlanner_cursor_order (o : OrderSpec) (s : State) :
    (handToPlanner o s).planner.cursor.map Cursor.order = some o :=
  appendRecords_cursor_order ..

@[simp] theorem handToPlanner_link (o : OrderSpec) (s : State) : (handToPlanner o s).link = s.link := by
  obtain ⟨p, g, h⟩ := handToPlanner_frame o s
  rw [h]

/-! ## The line kept for a reply -/

@[simp] theorem planNext_setTx (tx : Option (TxSource × Frame)) (s : State) (fuel : Nat) (c : Cursor) :
    planNext (setTx tx s) fuel c = planNext s fuel c := by
  have context : ∀ d, (setTx tx s).planContext d = s.planContext d := fun _ => rfl
  induction fuel generalizing c with
  | zero => rfl
  | succ fuel ih => simp only [planNext, context, ih]

theorem appendRecord_setTx (tx : Option (TxSource × Frame)) (s : State) :
    appendRecord (setTx tx s) = setTx tx (appendRecord s) := by
  simp only [appendRecord, setTx_planner, planNext_setTx]
  repeat' split
  all_goals rfl

theorem appendRecords_setTx (tx : Option (TxSource × Frame)) (n : Nat) (s : State) :
    appendRecords n (setTx tx s) = setTx tx (appendRecords n s) := by
  induction n generalizing s with
  | zero => rfl
  | succ n ih => rw [appendRecords, appendRecord_setTx, ih, appendRecords]

theorem handToPlanner_setTx (tx : Option (TxSource × Frame)) (o : OrderSpec) (s : State) :
    handToPlanner o (setTx tx s) = setTx tx (handToPlanner o s) :=
  congrArg recompute (appendRecords_setTx tx Config.queueCapacity
    { s with planner := { s.planner with cursor := some (Cursor.start o (s.store.slot o.slot)), headBegun := false } })

/-- An order is handed over in a request as it is outside one: no notice is raised. -/
theorem inRequest_handToPlanner (o : OrderSpec) (s : State) : inRequest (handToPlanner o) s = handToPlanner o s := by
  have link := handToPlanner_link o s
  rw [inRequest, keepLine, handToPlanner_setTx, setTx_setTx, ← link, setTx_same]

end Sys2Proof.Machine
end

section
/-! PROOFS. How the ACTIVE order begins (R29 to R31) and how it ends and the next one is taken (R27, R32, R33). -/

namespace Sys2Proof.Machine

/-! ## Notices raised (R185, R186) -/

theorem mem_noticesWith_self (q : List Notice) (n : Notice) : n ∈ noticesWith q n := by
  unfold noticesWith
  split
  · rename_i waits
    obtain ⟨m, hm, same⟩ := List.any_eq_true.1 waits
    exact List.mem_map.2 ⟨m, hm, if_pos same⟩
  · split <;> simp

/-- A waiting notice is replaced only by one of its kind (R185). -/
theorem mem_noticesWith {q : List Notice} {n m : Notice} (h : n ∈ q) (ne : n.kind ≠ m.kind) : n ∈ noticesWith q m := by
  unfold noticesWith
  split
  · exact List.mem_map.2 ⟨n, h, if_neg (by simpa using ne)⟩
  · split <;> simp [h]

/-- The notice that leaves the queue to be sent (R186) is the only one that leaves. -/
theorem nextNotice_keeps {q rest : List Notice} {n m : Notice} (next : nextNotice q = some (m, rest)) (h : n ∈ q) :
    n = m ∨ n ∈ rest := by
  obtain ⟨before, split, front, -⟩ := nextNotice_some next
  rw [split, List.mem_append, List.mem_cons] at h
  rcases h with h | h | h
  · rw [front] at h; exact .inr (List.mem_of_mem_take h)
  · exact .inl h
  · exact .inr (List.mem_of_mem_drop h)

/-- A waiting notice goes on waiting or is begun as the transmitter chooses (R186). -/
theorem Link.choose_keeps {k : Link} {n : Notice} (h : n ∈ k.notices) :
    n ∈ k.choose.notices ∨ k.choose.tx = some (.notice, n.frame) := by
  unfold Link.choose
  repeat' split
  case h_2 next => exact (nextNotice_keeps next h).elim (fun e => .inr (by rw [e])) .inl
  all_goals exact .inl h

theorem State.notified.transmit {s : State} {n : Notice} (h : s.notified n) : (transmit s).notified n := by
  rcases h with waits | sent
  · unfold Machine.transmit State.notified
    dsimp only
    split
    · exact .inl waits
    · exact Link.choose_keeps waits
  · rw [transmit_busy s (by simp [sent])]
    exact .inr sent

theorem raiseNotice_notified (n : Notice) (s : State) : (raiseNotice n s).notified n :=
  State.notified.transmit (.inl (mem_noticesWith_self ..))

/-- A notice raised stays raised as one of another kind is raised. -/
theorem State.notified.raiseNotice {s : State} {n m : Notice} (h : s.notified n) (ne : n.kind ≠ m.kind) :
    (raiseNotice m s).notified n :=
  State.notified.transmit (h.imp (fun waits => mem_noticesWith waits ne) id)

theorem State.notified.judgeQueue {s : State} {n : Notice} (h : s.notified n) (ne : n.kind ≠ 0x65) (before : Nat) :
    (judgeQueue before s).notified n := by
  unfold Machine.judgeQueue
  dsimp only
  split
  · split <;> exact h
  · split
    · exact State.notified.raiseNotice h ne
    · exact h

/-! ## A record begins (R29 to R31) -/

section
variable {r : PlanRecord} {o : Order} {rest : List Order} {s : State}

theorem recordBegun_again (h : s.planner.headBegun = true) : recordBegun r s = s := if_pos h

/-- The ACTIVE order's record is that of the head (R25). -/
theorem setActive_head {f : Order → Order} (orders : s.schedule.orders = o :: rest) (active : o.state = .active)
    (queued : ∀ x ∈ rest, x.state = .queued) :
    setActive f s = { s with schedule := { s.schedule with orders := f o :: rest } } := by
  have behind : (rest.map fun x => if x.state = .active then f x else x) = rest :=
    (List.map_congr_left fun x hx => by simp [queued x hx]).trans (List.map_id rest)
  simp only [setActive, orders, List.map_cons, behind, if_pos active]

theorem activeOrder_head (orders : s.schedule.orders = o :: rest) (active : o.state = .active) :
    s.schedule.activeOrder = some o := by
  simp [Schedule.activeOrder, orders, active]

variable (orders : s.schedule.orders = o :: rest) (active : o.state = .active) (queued : ∀ x ∈ rest, x.state = .queued)
  (first : s.planner.headBegun = false)
include orders active queued first

theorem recordBegun_started (started : o.started = true) :
    recordBegun r s = { s with
      planner := { s.planner with headBegun := true }
      schedule := { s.schedule with
        orders := { o with phase := r.phase, currentRepeat := r.ref.repeatNo, started := true } :: rest } } := by
  simp only [recordBegun, activeOrder_head orders active]
  rw [if_neg (by simp [first]), if_pos started]
  exact setActive_head (s := { s with planner := _ }) orders active queued

theorem recordBegun_first (unstarted : o.started = false) :
    recordBegun r s = raiseNotice (.panelStarted o.spec.orderId o.spec.slot r.phase) { s with
      planner := { s.planner with headBegun := true }
      schedule := { s.schedule with
        orders := { o with phase := r.phase, currentRepeat := r.ref.repeatNo, started := true } :: rest }
      line := { s.line with history := [] } } := by
  simp only [recordBegun, activeOrder_head orders active]
  rw [if_neg (by simp [first]), if_neg (by simp [unstarted]),
    setActive_head (s := { s with planner := { s.planner with headBegun := true } }) orders active queued]

end

/-! ## The next order is taken (R27) -/

theorem takeNext_nil {s : State} (orders : s.schedule.orders = []) : takeNext s = s := by
  simp [takeNext, orders]

theorem takeNext_cons {s : State} {o : Order} {rest : List Order} (idle : s.orderActive = false)
    (orders : s.schedule.orders = o :: rest) :
    takeNext s = judgeQueue s.schedule.queuedCount
      (handToPlanner o.spec { s with schedule := { s.schedule with orders := o.taken :: rest } }) := by
  simp only [takeNext, orders, idle]
  rfl

/-- The judgement of QUEUE_LOW leaves the Planner alone. -/
@[simp] theorem judgeQueue_planner (before : Nat) (s : State) : (judgeQueue before s).planner = s.planner := by
  obtain ⟨a, k, h⟩ := judgeQueue_frame before s
  rw [h]

theorem takeNext_cursor_order {s : State} (idle : s.orderActive = false) (absent : s.planner.cursor = none) :
    (takeNext s).planner.cursor.map Cursor.order = s.schedule.orders.head?.map Order.spec := by
  cases orders : s.schedule.orders with
  | nil => simp [takeNext_nil orders, absent]
  | cons o rest => simp [takeNext_cons idle orders]

theorem State.notified.takeNext {s : State} {n : Notice} (h : s.notified n) (idle : s.orderActive = false)
    (ne : n.kind ≠ 0x65) : (takeNext s).notified n := by
  cases orders : s.schedule.orders with
  | nil => rwa [takeNext_nil orders]
  | cons o rest =>
    rw [takeNext_cons idle orders]
    refine State.notified.judgeQueue ?_ ne _
    simpa only [State.notified, handToPlanner_link] using h

/-! ## The ACTIVE order ends (R32, R33) -/

/-- The ACTIVE order has left: its slot's use is dropped, PANEL_DONE raised, and no cursor stands. -/
def orderLeft (outcome : PanelOutcome) (o : Order) (s : State) : State :=
  recompute (raiseNotice (.panelDone o.spec.orderId o.spec.slot outcome o.stitchesExecuted)
    { s with
      schedule := { s.schedule with orders := s.schedule.orders.filter fun x => decide (x.state ≠ .active) }
      store := s.store.dropUse o.spec.slot
      planner := { s.planner with cursor := none } })

section
variable {outcome : PanelOutcome} {o : Order} {s : State}

theorem orderLeft_idle : (orderLeft outcome o s).orderActive = false := by
  simp [orderLeft, State.orderActive, Schedule.activeOrder, recompute]

variable (active : s.schedule.activeOrder = some o)
include active

theorem endOrder_active : endOrder outcome s = takeNext (orderLeft outcome o s) := by
  simp only [endOrder, active]
  rfl

theorem endOrder_stock : (endOrder outcome s).stock = s.stock.ended o := by
  rw [endOrder_active active, takeNext_stock orderLeft_idle]
  rfl

theorem endOrder_notified :
    (endOrder outcome s).notified (.panelDone o.spec.orderId o.spec.slot outcome o.stitchesExecuted) := by
  rw [endOrder_active active]
  exact State.notified.takeNext (raiseNotice_notified _ _) orderLeft_idle (by simp [Notice.kind])

theorem endOrder_cursor_order : (endOrder outcome s).planner.cursor.map Cursor.order =
    (s.schedule.orders.filter fun x => decide (x.state ≠ .active)).head?.map Order.spec := by
  rw [endOrder_active active, takeNext_cursor_order orderLeft_idle rfl]
  rfl

theorem endOrder_scheduleShape (shape : ScheduleShape s) : ScheduleShape (endOrder outcome s) := by
  refine (scheduleShape_iff _).2 ?_
  rw [endOrder_stock active]
  exact Stock.Ordered.moves ((scheduleShape_iff s).1 shape) (.ended _ o active)

end

/-- In a schedule in shape the slot of an order counts it, and its leaving lowers the count (R16). -/
theorem useCount_dropUse {s : State} {o : Order} (shape : ScheduleShape s) (mem : o ∈ s.schedule.orders) :
    ((s.store.dropUse o.spec.slot).slot o.spec.slot).useCount + 1 = (s.store.slot o.spec.slot).useCount := by
  obtain ⟨slots, -, -, -, slot_lt, uses, -⟩ := shape
  have hs := slot_lt o mem
  have used : 0 < (s.store.slot o.spec.slot).useCount := by
    rw [uses _ hs]
    exact List.length_pos_of_mem (List.mem_filter.2 ⟨mem, by simp⟩)
  rw [Store.dropUse, Store.slot_setSlot_same _ (by omega)]
  exact Nat.sub_add_cancel used

/-- Settles O30: a record that begins by its three cases; at the end of an order, what `Stock.ended` says of the orders
and the store, with the notice and the cursor. -/
theorem orderBeginsAndEnds : Obligations.OrderBeginsAndEnds := by
  constructor
  · intro r o rest s orders active queued t now
    exact ⟨recordBegun_again, recordBegun_started orders active queued, recordBegun_first orders active queued⟩
  · intro outcome o rest s shape orders _ t
    obtain ⟨-, -, -, head, -⟩ := id shape
    rw [orders] at head
    obtain ⟨isActive, -⟩ := (activeAtHead_cons o rest).1 head
    have active := activeOrder_head orders isActive
    have left : (s.schedule.orders.filter fun x => decide (x.state ≠ .active)) = rest := by
      rw [orders]; exact filter_not_active head
    have stock : t.stock = ⟨s.store.dropUse o.spec.slot, takeHead rest⟩ := by
      rw [← left]; exact endOrder_stock active
    refine ⟨?_, ?_, endOrder_notified active, ?_, endOrder_scheduleShape active shape⟩
    · rw [← State.stock_orders, stock]
      cases rest <;> rfl
    · rw [← State.stock_store, stock]
      exact useCount_dropUse shape (by simp [orders])
    · rw [← left]; exact endOrder_cursor_order active

end Sys2Proof.Machine
end

section
/-! PROOFS. What ORDER_ADD does (R21 to R24): the record's fields in order, the checks in order, and the order
admitted. -/

namespace Sys2Proof.Machine

/-! ## The fields of an order record (R20) -/

/-- The checks of R20 in record order: the offset of each field, and whether the field is outside its range. -/
def OrderFields.rangeFaults (o : OrderFields) : List (Nat × Bool) :=
  [(0, decide (o.orderId = 0)), (2, decide (15 < o.slot.toNat)),
   (3, decide (o.repeats.toNat < 1 ∨ 64 < o.repeats.toNat)),
   (4, decide (o.stitchLen.toNat < 10 ∨ 80 < o.stitchLen.toNat)), (5, decide (6 < o.tack.toNat)),
   (6, decide (o.speedLimit.toNat < 60 ∨ 2000 < o.speedLimit.toNat)),
   (8, decide (o.xOffset.toInt < -2400 ∨ 2400 < o.xOffset.toInt)), (10, decide (2000 < o.leadIn.toNat)),
   (12, decide (2000 < o.leadOut.toNat)), (14, decide (5000 < o.gap.toNat)), (16, decide (1 < o.onMark.toNat)),
   (17, decide (1 < o.cut.toNat)), (18, decide (o.barMask.toNat < 1 ∨ 7 < o.barMask.toNat))]

theorem flagOfByte_isNone (b : Byte) : (flagOfByte b).isNone = true ↔ 1 < b.toNat := by
  revert b; decide

theorem flagOfByte_getD (b : Byte) : (flagOfByte b).getD false = decide (b = 1) := by
  revert b; decide

theorem BarSet.ofByte_isNone (b : Byte) : (BarSet.ofByte b).isNone = true ↔ b.toNat < 1 ∨ 7 < b.toNat := by
  by_cases bars : 1 ≤ b.toNat ∧ b.toNat ≤ 7
  · simp [BarSet.ofByte_of_bars bars]; omega
  · simp [BarSet.ofByte_eq_none bars]; omega

/-- The first fault of a list of checks, check by check. -/
theorem find?_fault_cons (k : Nat) (p : Prop) [Decidable p] (rest : List (Nat × Bool)) :
    (((k, decide p) :: rest).find? fun x => x.2).map Prod.fst =
      if p then some k else (rest.find? fun x => x.2).map Prod.fst := by
  by_cases h : p <;> simp [h]

/-- An order record's fault is the first of its checks that fails (R21). -/
theorem OrderFields.fault_eq_find? (o : OrderFields) :
    OrderFields.fault o = ((OrderFields.rangeFaults o).find? fun x => x.2).map Prod.fst := by
  have orderId : o.orderId = 0 ↔ o.orderId.toNat = 0 := BitVec.toNat_inj.symm
  have repeats : o.repeats.toNat < 1 ↔ o.repeats.toNat = 0 := Nat.lt_one_iff
  simp only [OrderFields.rangeFaults, find?_fault_cons, orderId, repeats, ← flagOfByte_isNone, ← BarSet.ofByte_isNone]
  rfl

theorem OrderFields.fault_eq_none {o : OrderFields} (sound : ∀ f ∈ OrderFields.rangeFaults o, f.2 = false) :
    OrderFields.fault o = none := by
  rw [OrderFields.fault_eq_find?, List.find?_eq_none.2 fun f hf => by simp [sound f hf]]
  rfl

/-! ## Bar sets under the mask (R23) -/

/-- BARS segments that keep a bar under the mask are passed over. -/
theorem badBarsIndex_append {mask : BarSet} {before : List Segment}
    (good : ∀ u, Segment.bars u ∈ before → (u.inter mask).isEmpty = false) (i : Nat) (after : List Segment) :
    badBarsIndex mask i (before ++ after) = badBarsIndex mask (i + before.length) after := by
  induction before generalizing i with
  | nil => rfl
  | cons x xs ih =>
    have pass : badBarsIndex mask i (x :: (xs ++ after)) = badBarsIndex mask (i + 1) (xs ++ after) := by
      cases x with
      | bars u => rw [badBarsIndex, if_neg (by simp [good u])]
      | _ => rfl
    rw [List.cons_append, pass, ih fun u hu => good u (.tail x hu), List.length_cons, Nat.add_assoc, Nat.add_comm 1]

theorem badBarsIndex_eq_none {mask : BarSet} {xs : List Segment}
    (good : ∀ u, Segment.bars u ∈ xs → (u.inter mask).isEmpty = false) : badBarsIndex mask 0 xs = none := by
  simpa [badBarsIndex] using badBarsIndex_append good 0 []

/-- The first BARS segment that the mask empties is named by its index. -/
theorem badBarsIndex_first {mask set : BarSet} {before after : List Segment}
    (good : ∀ u, Segment.bars u ∈ before → (u.inter mask).isEmpty = false) (empty : (set.inter mask).isEmpty = true) :
    badBarsIndex mask 0 (before ++ .bars set :: after) = some before.length := by
  rw [badBarsIndex_append good, badBarsIndex, if_pos empty, Nat.zero_add]

theorem Slot.offsetFits_iff (r : Slot) (x : Int) :
    r.offsetFits x = true ↔ 0 ≤ r.startX + x + r.atClose.xMin ∧ r.startX + x + r.atClose.xMax ≤ 2400 := by
  simp [Slot.offsetFits]

/-! ## ORDER_ADD -/

/-- The results of an admitted ORDER_ADD (R24): the order's state, its position, its speed_limit, and whether that is
clamped. -/
def addedReply (o : OrderFields) (spec : OrderSpec) (s : State) (code : Nat) : Reply :=
  Reply.good (u8 code ++ u8 s.schedule.orders.length ++ u16 spec.speedLimit
    ++ flag (decide (s.params.lineMax < o.speedLimit.toNat)))

section
variable {o : OrderFields} {s : State}

theorem decideOrderAdd_field {k : Nat} (h : OrderFields.fault o = some k) :
    decideOrderAdd o s = (s, Reply.field k) := by
  simp only [decideOrderAdd, h]

variable (sound : OrderFields.fault o = none)
include sound

theorem decideOrderAdd_full (h : Config.scheduleCapacity ≤ s.schedule.orders.length) :
    decideOrderAdd o s = (s, Reply.because .noRoom .none) := by
  simp only [decideOrderAdd, sound]
  rw [if_pos h]

variable (room : ¬ Config.scheduleCapacity ≤ s.schedule.orders.length)
include room

theorem decideOrderAdd_duplicate
    (h : (s.schedule.orders.any fun x => decide (x.spec.orderId = o.orderId.toNat)) = true) :
    decideOrderAdd o s = (s, Reply.because .duplicate .none) := by
  simp only [decideOrderAdd, sound]
  rw [if_neg room, if_pos h]

end

/-- An ORDER_ADD past the checks of its record and of the schedule (R21 checks 1 to 3) asks for an order. -/
structure OrderFields.Asks (o : OrderFields) (spec : OrderSpec) (s : State) : Prop where
  sound : OrderFields.fault o = none
  room : ¬ Config.scheduleCapacity ≤ s.schedule.orders.length
  fresh : ¬ (s.schedule.orders.any fun x => decide (x.spec.orderId = o.orderId.toNat)) = true
  asked : OrderFields.spec o s.params.lineMax = spec

section
variable {o : OrderFields} {s : State} {spec : OrderSpec} (h : OrderFields.Asks o spec s)
include h

theorem decideOrderAdd_notReady (unready : (s.store.slot spec.slot).state ≠ .ready) :
    decideOrderAdd o s = (s, Reply.because .notFound .none) := by
  simp only [decideOrderAdd, h.sound, h.asked]
  rw [if_neg h.room, if_neg h.fresh, if_pos unready]

variable (ready : (s.store.slot spec.slot).state = .ready)
include ready

theorem decideOrderAdd_offset (outside : (s.store.slot spec.slot).offsetFits spec.xOffset = false) :
    decideOrderAdd o s = (s, Reply.field 8) := by
  simp only [decideOrderAdd, h.sound, h.asked]
  rw [if_neg h.room, if_neg h.fresh, if_neg (not_not.2 ready), if_pos (by simp [outside])]

variable (fits : (s.store.slot spec.slot).offsetFits spec.xOffset = true)
include fits

theorem decideOrderAdd_initial (empties : ((s.store.slot spec.slot).initialBars.inter spec.barMask).isEmpty = true) :
    decideOrderAdd o s = (s, Reply.refusal .badValue 18 0 .initial 0) := by
  simp only [decideOrderAdd, h.sound, h.asked]
  rw [if_neg h.room, if_neg h.fresh, if_neg (not_not.2 ready), if_neg (by simp [fits]), if_pos empties]

variable (initial : ((s.store.slot spec.slot).initialBars.inter spec.barMask).isEmpty = false)
include initial

theorem decideOrderAdd_bars {k : Nat} (bad : badBarsIndex spec.barMask 0 (s.store.segments spec.slot) = some k) :
    decideOrderAdd o s = (s, Reply.refusal .badValue 18 k .none 0) := by
  simp only [decideOrderAdd, h.sound, h.asked, bad]
  rw [if_neg h.room, if_neg h.fresh, if_neg (not_not.2 ready), if_neg (by simp [fits]), if_neg (by simp [initial])]

variable (bars : badBarsIndex spec.barMask 0 (s.store.segments spec.slot) = none)
include bars

theorem decideOrderAdd_queued (active : s.orderActive = true) :
    decideOrderAdd o s = (judgeQueue s.schedule.queuedCount
      { s with
        store := s.store.countUse spec.slot
        schedule := { s.schedule with orders := s.schedule.orders ++ [⟨spec, .queued, .markSearch, 0, 0, false⟩] } },
      addedReply o spec s 0) := by
  simp only [decideOrderAdd, h.sound, h.asked, bars]
  rw [if_neg h.room, if_neg h.fresh, if_neg (not_not.2 ready), if_neg (by simp [fits]), if_neg (by simp [initial]),
    if_pos active]
  rfl

theorem decideOrderAdd_taken (idle : s.orderActive = false) :
    decideOrderAdd o s = (handToPlanner spec
      { s with
        store := s.store.countUse spec.slot
        schedule := { s.schedule with
          orders := s.schedule.orders ++ [Order.taken ⟨spec, .queued, .markSearch, 0, 0, false⟩] } },
      addedReply o spec s 1) := by
  simp only [decideOrderAdd, h.sound, h.asked, bars]
  rw [if_neg h.room, if_neg h.fresh, if_neg (not_not.2 ready), if_neg (by simp [fits]), if_neg (by simp [initial]),
    if_neg (by simp [idle])]
  rfl

end

theorem OrderFields.bars_of_sound {o : OrderFields} (sound : ∀ f ∈ OrderFields.rangeFaults o, f.2 = false) :
    1 ≤ o.barMask.toNat ∧ o.barMask.toNat ≤ 7 := by
  have inRange : decide (o.barMask.toNat < 1 ∨ 7 < o.barMask.toNat) = false :=
    sound (18, _) (List.mem_of_getElem? (i := 12) rfl)
  rw [decide_eq_false_iff_not] at inRange
  omega

/-- The order asked for by a record in range (R24). -/
theorem OrderFields.spec_of_bars {o : OrderFields} (bars : 1 ≤ o.barMask.toNat ∧ o.barMask.toNat ≤ 7) (lineMax : Nat) :
    OrderFields.spec o lineMax =
      { orderId := o.orderId.toNat, slot := o.slot.toNat, repeats := o.repeats.toNat, stitchLen := o.stitchLen.toNat
        tack := o.tack.toNat, speedLimit := min o.speedLimit.toNat lineMax, xOffset := o.xOffset.toInt
        leadIn := o.leadIn.toNat, leadOut := o.leadOut.toNat, gap := o.gap.toNat
        onMark := decide (o.onMark = 1), cut := decide (o.cut = 1)
        barMask := ⟨o.barMask.getLsbD 0, o.barMask.getLsbD 1, o.barMask.getLsbD 2⟩ } := by
  simp only [OrderFields.spec, flagOfByte_getD, BarSet.ofByte_of_bars bars, Option.getD_some]

/-- Settles O28: the record's fields by the list of their checks, the refusals check by check, and the order appended
behind an ACTIVE one or taken. -/
theorem orderAddAdmitsOrRefuses : Obligations.OrderAddAdmitsOrRefuses := by
  intro tag o s hs answer faults sound mask spec r room fresh fits initialLeft good order
  have refused : ∀ q, decideOrderAdd o (keepLine s) = (keepLine s, q) → answer s q :=
    fun q h => exec_refused rfl hs h
  have added : ∀ t q, decideOrderAdd o (keepLine s) = (t, q) → answer (setTx s.link.tx t) q :=
    fun t q h => exec_answered rfl hs h
  have noFault : sound → OrderFields.fault o = none := OrderFields.fault_eq_none
  have notFull : room → ¬ Config.scheduleCapacity ≤ s.schedule.orders.length := Nat.not_le_of_lt
  have duplicate :
      (s.schedule.orders.any fun x => decide (x.spec.orderId = o.orderId.toNat)) = true ↔ ¬ fresh := by
    simp [fresh]
  have asks : sound → room → fresh → OrderFields.Asks o spec (keepLine s) := fun ok rm new =>
    ⟨noFault ok, notFull rm, fun dup => duplicate.1 dup new,
      OrderFields.spec_of_bars (OrderFields.bars_of_sound ok) _⟩
  have fit : r.offsetFits spec.xOffset = true ↔ fits := r.offsetFits_iff _
  refine ⟨fun f first => ?field, fun ok full => ?full, fun ok rm dup => ?duplicate, fun ok rm new st => ?notReady,
    fun ok rm new st out => ?offset, fun ok rm new st inside empty => ?initial,
    fun ok rm new st inside left => ⟨fun before after set split keep empties => ?bars, fun keep =>
      ⟨fun active => ?queued, fun idle => ?taken⟩⟩⟩
  case field =>
    refine refused _ (decideOrderAdd_field ?_)
    rw [OrderFields.fault_eq_find?, show (OrderFields.rangeFaults o).find? (fun x => x.2) = some f from first]
    rfl
  case full => exact refused _ (decideOrderAdd_full (s := keepLine s) (noFault ok) (Nat.le_of_not_lt full))
  case duplicate =>
    exact refused _ (decideOrderAdd_duplicate (s := keepLine s) (noFault ok) (notFull rm) (duplicate.2 dup))
  case notReady => exact refused _ (decideOrderAdd_notReady (asks ok rm new) st)
  case offset =>
    exact refused _ (decideOrderAdd_offset (asks ok rm new) st
      (Bool.eq_false_of_not_eq_true (mt fit.1 out)))
  case initial =>
    exact refused _ (decideOrderAdd_initial (asks ok rm new) st (fit.2 inside)
      (Bool.eq_true_of_not_eq_false empty))
  case bars =>
    refine refused _ (decideOrderAdd_bars (asks ok rm new) st (fit.2 inside) left ?_)
    show badBarsIndex mask 0 (s.store.segments spec.slot) = _
    rw [split]; exact badBarsIndex_first keep empties
  case queued =>
    exact added _ _ (decideOrderAdd_queued (asks ok rm new) st (fit.2 inside) left
      (badBarsIndex_eq_none keep) active)
  case taken =>
    rw [← inRequest_handToPlanner]
    exact added _ _ (decideOrderAdd_taken (asks ok rm new) st (fit.2 inside) left
      (badBarsIndex_eq_none keep) idle)

end Sys2Proof.Machine
end

section
/-! PROOFS. The arithmetic of a STITCH segment (R56 to R60): the length and the count, the targets and the steps, and the
time that a stitch at its ceiling takes. -/

namespace Sys2Proof.Machine

/-! ## Ceilings of a quotient -/

/-- `ceil(n / d)` is at most m exactly when n is at most m times d. -/
theorem ceilDiv_le_iff {n d m : Nat} (hd : 1 ≤ d) : ceilDiv n d ≤ m ↔ n ≤ m * d := by
  rw [ceilDiv, Nat.div_le_iff_le_mul_add_pred hd, Nat.mul_comm d m]
  omega

/-! ## The length D (R56) -/

/-- The root found bit by bit from `acc`: its square does not exceed n, and the next one's does where the k bits left reach. -/
theorem rootBits_spec {n k acc : Nat} (low : acc * acc ≤ n) :
    rootBits n k acc * rootBits n k acc ≤ n
    ∧ (n < (acc + 2 ^ k) * (acc + 2 ^ k) → n < (rootBits n k acc + 1) * (rootBits n k acc + 1)) := by
  induction k generalizing acc with
  | zero => exact ⟨low, fun high => by simpa [rootBits] using high⟩
  | succ k ih =>
    rw [rootBits]
    split
    · rename_i fits
      obtain ⟨below, above⟩ := ih fits
      exact ⟨below, fun high => above (by rwa [Nat.add_assoc, ← Nat.two_mul, ← Nat.pow_succ'])⟩
    · rename_i exceeds
      obtain ⟨below, above⟩ := ih low
      exact ⟨below, fun _ => above (Nat.lt_of_not_le exceeds)⟩

theorem floorRoot_sq_le (n : Nat) : floorRoot n * floorRoot n ≤ n := (rootBits_spec (Nat.zero_le n)).1

theorem lt_floorRoot_succ_sq {n : Nat} (h : n < 2 ^ 32) : n < (floorRoot n + 1) * (floorRoot n + 1) :=
  (rootBits_spec (Nat.zero_le n)).2 (by simpa [← Nat.pow_add] using h)

/-- D is the root of the square S of the length, or one more where S stands past the middle of the two squares. -/
theorem stitchLength_eq (dx dy : Int) :
    let sq := mag dx * mag dx + mag dy * mag dy
    stitchLength dx dy =
      if floorRoot sq < sq - floorRoot sq * floorRoot sq then floorRoot sq + 1 else floorRoot sq := rfl

/-- D is the nearest integer to the root of S: (D - 1/2)² < S < (D + 1/2)². -/
theorem stitchLength_nearest {dx dy : Int} (small : mag dx * mag dx + mag dy * mag dy < 2 ^ 32) :
    let sq := mag dx * mag dx + mag dy * mag dy
    let d := stitchLength dx dy
    (d = 0 ∧ sq = 0) ∨ (1 ≤ d ∧ d * d + 1 ≤ sq + d ∧ sq ≤ d * d + d) := by
  have low := floorRoot_sq_le (mag dx * mag dx + mag dy * mag dy)
  have high := lt_floorRoot_succ_sq small
  rw [stitchLength_eq]
  dsimp only
  generalize mag dx * mag dx + mag dy * mag dy = sq at low high ⊢
  generalize floorRoot sq = r at low high ⊢
  have next : (r + 1) * (r + 1) = r * r + 2 * r + 1 := by ring
  rcases Nat.eq_zero_or_pos r with rfl | pos
  · split <;> omega
  · have : r ≤ r * r := Nat.le_mul_self r
    split <;> omega

/-- D is at most twice the larger part of the move. -/
theorem stitchLength_le {dx dy : Int} (moves : dx ≠ 0 ∨ dy ≠ 0) :
    stitchLength dx dy ≤ 2 * max (mag dx) (mag dy) := by
  have low := floorRoot_sq_le (mag dx * mag dx + mag dy * mag dy)
  have pos : 1 ≤ max (mag dx) (mag dy) := by
    simp only [mag]; omega
  have hx := Nat.mul_self_le_mul_self (Nat.le_max_left (mag dx) (mag dy))
  have hy := Nat.mul_self_le_mul_self (Nat.le_max_right (mag dx) (mag dy))
  have root : floorRoot (mag dx * mag dx + mag dy * mag dy) < 2 * max (mag dx) (mag dy) := by
    refine Nat.mul_self_lt_mul_self_iff.1 (low.trans_lt ?_)
    nlinarith
  rw [stitchLength_eq]
  split <;> omega

/-! ## The stitch count N (R57) -/

/-- N is at most m exactly when m is a count that keeps the stitch length and both caps. -/
theorem stitchCount_le_iff {dx dy : Int} {len capX capY m : Nat} (hl : 1 ≤ len) (hx : 1 ≤ capX) (hy : 1 ≤ capY) :
    stitchCount dx dy len capX capY ≤ m ↔
      1 ≤ m ∧ stitchLength dx dy ≤ m * len ∧ mag dx ≤ m * capX ∧ mag dy ≤ m * capY := by
  simp only [stitchCount, max_le_iff, ceilDiv_le_iff hl, ceilDiv_le_iff hx, ceilDiv_le_iff hy]

/-- Settles O32: D by the root found bit by bit, N as the least of the counts that keep every limit. -/
theorem stitchLengthAndCount : Obligations.StitchLengthAndCount := by
  refine ⟨fun dx dy hx hy => ?length, fun dx dy len capX capY hl hx hy => ⟨?keeps, fun m one long x y => ?least,
    fun ten moves => ?bound⟩⟩
  case length =>
    have sx := Nat.mul_self_le_mul_self hx
    have sy := Nat.mul_self_le_mul_self hy
    have nearest := stitchLength_nearest (dx := dx) (dy := dy) (by omega)
    refine ⟨nearest, ?_⟩
    by_contra far
    have : 10285 * stitchLength dx dy ≤ stitchLength dx dy * stitchLength dx dy := Nat.mul_le_mul_right _ (by omega)
    omega
  case keeps => exact (stitchCount_le_iff hl hx hy).1 le_rfl
  case least => exact (stitchCount_le_iff hl hx hy).2 ⟨one, long, x, y⟩
  case bound =>
    have pos : 1 ≤ max (mag dx) (mag dy) := by simp only [mag]; omega
    refine (stitchCount_le_iff hl hx hy).2 ⟨pos, ?_, ?_, ?_⟩
    · calc stitchLength dx dy ≤ 2 * max (mag dx) (mag dy) := stitchLength_le moves
        _ ≤ max (mag dx) (mag dy) * len := by rw [Nat.mul_comm]; exact Nat.mul_le_mul_left _ (by omega)
    · exact (Nat.le_max_left _ _).trans (Nat.le_mul_of_pos_right _ hx)
    · exact (Nat.le_max_right _ _).trans (Nat.le_mul_of_pos_right _ hy)

/-! ## Targets and steps (R58, R59) -/

/-- The part of a move of m pu over n stitches that stands before stitch i + 1, to the nearest, halves up. -/
def nearestPart (m n i : Nat) : Nat := (2 * i * m + n) / (2 * n)

theorem stitchTarget_of_nonneg {d : Int} (h : 0 ≤ d) (n i : Nat) : stitchTarget d n i = nearestPart (mag d) n i :=
  if_neg (by omega)

theorem stitchTarget_of_neg {d : Int} (h : d < 0) (n i : Nat) : stitchTarget d n i = -nearestPart (mag d) n i :=
  if_pos h

section
variable {n : Nat} (hn : 1 ≤ n)
include hn

@[simp] theorem nearestPart_zero (m : Nat) : nearestPart m n 0 = 0 := by
  rw [nearestPart, Nat.div_eq_of_lt (by omega)]

theorem nearestPart_last (m : Nat) : nearestPart m n n = m := by
  rw [nearestPart, show 2 * n * m + n = n + 2 * n * m by omega, Nat.add_mul_div_left _ _ (by omega),
    Nat.div_eq_of_lt (by omega), Nat.zero_add]

/-- Each part is the one before it and at least `floor(m / n)`. -/
theorem nearestPart_succ_ge (m i : Nat) : nearestPart m n i + m / n ≤ nearestPart m n (i + 1) := by
  have whole : n * (m / n) ≤ m := Nat.mul_div_le m n
  rw [nearestPart, nearestPart, ← Nat.add_mul_div_left _ _ (show 0 < 2 * n by omega)]
  refine Nat.div_le_div_right ?_
  nlinarith

/-- Each part is the one before it and at most c, where n steps of c make the move. -/
theorem nearestPart_succ_le {m c : Nat} (cover : m ≤ n * c) (i : Nat) :
    nearestPart m n (i + 1) ≤ nearestPart m n i + c := by
  rw [nearestPart, nearestPart, ← Nat.add_mul_div_left _ _ (show 0 < 2 * n by omega)]
  refine Nat.div_le_div_right ?_
  nlinarith

theorem nearestPart_mono (m i : Nat) : nearestPart m n i ≤ nearestPart m n (i + 1) :=
  (Nat.le_add_right _ _).trans (nearestPart_succ_ge hn m i)

/-- Two steps of a move differ by at most 1 pu. -/
theorem nearestPart_step_le (m i j : Nat) :
    nearestPart m n (i + 1) + nearestPart m n j ≤ nearestPart m n (j + 1) + nearestPart m n i + 1 := by
  have ceil : m ≤ n * (m / n + 1) := (Nat.lt_mul_div_succ m hn).le
  have up := nearestPart_succ_le hn ceil i
  have down := nearestPart_succ_ge hn m j
  omega

end

theorem stitchStep_succ (d : Int) (n i : Nat) :
    stitchStep d n (i + 1) = stitchTarget d n (i + 1) - stitchTarget d n i := rfl

/-- The steps before a stitch sum to its target's place. -/
theorem sum_stitchStep (d : Int) {n : Nat} (hn : 1 ≤ n) (k : Nat) :
    ((List.range k).map fun i => stitchStep d n (i + 1)).sum = stitchTarget d n k := by
  induction k with
  | zero => rcases lt_or_ge d 0 with h | h <;> simp [stitchTarget_of_neg, stitchTarget_of_nonneg, h, hn]
  | succ k ih => rw [List.range_succ, List.map_append, List.sum_append, ih]; simp [stitchStep_succ]

theorem stitchTarget_last (d : Int) {n : Nat} (hn : 1 ≤ n) : stitchTarget d n n = d := by
  rcases lt_or_ge d 0 with h | h
  · rw [stitchTarget_of_neg h, nearestPart_last hn, mag]; omega
  · rw [stitchTarget_of_nonneg h, nearestPart_last hn, mag]; omega

/-- Settles O33: the targets as parts of the move, each step between floor and ceiling of the move over its count. -/
theorem stitchStepsSumToTheMove : Obligations.StitchStepsSumToTheMove := by
  refine ⟨fun d n i hn => ⟨fun pos => ?positive, fun neg => ?negative, ?first, stitchTarget_last d hn, rfl⟩,
    fun d cap n hn within => ⟨?sum, fun i _ => ?step, fun i _ j _ => ?even⟩, fun c k dx dy n => rfl⟩
  case positive =>
    rw [stitchTarget_of_nonneg pos, nearestPart]
    push_cast
    rw [show (mag d : Int) = d by rw [mag]; omega]
  case negative =>
    rw [stitchTarget_of_neg neg, nearestPart]
    push_cast
    rw [show (mag d : Int) = -d by rw [mag]; omega]
  case first => simpa using (sum_stitchStep d hn 0).symm
  case sum => rw [sum_stitchStep d hn, stitchTarget_last d hn]
  case step =>
    have mono := nearestPart_mono hn (mag d) i
    have most := nearestPart_succ_le hn within i
    rw [stitchStep_succ, mag]
    rcases lt_or_ge d 0 with h | h
    · rw [stitchTarget_of_neg h, stitchTarget_of_neg h]; omega
    · rw [stitchTarget_of_nonneg h, stitchTarget_of_nonneg h]
      refine ⟨by omega, fun _ => by omega, fun nonpos => ?_⟩
      obtain rfl : d = 0 := by omega
      simp [nearestPart, mag]
  case even =>
    have ij := nearestPart_step_le hn (mag d) i j
    have ji := nearestPart_step_le hn (mag d) j i
    rw [stitchStep_succ, stitchStep_succ]
    rcases lt_or_ge d 0 with h | h
    · simp only [stitchTarget_of_neg h]; omega
    · simp only [stitchTarget_of_nonneg h]; omega

/-! ## Ceilings (R60, R107) -/

/-- Pulses spaced by the interval of a burst fit any time that holds the usable time and the pulses at the least
interval. -/
theorem mul_burstInterval_le {usable window pulses imin : Nat} (fits : pulses * imin ≤ window)
    (inside : usable ≤ window) : pulses * burstInterval usable pulses imin ≤ window := by
  rw [burstInterval, ← Nat.mul_max_mul_left]
  exact max_le fits ((Nat.mul_div_le usable pulses).trans inside)

theorem usableTime_le (period width : Nat) : usableTime period width ≤ period * width / 4096 := by
  rw [usableTime]; omega

/-- At a period of at least the threshold T the pulses of an axis fit the window (R60). -/
theorem pulses_fit_window {step : Int} {k imin width period : Nat} (moves : step ≠ 0) (hw : 1 ≤ width)
    (slow : axisThreshold step k imin width ≤ period) : mag step * k * imin ≤ period * width / 4096 := by
  rw [axisThreshold, if_neg moves, ceilDiv_le_iff (by omega), Nat.mul_left_comm] at slow
  have scale : ∀ time counts : Nat, time * 32768 ≤ 7 * counts → time ≤ counts / 4096 := by omega
  exact scale _ _ slow

/-- The cap never raises a ceiling above what a threshold T allows (R60). -/
theorem ceilingOf_le {p : Params} {width cap : Nat} {sx sy : Int} {t : Nat}
    (threshold : t = max (axisThreshold sx p.kX p.iminX width) (axisThreshold sy p.kY p.iminY width)) (pos : 1 ≤ t) :
    ceilingOf p width cap sx sy ≤ 60000000 / t := by
  have uncapped : (if t = 0 then p.lineMax else min p.lineMax (60000000 / t)) ≤ 60000000 / t := by
    rw [if_neg (Nat.ne_of_gt pos)]
    exact min_le_right _ _
  unfold ceilingOf
  rw [← threshold]
  split
  · exact uncapped
  · exact (min_le_left _ _).trans uncapped

/-- At a speed up to the ceiling of a step the period is at least the threshold T of both axes (R60). -/
theorem threshold_le_period {p : Params} {width cap speed : Nat} {sx sy : Int} (turns : 1 ≤ speed)
    (slow : speed ≤ ceilingOf p width cap sx sy) :
    max (axisThreshold sx p.kX p.iminX width) (axisThreshold sy p.kY p.iminY width) ≤ 60000000 / speed := by
  generalize e : max (axisThreshold sx p.kX p.iminX width) (axisThreshold sy p.kY p.iminY width) = t
  rcases Nat.eq_zero_or_pos t with rfl | pos
  · exact Nat.zero_le _
  · rw [Nat.le_div_iff_mul_le turns, Nat.mul_comm, ← Nat.le_div_iff_mul_le pos]
    exact slow.trans (ceilingOf_le e.symm pos)

/-- Settles O34: the period at such a speed is at least the threshold of each axis, so that its pulses fit the window. -/
theorem stitchAtItsCeilingEndsInsideWindow : Obligations.StitchAtItsCeilingEndsInsideWindow := by
  intro p width cap speed sx sy hw turns slow period usable
  obtain ⟨x, y⟩ := max_le_iff.1 (threshold_le_period turns slow)
  have inside := usableTime_le period width
  exact ⟨fun moves _ => mul_burstInterval_le (pulses_fit_window moves hw x) inside,
    fun moves _ => mul_burstInterval_le (pulses_fit_window moves hw y) inside⟩

end Sys2Proof.Machine
end

section
/-! PROOFS. The expansion of an order into plan records (R41 to R55): what the Planner makes of one group, what it appends,
and the groups of each stage in order. -/

namespace Sys2Proof.Machine

/-! ## One record -/

/-- The bars lowered after a record (R45). -/
def PlanRecord.barsAfter (r : PlanRecord) (bars : BarSet) : BarSet :=
  match r with
  | .barChange t _ => t
  | _ => bars

/-- n_stitch after the record at the cursor's place (R55). -/
def Cursor.countAfter (c : Cursor) (k : PlanContext) : Nat :=
  match c.stage, k.segment with
  | .repeating, some (.stitch _ _ _) => c.groupSize k
  | _, _ => c.nStitch

theorem Cursor.advance_eq (c : Cursor) (k : PlanContext) :
    c.advance k =
      if c.place + 1 < c.groupSize k then
        { c with bars := (c.record k).barsAfter c.bars, nStitch := c.countAfter k, place := c.place + 1 }
      else { c with bars := (c.record k).barsAfter c.bars, nStitch := c.countAfter k }.nextGroup k := rfl

theorem planNext_finished {s : State} {c : Cursor} (h : c.stage = .finished) (fuel : Nat) : planNext s fuel c = none := by
  cases fuel <;> simp [planNext, h]

theorem planNext_pass {s : State} {c : Cursor} (going : c.stage ≠ .finished)
    (empty : c.groupSize (s.planContext c) = 0) (fuel : Nat) :
    planNext s (fuel + 1) c = planNext s fuel (c.pass (s.planContext c)) := by
  simp [planNext, going, empty]

theorem planNext_record {s : State} {c : Cursor} (going : c.stage ≠ .finished)
    (some_record : c.groupSize (s.planContext c) ≠ 0) :
    planNext s planFuel c = some (c.record (s.planContext c), c.advance (s.planContext c)) := by
  simp [planFuel, planNext, going, some_record]

/-- The expansion reads the parameters, the window width and the store alone. -/
theorem planNext_congr {s t : State} (same : t.planContext = s.planContext) (fuel : Nat) (c : Cursor) :
    planNext t fuel c = planNext s fuel c := by
  induction fuel generalizing c with
  | zero => rfl
  | succ fuel ih => simp only [planNext, same, ih]

/-! ## A run of records -/

/-- A run of n records, each planned from the cursor the one before it leaves. -/
theorem planned_run {s : State} {n : Nat} {cur : Nat → Cursor} {record : Nat → PlanRecord}
    (next : ∀ i < n, planNext s planFuel (cur i) = some (record i, cur (i + 1))) :
    planned s n (cur 0) = (List.range n).map record ∧ cursorAfter s n (cur 0) = cur n := by
  induction n generalizing cur record with
  | zero => exact ⟨rfl, rfl⟩
  | succ n ih =>
    obtain ⟨records, last⟩ := ih (cur := fun i => cur (i + 1)) (record := fun i => record (i + 1))
      fun i hi => next (i + 1) (by omega)
    simp only [planned, cursorAfter, next 0 n.succ_pos]
    exact ⟨by rw [records, List.range_succ_eq_map, List.map_cons, List.map_map]; rfl, last⟩

theorem planned_of_none {s : State} {c : Cursor} (h : planNext s planFuel c = none) (n : Nat) :
    planned s n c = [] ∧ cursorAfter s n c = c := by
  cases n <;> simp [planned, cursorAfter, h]

theorem planned_add (s : State) (n m : Nat) (c : Cursor) :
    planned s (n + m) c = planned s n c ++ planned s m (cursorAfter s n c)
    ∧ cursorAfter s (n + m) c = cursorAfter s m (cursorAfter s n c) := by
  induction n generalizing c with
  | zero => simp [planned, cursorAfter]
  | succ n ih =>
    rw [Nat.succ_add]
    cases e : planNext s planFuel c with
    | none => simp [planned, cursorAfter, e, planned_of_none e m]
    | some p => simpa [planned, cursorAfter, e] using ih p.2

theorem length_planned_le (s : State) (n : Nat) (c : Cursor) : (planned s n c).length ≤ n := by
  induction n generalizing c with
  | zero => simp [planned]
  | succ n ih =>
    rw [planned]
    split
    · simp
    · simpa using ih _

theorem planned_congr {s t : State} (same : t.planContext = s.planContext) (n : Nat) (c : Cursor) :
    planned t n c = planned s n c ∧ cursorAfter t n c = cursorAfter s n c := by
  induction n generalizing c with
  | zero => exact ⟨rfl, rfl⟩
  | succ n ih =>
    simp only [planned, cursorAfter, planNext_congr same]
    split <;> simp [ih]

/-! ## What is appended (R41) -/

/-- With room for n records an append of n puts the cursor's next n behind the queue. -/
theorem appendRecords_planned {s : State} {c : Cursor} {n : Nat} (at_c : s.planner.cursor = some c)
    (room : s.planner.queue.length + n ≤ 8) :
    (appendRecords n s).planner =
      { s.planner with queue := s.planner.queue ++ planned s n c, cursor := some (cursorAfter s n c) } := by
  induction n generalizing s c with
  | zero => simp [appendRecords, planned, cursorAfter, ← at_c]
  | succ n ih =>
    have space : ¬ Config.queueCapacity ≤ s.planner.queue.length := by simp only [Config.queueCapacity]; omega
    rw [appendRecords]
    cases e : planNext s planFuel c with
    | none =>
      have stays : appendRecord s = s := by simp only [appendRecord, at_c, e, if_neg space]
      rw [stays, ih at_c (by omega)]
      simp [planned, cursorAfter, e, planned_of_none e n]
    | some p =>
      have appends : appendRecord s =
          { s with planner := { s.planner with queue := s.planner.queue ++ [p.1], cursor := some p.2 } } := by
        simp only [appendRecord, at_c, e, if_neg space]
      rw [appends, ih rfl (by simp only [List.length_append, List.length_singleton]; omega)]
      obtain ⟨records, last⟩ := planned_congr (s := s)
        (t := { s with planner := { s.planner with queue := s.planner.queue ++ [p.1], cursor := some p.2 } }) rfl n p.2
      simp [planned, cursorAfter, e, records, last]

theorem removeHead_planned {s : State} {c : Cursor} (at_c : s.planner.cursor = some c)
    (room : s.planner.queue.length ≤ 8) :
    (removeHead s).planner =
      { queue := s.planner.queue.tail ++ planned s 1 c, cursor := some (cursorAfter s 1 c), headBegun := false } := by
  have short : s.planner.queue.tail.length + 1 ≤ 8 := by rw [List.length_tail]; omega
  obtain ⟨records, last⟩ := planned_congr (s := s)
    (t := { s with planner := { s.planner with queue := s.planner.queue.tail, headBegun := false } }) rfl 1 c
  rw [← records, ← last]
  exact appendRecords_planned (n := 1) at_c short

theorem removeHead_absent {s : State} (absent : s.planner.cursor = none) :
    (removeHead s).planner = { s.planner with queue := s.planner.queue.tail, headBegun := false } := by
  simp [removeHead, appendRecord, absent]

/-- An order handed over has its first eight records planned (R41). -/
theorem handToPlanner_planned {s : State} (o : OrderSpec) (empty : s.planner.queue = []) :
    (handToPlanner o s).planner =
      { queue := planned s 8 (Cursor.start o (s.store.slot o.slot))
        cursor := some (cursorAfter s 8 (Cursor.start o (s.store.slot o.slot))), headBegun := false } := by
  obtain ⟨records, last⟩ := planned_congr (s := s)
    (t := { s with planner := { s.planner with
      cursor := some (Cursor.start o (s.store.slot o.slot)), headBegun := false } })
    rfl 8 (Cursor.start o (s.store.slot o.slot))
  have appended := appendRecords_planned (n := 8) (c := Cursor.start o (s.store.slot o.slot))
    (s := { s with planner := { s.planner with
      cursor := some (Cursor.start o (s.store.slot o.slot)), headBegun := false } }) rfl (by simp [empty])
  rw [records, last] at appended
  exact appended.trans (by simp [empty])

/-! ## One group -/

/-- What follows a group does not hang on the place of its last record. -/
theorem Cursor.nextGroup_place {c : Cursor} (going : c.stage ≠ .finished) (k : PlanContext) (place : Nat) :
    { c with place := place }.nextGroup k = c.nextGroup k := by
  unfold Cursor.nextGroup
  cases e : c.stage with
  | finished => exact absurd e going
  | repeating => simp only [Cursor.afterSegment, e]
  | _ => rfl

/-- The cursor at place i of its group: `bars` the sets lowered at each place, n the count of the group's stitches. -/
def Cursor.inGroup (c : Cursor) (bars : Nat → BarSet) (n i : Nat) : Cursor :=
  { c with place := i, bars := bars i, nStitch := if i = 0 then c.nStitch else n }

/-- The cursor along a group of g records and after it. -/
def Cursor.alongGroup (c : Cursor) (bars : Nat → BarSet) (n g : Nat) (next : Cursor) (i : Nat) : Cursor :=
  if i < g then c.inGroup bars n i else next

theorem Cursor.inGroup_zero {c : Cursor} {bars : Nat → BarSet} (first : c.place = 0) (lowered : bars 0 = c.bars)
    (n : Nat) : c.inGroup bars n 0 = c := by
  rw [Cursor.inGroup, lowered, if_pos rfl, ← first]

section
variable {s : State} {c : Cursor} {bars : Nat → BarSet} {n g : Nat} (going : c.stage ≠ .finished)
  (size : ∀ i < g, (c.inGroup bars n i).groupSize (s.planContext c) = g)
  (change : ∀ i < g, ((c.inGroup bars n i).record (s.planContext c)).barsAfter (bars i) = bars (i + 1))
  (count : ∀ i < g, (c.inGroup bars n i).countAfter (s.planContext c) = n)
include going size change count

/-- Each record of a group is the one at its place, and leads to the next place or past the group. -/
theorem planNext_alongGroup {next : Cursor}
    (last : { c with place := g - 1, bars := bars g, nStitch := n }.nextGroup (s.planContext c) = next) {i : Nat}
    (hi : i < g) :
    planNext s planFuel (c.alongGroup bars n g next i) =
      some ((c.inGroup bars n i).record (s.planContext c), c.alongGroup bars n g next (i + 1)) := by
  have context : s.planContext (c.inGroup bars n i) = s.planContext c := rfl
  rw [show c.alongGroup bars n g next i = c.inGroup bars n i from if_pos hi,
    planNext_record (c := c.inGroup bars n i) going (by rw [context, size i hi]; omega), context, Cursor.advance_eq,
    size i hi, count i hi, show (c.inGroup bars n i).bars = bars i from rfl, change i hi]
  by_cases more : i + 1 < g
  · rw [if_pos (show (c.inGroup bars n i).place + 1 < g from more),
      show c.alongGroup bars n g next (i + 1) = c.inGroup bars n (i + 1) from if_pos more]
    rfl
  · obtain rfl : i = g - 1 := by omega
    rw [if_neg (show ¬ (c.inGroup bars n (g - 1)).place + 1 < g from more),
      show c.alongGroup bars n g next (g - 1 + 1) = next from if_neg more, ← last, Nat.sub_add_cancel (by omega)]
    rfl

/-- A group of g records is planned as a whole, its bars and its count followed from place to place. -/
theorem planned_group (first : c.place = 0) (some_record : 1 ≤ g) (lowered : bars 0 = c.bars) :
    planned s g c = (List.range g).map (fun i => (c.inGroup bars n i).record (s.planContext c))
    ∧ cursorAfter s g c = { c with bars := bars g, nStitch := n }.nextGroup (s.planContext c) := by
  obtain ⟨records, last⟩ := planned_run fun i hi => planNext_alongGroup going size change count rfl (i := i) hi
  have start : ∀ next, c.alongGroup bars n g next 0 = c := fun next =>
    (if_pos some_record).trans (Cursor.inGroup_zero first lowered n)
  rw [start] at records last
  refine ⟨records, (last.trans (if_neg (Nat.lt_irrefl g))).trans ?_⟩
  exact Cursor.nextGroup_place (c := { c with bars := bars g, nStitch := n }) going _ (g - 1)

end

end Sys2Proof.Machine
end

section
/-! PROOFS. The groups of each stage (R47, R49 to R55): what every group records and where the cursor stands after it. -/

namespace Sys2Proof.Machine

/-! ## Tie tacks and stops -/

/-- A tie tack of some bars at a place of the cursor's group (R50). -/
def Cursor.tackAt (c : Cursor) (k : PlanContext) (bars : BarSet) (place : Nat) (last : Bool) : PlanRecord :=
  .tack ⟨0, 0, bars, ceilingOf k.params k.width c.cap 0 0, ⟨c.order.orderId, c.repeatNo, c.segment, place⟩⟩ last

/-- A run of n tie tacks from a place on, the last of them flagged (R50). -/
def Cursor.tacks (c : Cursor) (k : PlanContext) (bars : BarSet) (place n : Nat) : List PlanRecord :=
  (List.range n).map fun j => c.tackAt k bars (place + j) (decide (j + 1 = n))

/-- A stop inside the panel (R49): tie tacks of the old bars, the stop, and as many tie tacks of the new bars. -/
def Cursor.around (c : Cursor) (k : PlanContext) (stop : List PlanRecord) (bars : BarSet) : List PlanRecord :=
  ((List.range c.order.tack).map fun j => c.tackAt k c.bars j false) ++ stop
    ++ c.tacks k bars (c.order.tack + stop.length) c.order.tack

/-- The bars of a group in which the record at a place sets new ones. -/
def changesAt (place : Nat) (old new : BarSet) (i : Nat) : BarSet := if i ≤ place then old else new

@[simp] theorem changesAt_zero (place : Nat) (old new : BarSet) : changesAt place old new 0 = old := if_pos place.zero_le
theorem changesAt_le {place i : Nat} (old new : BarSet) (h : i ≤ place) : changesAt place old new i = old := if_pos h
theorem changesAt_gt {place i : Nat} (old new : BarSet) (h : place < i) : changesAt place old new i = new :=
  if_neg (by omega)

/-- Away from that place the bars stand. -/
theorem changesAt_succ {place i : Nat} (old new : BarSet) (h : i ≠ place) :
    changesAt place old new (i + 1) = changesAt place old new i := by
  rcases Nat.lt_or_gt_of_ne h with lt | gt
  · rw [changesAt_le old new lt, changesAt_le old new lt.le]
  · rw [changesAt_gt old new gt, changesAt_gt old new (by omega)]

/-- A stop of j records between two runs of t, record by record. -/
theorem map_range_around {α : Type} {f before after : Nat → α} {t j : Nat} {stop : List α}
    (front : ∀ i < t, f i = before i) (middle : (List.range j).map (fun m => f (t + m)) = stop)
    (back : ∀ i < t, f (t + j + i) = after i) :
    (List.range (2 * t + j)).map f = (List.range t).map before ++ stop ++ (List.range t).map after := by
  rw [show 2 * t + j = t + j + t by omega, List.range_add, List.range_add, List.map_append, List.map_append,
    List.map_map, List.map_map]
  refine congrArg₂ _ (congrArg₂ _ (List.map_congr_left fun i hi => ?_) middle) (List.map_congr_left fun i hi => ?_)
  · exact front i (List.mem_range.1 hi)
  · exact back i (List.mem_range.1 hi)

/-! ## The groups of a stage -/

section
variable {c : Cursor} {k : PlanContext}

/-- Outside the stitches of a STITCH segment n_stitch stands. -/
theorem Cursor.inGroup_countAfter (h : c.stage ≠ .repeating ∨ ∀ dx dy len, k.segment ≠ some (.stitch dx dy len))
    (bars : Nat → BarSet) (i : Nat) : (c.inGroup bars c.nStitch i).countAfter k = c.nStitch := by
  unfold Cursor.countAfter
  split
  · rename_i stage segment
    exact (h.elim (fun other => other stage) fun plain => plain _ _ _ segment).elim
  · simp [Cursor.inGroup]

theorem Cursor.nextGroup_repeating (h : c.stage = .repeating) : c.nextGroup k = c.afterSegment k.slot.segmentCount := by
  simp [Cursor.nextGroup, h]

theorem Cursor.nextGroup_between (h : c.stage = .between) :
    c.nextGroup k = { c with stage := .repeating, repeatNo := c.repeatNo + 1, segment := 0, place := 0 } := by
  simp [Cursor.nextGroup, h]

theorem Cursor.nextGroup_closing (h : c.stage = .closing) : c.nextGroup k = { c with stage := .finished, place := 0 } := by
  simp [Cursor.nextGroup, h]

end

section
variable {s : State} {c : Cursor} (first : c.place = 0)
include first

/-- A group that is a stop between its tie tacks, the last of its stop's records setting the new bars (R49). -/
theorem planned_stop {stop : List PlanRecord} {new : BarSet} {bars : Nat → BarSet} (going : c.stage ≠ .finished)
    (plain : c.stage ≠ .repeating ∨ ∀ dx dy len, (s.planContext c).segment ≠ some (.stitch dx dy len))
    (some_record : 1 ≤ stop.length) (lowered : bars = changesAt (c.order.tack + stop.length - 1) c.bars new)
    (size : ∀ i, (c.inGroup bars c.nStitch i).groupSize (s.planContext c) = 2 * c.order.tack + stop.length)
    (tack : ∀ i, i < c.order.tack ∨ c.order.tack + stop.length ≤ i →
      (c.inGroup bars c.nStitch i).record (s.planContext c) =
        c.tackAt (s.planContext c) (bars i) i (decide (i + 1 = 2 * c.order.tack + stop.length)))
    (stands : ∀ (m : Nat) (h : m < stop.length),
      (c.inGroup bars c.nStitch (c.order.tack + m)).record (s.planContext c) = stop[m]
      ∧ stop[m].barsAfter c.bars = if m + 1 = stop.length then new else c.bars) :
    planned s (2 * c.order.tack + stop.length) c = c.around (s.planContext c) stop new
    ∧ cursorAfter s (2 * c.order.tack + stop.length) c =
        { c with bars := new }.nextGroup (s.planContext c) := by
  have change : ∀ i < 2 * c.order.tack + stop.length,
      ((c.inGroup bars c.nStitch i).record (s.planContext c)).barsAfter (bars i) = bars (i + 1) := by
    intro i hi
    by_cases outside : i < c.order.tack ∨ c.order.tack + stop.length ≤ i
    · rw [tack i outside, lowered, changesAt_succ _ _ (by omega)]
      rfl
    · obtain ⟨m, rfl⟩ : ∃ m, i = c.order.tack + m := ⟨i - c.order.tack, by omega⟩
      obtain ⟨here, sets⟩ := stands m (by omega)
      rw [here, lowered, changesAt_le _ _ (show c.order.tack + m ≤ _ by omega), sets]
      split
      · rw [changesAt_gt _ _ (by omega)]
      · rw [changesAt_le _ _ (by omega)]
  obtain ⟨records, last⟩ := planned_group going (fun i _ => size i) change
    (fun i _ => Cursor.inGroup_countAfter plain bars i) first (by omega) (by rw [lowered, changesAt_zero])
  rw [records, last, lowered, changesAt_gt _ _ (show _ < 2 * c.order.tack + stop.length by omega), ← lowered]
  refine ⟨map_range_around (fun i hi => ?_) ?_ fun i hi => ?_, rfl⟩
  · rw [tack i (.inl hi), lowered, changesAt_le _ _ (by omega), decide_eq_false (by omega)]
  · refine List.ext_getElem (by simp) fun m hm h => ?_
    simpa using (stands m h).1
  · rw [tack _ (.inr (by omega)), lowered, changesAt_gt _ _ (by omega)]
    congr 1
    simp only [decide_eq_decide]; omega

end

/-! ## The segments of a repeat -/

section
variable {s : State} {c : Cursor} (first : c.place = 0) (repeating : c.stage = .repeating)
include first repeating

theorem planned_jump {dx dy : Int} (segment : (s.planContext c).segment = some (.jump dx dy)) :
    planned s (2 * c.order.tack + 1) c = c.around (s.planContext c)
      [.feed .jump dx dy ⟨c.order.orderId, c.repeatNo, c.segment, c.order.tack⟩] c.bars
    ∧ cursorAfter s (2 * c.order.tack + 1) c = c.nextGroup (s.planContext c) := by
  have record : ∀ bars i, (c.inGroup bars c.nStitch i).record (s.planContext c) =
      if i = c.order.tack then .feed .jump dx dy ⟨c.order.orderId, c.repeatNo, c.segment, i⟩
      else c.tackAt (s.planContext c) (bars i) i (decide (i = 2 * c.order.tack)) := fun bars i => by
    simp only [Cursor.record, Cursor.inGroup, repeating, segment]
    rfl
  refine planned_stop first (stop := [_]) (by simp [repeating]) (.inr (by simp [segment])) le_rfl rfl
    (fun i => by simp only [Cursor.groupSize, Cursor.inGroup, repeating, segment]; rfl) (fun i outside => ?_)
    fun m h => ?_
  · rw [List.length_singleton] at outside
    rw [record, if_neg (by omega)]
    simp
  · obtain rfl : m = 0 := by simpa using h
    simp [record, PlanRecord.barsAfter]

theorem planned_bars {set : BarSet} (segment : (s.planContext c).segment = some (.bars set)) :
    planned s (2 * c.order.tack + 1) c = c.around (s.planContext c)
      [.barChange (set.inter c.order.barMask) ⟨c.order.orderId, c.repeatNo, c.segment, c.order.tack⟩]
      (set.inter c.order.barMask)
    ∧ cursorAfter s (2 * c.order.tack + 1) c =
        { c with bars := set.inter c.order.barMask }.nextGroup (s.planContext c) := by
  have record : ∀ bars i, (c.inGroup bars c.nStitch i).record (s.planContext c) =
      if i = c.order.tack then .barChange (set.inter c.order.barMask) ⟨c.order.orderId, c.repeatNo, c.segment, i⟩
      else c.tackAt (s.planContext c) (bars i) i (decide (i = 2 * c.order.tack)) := fun bars i => by
    simp only [Cursor.record, Cursor.inGroup, repeating, segment]
    rfl
  refine planned_stop first (stop := [_]) (by simp [repeating]) (.inr (by simp [segment])) le_rfl rfl
    (fun i => by simp only [Cursor.groupSize, Cursor.inGroup, repeating, segment]; rfl) (fun i outside => ?_)
    fun m h => ?_
  · rw [List.length_singleton] at outside
    rw [record, if_neg (by omega)]
    simp
  · obtain rfl : m = 0 := by simpa using h
    simp [record, PlanRecord.barsAfter]

theorem planned_tack {n : Nat} (segment : (s.planContext c).segment = some (.tack n)) (one : 1 ≤ n) :
    planned s n c = c.tacks (s.planContext c) c.bars 0 n
    ∧ cursorAfter s n c = c.nextGroup (s.planContext c) := by
  have record : ∀ i, (c.inGroup (fun _ => c.bars) c.nStitch i).record (s.planContext c) =
      c.tackAt (s.planContext c) c.bars i (decide (i + 1 = n)) := fun i => by
    simp only [Cursor.record, Cursor.inGroup, repeating, segment]
    rfl
  have size : ∀ i, (c.inGroup (fun _ => c.bars) c.nStitch i).groupSize (s.planContext c) = n := fun i => by
    simp only [Cursor.groupSize, Cursor.inGroup, repeating, segment]
  obtain ⟨records, last⟩ := planned_group (bars := fun _ => c.bars) (by simp [repeating])
    (fun i _ => size i) (fun i _ => by rw [record]; rfl)
    (fun i _ => Cursor.inGroup_countAfter (.inr (by simp [segment])) _ i) first one rfl
  exact ⟨by simp only [records, record, Cursor.tacks, Nat.zero_add], last⟩

theorem planned_stitch {dx dy : Int} {len n : Nat} (segment : (s.planContext c).segment = some (.stitch dx dy len))
    (count : n = stitchCount dx dy (if len = 0 then c.order.stitchLen else len) s.params.capX s.params.capY) :
    planned s n c = (List.range n).map (fun j => { c with place := j }.stitch (s.planContext c) dx dy n)
    ∧ cursorAfter s n c = { c with nStitch := n }.nextGroup (s.planContext c) := by
  have size : ∀ i, (c.inGroup (fun _ => c.bars) n i).groupSize (s.planContext c) = n := fun i => by
    simp only [Cursor.groupSize, Cursor.inGroup, repeating, segment]
    split
    · exact count.symm
    · rfl
  have record : ∀ i, (c.inGroup (fun _ => c.bars) n i).record (s.planContext c) =
      { c with place := i }.stitch (s.planContext c) dx dy n := fun i => by
    rw [Cursor.record]
    simp only [size, segment, show (c.inGroup (fun _ => c.bars) n i).stage = .repeating from repeating]
    rfl
  have kept : ∀ i, (c.inGroup (fun _ => c.bars) n i).countAfter (s.planContext c) = n := fun i => by
    simp only [Cursor.countAfter, show (c.inGroup (fun _ => c.bars) n i).stage = .repeating from repeating, segment,
      size]
  obtain ⟨records, last⟩ := planned_group (bars := fun _ => c.bars) (by simp [repeating]) (fun i _ => size i)
    (fun i _ => by rw [record]; rfl) (fun i _ => kept i) first (by rw [count]; exact le_max_left _ _) rfl
  exact ⟨by simp only [records, record], last⟩

omit first in
/-- A SPEED segment makes no record: its cap is set and the walk goes on (R46). -/
theorem planNext_speed {cap : Nat} (segment : (s.planContext c).segment = some (.speed cap)) (fuel : Nat) :
    planNext s (fuel + 1) c = planNext s fuel ({ c with cap := cap }.nextGroup (s.planContext c)) := by
  rw [planNext_pass (by simp [repeating]) (by simp only [Cursor.groupSize, repeating, segment])]
  simp only [Cursor.pass, repeating, segment]

end

/-! ## Between two repeats -/

section
variable {s : State} {c : Cursor} (first : c.place = 0) (between : c.stage = .between)
include first between

theorem planned_join (apart : c.atClose.continuous = false) :
    planned s (2 * c.order.tack + 2) c = c.around (s.planContext c)
      [.feed .join (-c.atClose.endDx) ((s.store.slot c.order.slot).pitch - c.atClose.endDy)
        ⟨c.order.orderId, c.repeatNo, c.segment, c.order.tack⟩,
       .barChange (c.initial (s.planContext c)) ⟨c.order.orderId, c.repeatNo, c.segment, c.order.tack + 1⟩]
      (c.initial (s.planContext c))
    ∧ cursorAfter s (2 * c.order.tack + 2) c =
        { c with bars := c.initial (s.planContext c) }.nextGroup (s.planContext c) := by
  have record : ∀ bars i, (c.inGroup bars c.nStitch i).record (s.planContext c) =
      if i = c.order.tack then
        .feed .join (-c.atClose.endDx) ((s.store.slot c.order.slot).pitch - c.atClose.endDy)
          ⟨c.order.orderId, c.repeatNo, c.segment, i⟩
      else if i = c.order.tack + 1 then
        .barChange (c.initial (s.planContext c)) ⟨c.order.orderId, c.repeatNo, c.segment, i⟩
      else c.tackAt (s.planContext c) (bars i) i (decide (i = 2 * c.order.tack + 1)) := fun bars i => by
    simp only [Cursor.record, Cursor.inGroup, between, apart]
    rfl
  refine planned_stop first (stop := [_, _]) (by simp [between]) (.inl (by simp [between])) (Nat.le_add_left 1 1) rfl
    (fun i => by simp only [Cursor.groupSize, Cursor.inGroup, between, apart]; rfl) (fun i outside => ?_)
    fun m h => ?_
  · simp only [List.length_cons, List.length_nil] at outside
    rw [record, if_neg (by omega), if_neg (by omega)]
    simp
  · simp only [List.length_cons, List.length_nil] at h
    obtain rfl | rfl : m = 0 ∨ m = 1 := by omega
    · simp [record, PlanRecord.barsAfter]
    · simp [record, PlanRecord.barsAfter]

variable (joined : c.atClose.continuous = true)
include joined

theorem planned_rebar (differ : c.bars ≠ c.initial (s.planContext c)) :
    planned s (2 * c.order.tack + 1) c = c.around (s.planContext c)
      [.barChange (c.initial (s.planContext c)) ⟨c.order.orderId, c.repeatNo, c.segment, c.order.tack⟩]
      (c.initial (s.planContext c))
    ∧ cursorAfter s (2 * c.order.tack + 1) c =
        { c with bars := c.initial (s.planContext c) }.nextGroup (s.planContext c) := by
  have record : ∀ bars i, (c.inGroup bars c.nStitch i).record (s.planContext c) =
      if i = c.order.tack then
        .barChange (c.initial (s.planContext c)) ⟨c.order.orderId, c.repeatNo, c.segment, i⟩
      else c.tackAt (s.planContext c) (bars i) i (decide (i = 2 * c.order.tack)) := fun bars i => by
    simp only [Cursor.record, Cursor.inGroup, between, joined]
    rfl
  refine planned_stop first (stop := [_]) (by simp [between]) (.inl (by simp [between])) le_rfl rfl
    (fun i => ?_) (fun i outside => ?_) fun m h => ?_
  · have changes : ¬ (i = 0 ∧ changesAt (c.order.tack + 1 - 1) c.bars (c.initial (s.planContext c)) i =
        c.initial (s.planContext c)) := by
      rintro ⟨rfl, same⟩
      exact differ (by simpa using same)
    simp only [Cursor.groupSize, Cursor.inGroup, between, joined]
    exact if_neg changes
  · rw [List.length_singleton] at outside
    rw [record, if_neg (by omega)]
    simp
  · obtain rfl : m = 0 := by simpa using h
    simp [record, PlanRecord.barsAfter]

/-- Between the repeats of a continuous pattern whose sets agree nothing is planned (R52). -/
theorem planNext_joined (agree : c.bars = c.initial (s.planContext c)) (fuel : Nat) :
    planNext s (fuel + 1) c = planNext s fuel (c.nextGroup (s.planContext c)) := by
  rw [planNext_pass (by simp [between]) (by simp [Cursor.groupSize, between, joined, first, agree])]
  simp only [Cursor.pass, between]

end

/-! ## The closing and the opening -/

section
variable {s : State} {c : Cursor} (first : c.place = 0)
include first

theorem planned_closing (closing : c.stage = .closing) :
    planned s (c.order.tack + 3) c = c.tacks (s.planContext c) c.bars 0 c.order.tack
      ++ [.feed .leadOut 0 c.order.leadOut ⟨c.order.orderId, c.repeatNo, c.segment, c.order.tack⟩,
          .endMark ⟨c.order.orderId, c.repeatNo, c.segment, c.order.tack + 1⟩,
          .feed .gap 0 c.order.gap ⟨c.order.orderId, c.repeatNo, c.segment, c.order.tack + 2⟩]
    ∧ cursorAfter s (c.order.tack + 3) c = c.nextGroup (s.planContext c) := by
  have record : ∀ i, (c.inGroup (fun _ => c.bars) c.nStitch i).record (s.planContext c) =
      if i < c.order.tack then c.tackAt (s.planContext c) c.bars i (decide (i + 1 = c.order.tack))
      else if i = c.order.tack then .feed .leadOut 0 c.order.leadOut ⟨c.order.orderId, c.repeatNo, c.segment, i⟩
      else if i = c.order.tack + 1 then .endMark ⟨c.order.orderId, c.repeatNo, c.segment, i⟩
      else .feed .gap 0 c.order.gap ⟨c.order.orderId, c.repeatNo, c.segment, i⟩ := fun i => by
    simp only [Cursor.record, Cursor.inGroup, closing]
    rfl
  have size : ∀ i, (c.inGroup (fun _ => c.bars) c.nStitch i).groupSize (s.planContext c) = c.order.tack + 3 :=
    fun i => by simp only [Cursor.groupSize, Cursor.inGroup, closing]
  have stands : ∀ i, ((c.inGroup (fun _ => c.bars) c.nStitch i).record (s.planContext c)).barsAfter c.bars = c.bars :=
    fun i => by rw [record]; split_ifs <;> rfl
  obtain ⟨records, last⟩ := planned_group (bars := fun _ => c.bars) (by simp [closing]) (fun i _ => size i)
    (fun i _ => stands i) (fun i _ => Cursor.inGroup_countAfter (.inl (by simp [closing])) _ i) first
    (Nat.le_add_left 1 _) rfl
  refine ⟨?_, last⟩
  rw [records, List.range_add, List.map_append, List.map_map]
  refine congrArg₂ _ (List.map_congr_left fun i hi => ?_) ?_
  · rw [record, if_pos (List.mem_range.1 hi), Nat.zero_add]
  · simp [List.range_succ, record]

theorem planned_opening (opening : c.stage = .opening) (lowered : c.bars = c.initial (s.planContext c)) {g : Nat}
    (size : g = if c.order.onMark then 3 else 2) :
    planned s g c = (List.range g).map (fun i =>
      if c.order.onMark = true ∧ i = 0 then .feed .markSearch 0 0 ⟨c.order.orderId, c.repeatNo, c.segment, i⟩
      else if i + 2 = g then .feed (.leadIn ((s.store.slot c.order.slot).startX + c.order.xOffset)) 0 c.order.leadIn
        ⟨c.order.orderId, c.repeatNo, c.segment, i⟩
      else .barChange c.bars ⟨c.order.orderId, c.repeatNo, c.segment, i⟩)
    ∧ cursorAfter s g c = c.nextGroup (s.planContext c) := by
  have groupSize : ∀ i, (c.inGroup (fun _ => c.bars) c.nStitch i).groupSize (s.planContext c) = g := fun i => by
    simp only [Cursor.groupSize, Cursor.inGroup, opening, size]
  have record : ∀ i, (c.inGroup (fun _ => c.bars) c.nStitch i).record (s.planContext c) =
      if c.order.onMark = true ∧ i = 0 then .feed .markSearch 0 0 ⟨c.order.orderId, c.repeatNo, c.segment, i⟩
      else if i + 2 = g then .feed (.leadIn ((s.store.slot c.order.slot).startX + c.order.xOffset)) 0 c.order.leadIn
        ⟨c.order.orderId, c.repeatNo, c.segment, i⟩
      else .barChange c.bars ⟨c.order.orderId, c.repeatNo, c.segment, i⟩ := fun i => by
    rw [Cursor.record]
    simp only [groupSize, show (c.inGroup (fun _ => c.bars) c.nStitch i).stage = .opening from opening]
    rw [lowered]
    rfl
  have stands : ∀ i, ((c.inGroup (fun _ => c.bars) c.nStitch i).record (s.planContext c)).barsAfter c.bars = c.bars :=
    fun i => by rw [record]; split_ifs <;> rfl
  obtain ⟨records, last⟩ := planned_group (bars := fun _ => c.bars) (by simp [opening]) (fun i _ => groupSize i)
    (fun i _ => stands i) (fun i _ => Cursor.inGroup_countAfter (.inl (by simp [opening])) _ i) first
    (by rw [size]; split <;> decide) rfl
  exact ⟨by simp only [records, record], last⟩

end

/-- Settles O31: the opening and each group by its own rule, the appends by the cursor's next records. -/
theorem planGroupsInOrder : Obligations.PlanGroupsInOrder := by
  refine ⟨fun o s empty => ?opening, fun c s first => ?groups, fun s room => ?appends⟩
  case opening =>
    intro r ref opening whole start
    have size : whole.length = if o.onMark then 3 else 2 := by
      simp only [whole]; split <;> rfl
    obtain ⟨records, after⟩ := planned_opening (s := s) (c := start) rfl rfl rfl size
    have records : planned s whole.length start = whole := by
      rw [records]
      simp only [size, start, whole, opening]
      cases mark : o.onMark <;> simp [List.range_succ, ref, r]
    have handed := handToPlanner_planned (s := s) o empty
    obtain ⟨more, -⟩ := planned_add s whole.length (8 - whole.length) start
    rw [show whole.length + (8 - whole.length) = 8 by rw [size]; split <;> rfl, records] at more
    have queue : (handToPlanner o s).planner.queue = planned s 8 start := by rw [handed]; rfl
    refine ⟨?_, ?_, queue, by rw [handed]; rfl, ?_⟩
    · rw [queue, more, List.take_left]
    · rw [queue]; exact length_planned_le s 8 start
    · rw [after]; rfl
  case groups =>
    intro o r segment initial ref ceiling tack tacks around plans nextSegment nextRepeat
    have toSegment : c.stage = .repeating → ∀ bars n,
        { c with bars := bars, nStitch := n }.nextGroup (s.planContext c) = nextSegment bars n :=
      fun repeating bars n => Cursor.nextGroup_repeating (c := { c with bars := bars, nStitch := n }) repeating
    have toRepeat : c.stage = .between →
        { c with bars := initial }.nextGroup (s.planContext c) = nextRepeat :=
      fun between => Cursor.nextGroup_between (c := { c with bars := initial }) between
    refine ⟨fun repeating => ⟨fun dx dy here => ?jump, fun set here => ?bars, fun n here one => ?tack,
      fun dx dy len here => ?stitch, fun cap here fuel => ?speed⟩, fun between => ⟨fun apart => ?join,
      fun joined differ => ?rebar, fun joined agree fuel => ?joined⟩, fun closing more => ?closing⟩
    case jump =>
      rw [← toSegment repeating]
      exact planned_jump first repeating here
    case bars =>
      rw [← toSegment repeating]
      exact planned_bars first repeating here
    case tack =>
      rw [← toSegment repeating]
      exact planned_tack first repeating here one
    case stitch =>
      intro n
      rw [← toSegment repeating]
      exact planned_stitch first repeating here rfl
    case speed =>
      refine (planNext_speed repeating here fuel).trans ?_
      rw [Cursor.nextGroup_repeating (c := { c with cap := cap }) repeating]
      simp only [Cursor.afterSegment, first]
      rfl
    case join =>
      rw [← toRepeat between]
      exact planned_join first between apart
    case rebar =>
      rw [← toRepeat between]
      exact planned_rebar first between joined differ
    case joined =>
      refine (planNext_joined first between joined agree fuel).trans ?_
      rw [Cursor.nextGroup_between between, ← first]
    case closing =>
      obtain ⟨records, after⟩ := planned_closing (s := s) first closing
      rw [Cursor.nextGroup_closing closing] at after
      obtain ⟨rest, last⟩ := planned_add s (o.tack + 3) more c
      rw [after] at rest last
      obtain ⟨none, stays⟩ := planned_of_none (s := s)
        (c := { c with stage := .finished, place := 0 }) (planNext_finished rfl planFuel) more
      rw [none, List.append_nil] at rest
      exact ⟨rest.trans records, last.trans stays⟩
  case appends =>
    refine ⟨fun c at_c => ?_, fun absent => by rw [removeHead_absent absent], ?_⟩
    · rw [removeHead_planned at_c room]
      exact ⟨rfl, rfl⟩
    · obtain ⟨p, g, removed, -, begun⟩ := removeHead_frame s
      rw [removed]
      exact begun

end Sys2Proof.Machine
end

section
/-! PROOFS. The Plan Queue and the cursor of the ACTIVE order (R37, R42, R53, R54) under an append, the removal of the
head, the take of an order and its end. -/

namespace Sys2Proof.Machine

/-! ## One record planned -/

/-- A record planned is one of a group of the cursor's order, and leaves the cursor that follows it. -/
theorem planNext_some {s : State} {fuel : Nat} {c d : Cursor} {r : PlanRecord} (h : planNext s fuel c = some (r, d)) :
    ∃ e : Cursor, e.order = c.order ∧ r = e.record (s.planContext e) ∧ d = e.advance (s.planContext e) := by
  induction fuel generalizing c with
  | zero => cases h
  | succ fuel ih =>
    simp only [planNext] at h
    split at h
    · cases h
    · split at h
      · obtain ⟨e, order, record, after⟩ := ih h
        exact ⟨e, by rw [order, Cursor.pass_order], record, after⟩
      · cases h
        exact ⟨c, rfl, rfl, rfl⟩

/-- Every record of a group carries the cursor's reference (R43). -/
theorem Cursor.record_ref (c : Cursor) (k : PlanContext) : (c.record k).ref = c.ref := by
  unfold Cursor.record
  dsimp only
  repeat' split
  all_goals rfl

/-- A GAP is the last record of the closing group (R53). -/
theorem Cursor.closing_of_isGap {c : Cursor} {k : PlanContext} (gap : (c.record k).isGap = true) :
    c.stage = .closing ∧ c.order.tack + 2 ≤ c.place := by
  cases stage : c.stage with
  | closing =>
    refine ⟨rfl, ?_⟩
    by_contra short
    simp only [Cursor.record, stage] at gap
    split_ifs at gap
    · cases gap
    · cases gap
    · cases gap
    · omega
  | _ =>
    simp only [Cursor.record, stage] at gap
    repeat' split at gap
    all_goals cases gap

/-- After a GAP nothing is left to plan (R42, R53). -/
theorem Cursor.advance_of_isGap {c : Cursor} {k : PlanContext} (gap : (c.record k).isGap = true) :
    (c.advance k).stage = .finished := by
  obtain ⟨stage, place⟩ := Cursor.closing_of_isGap gap
  rw [Cursor.advance_eq, if_neg (by simp only [Cursor.groupSize, stage]; omega)]
  simp only [Cursor.nextGroup, stage]

/-! ## The plan of an order -/

/-- The Plan Queue and the cursor of an order, or of none (R37, R42, R54). -/
structure Planner.Plans (p : Planner) (o : Option OrderSpec) : Prop where
  room : p.queue.length ≤ 8
  order : p.cursor.map Cursor.order = o
  refs : ∀ r ∈ p.queue, o.map OrderSpec.orderId = some r.ref.orderId
  gapLast : p.queue.dropLast.any PlanRecord.isGap = false
  gapDone : p.queue.any PlanRecord.isGap = true → p.cursor.map Cursor.stage = some .finished

/-- With the ACTIVE order at the head, PlanShape is the plan of that order. -/
theorem planShape_iff (s : State) :
    PlanShape s ↔
      activeAtHead s.schedule.orders = true ∧ s.planner.Plans (s.schedule.orders.head?.map Order.spec) := by
  constructor
  · rintro ⟨head, room, order, -, refs, gapLast, gapDone⟩
    rw [Schedule.activeOrder, find?_active head] at order refs
    exact ⟨head, room, order, by simpa [Function.comp_def] using refs, gapLast, gapDone⟩
  · rintro ⟨head, room, order, refs, gapLast, gapDone⟩
    have active : s.schedule.activeOrder = s.schedule.orders.head? := find?_active head
    refine ⟨head, room, by rw [active]; exact order, fun idle => ?_, ?_, gapLast, gapDone⟩
    · refine List.eq_nil_iff_forall_not_mem.2 fun r hr => ?_
      have absent : s.schedule.orders.head? = none := by simpa [State.orderActive, active] using idle
      simpa [absent] using refs r hr
    · rw [active]
      simpa [Function.comp_def] using refs

/-- A queue at its GAP holds that record alone. -/
theorem Planner.Plans.tail_of_gap {p : Planner} {o : Option OrderSpec} (h : p.Plans o) (gap : p.headIsGap = true) :
    p.queue.tail = [] ∧ p.cursor.map Cursor.stage = some .finished := by
  have gapLast := h.gapLast
  have gapDone := h.gapDone
  unfold Planner.headIsGap Planner.head at gap
  split at gap
  · rename_i dx dy r head
    obtain ⟨rest, queue⟩ := List.head?_eq_some_iff.1 head
    rw [queue] at gapLast gapDone ⊢
    refine ⟨?_, gapDone (by simp [PlanRecord.isGap])⟩
    cases rest with
    | nil => rfl
    | cons x xs => simp [PlanRecord.isGap] at gapLast
  · cases gap

/-- The head leaves the queue (R37). -/
theorem Planner.Plans.tail {p : Planner} {o : Option OrderSpec} (h : p.Plans o) :
    { p with queue := p.queue.tail, headBegun := false }.Plans o := by
  obtain ⟨room, order, refs, gapLast, gapDone⟩ := h
  refine ⟨by rw [List.length_tail]; omega, order, fun r hr => refs r (List.mem_of_mem_tail hr), ?_, fun gap => gapDone ?_⟩
  · rw [List.any_eq_false] at gapLast ⊢
    intro r hr
    rw [← List.tail_dropLast] at hr
    exact gapLast r (List.mem_of_mem_tail hr)
  · rw [List.any_eq_true] at gap ⊢
    obtain ⟨r, hr, isGap⟩ := gap
    exact ⟨r, List.mem_of_mem_tail hr, isGap⟩

/-! ## An append (R41) -/

/-- An append leaves the Planner alone, or puts the cursor's next record behind the queue. -/
theorem appendRecord_cases (s : State) :
    appendRecord s = s ∨ ∃ c r d, s.planner.cursor = some c ∧ s.planner.queue.length < 8
      ∧ planNext s planFuel c = some (r, d)
      ∧ appendRecord s = { s with planner := { s.planner with queue := s.planner.queue ++ [r], cursor := some d } } := by
  unfold appendRecord
  split
  · exact .inl rfl
  · rename_i c at_c
    split
    · exact .inl rfl
    · rename_i room
      split
      · exact .inl rfl
      · rename_i r d next
        exact .inr ⟨c, r, d, at_c, by simpa [Config.queueCapacity] using room, next, rfl⟩

theorem Planner.Plans.append {s : State} {o : Option OrderSpec} (h : s.planner.Plans o) :
    (appendRecord s).planner.Plans o := by
  obtain ⟨-, order, refs, gapLast, gapDone⟩ := id h
  rcases appendRecord_cases s with same | ⟨c, r, d, at_c, room, next, appended⟩
  · rwa [same]
  obtain ⟨e, sameOrder, rfl, rfl⟩ := planNext_some next
  have gapless : s.planner.queue.any PlanRecord.isGap = false := by
    by_contra gap
    have done := gapDone (by simpa using gap)
    rw [at_c, Option.map_some, Option.some.injEq] at done
    rw [planNext_finished done] at next
    cases next
  rw [at_c, Option.map_some] at order
  rw [appended]
  refine ⟨by simpa using room, by simp [Cursor.advance_order, sameOrder, ← order], fun r hr => ?_, ?_, fun gap => ?_⟩
  · rcases List.mem_append.1 hr with old | new
    · exact refs r old
    · rw [List.mem_singleton.1 new, Cursor.record_ref, ← order]
      simp [Cursor.ref, sameOrder]
  · simpa using gapless
  · rw [List.any_append, gapless] at gap
    simpa using Cursor.advance_of_isGap (by simpa using gap)

theorem Planner.Plans.appends {s : State} {o : Option OrderSpec} (h : s.planner.Plans o) (n : Nat) :
    (appendRecords n s).planner.Plans o := by
  induction n generalizing s with
  | zero => exact h
  | succ n ih => exact ih h.append

/-! ## The head leaves, an order is handed over, an order ends -/

theorem Planner.Plans.removeHead {s : State} {o : Option OrderSpec} (h : s.planner.Plans o) :
    (removeHead s).planner.Plans o :=
  Planner.Plans.append (s := { s with planner := { s.planner with queue := s.planner.queue.tail, headBegun := false } })
    h.tail

/-- With a GAP at the head its removal empties the queue. -/
theorem Planner.Plans.removeGap {s : State} {o : Option OrderSpec} (h : s.planner.Plans o)
    (gap : s.planner.headIsGap = true) : (Machine.removeHead s).planner.queue = [] := by
  obtain ⟨empty, done⟩ := h.tail_of_gap gap
  obtain ⟨c, at_c, finished⟩ := Option.map_eq_some_iff.1 done
  rw [removeHead_planned at_c h.room, empty]
  simp [planned, planNext_finished finished]

theorem handToPlanner_plans {s : State} (o : OrderSpec) (empty : s.planner.queue = []) :
    (handToPlanner o s).planner.Plans (some o) := by
  refine Planner.Plans.appends (n := Config.queueCapacity) (s := { s with planner := { s.planner with
    cursor := some (Cursor.start o (s.store.slot o.slot)), headBegun := false } }) ?_
  exact ⟨by simp [empty], rfl, by simp [empty], by simp [empty], by simp [empty]⟩

theorem takeNext_planShape {s : State} (queued : ∀ x ∈ s.schedule.orders, x.state = .queued)
    (empty : s.planner.queue = []) (absent : s.planner.cursor = none) : PlanShape (takeNext s) := by
  have idle : s.orderActive = false := by
    simpa [State.orderActive, Schedule.activeOrder] using fun x hx => by simp [queued x hx]
  have orders : (takeNext s).schedule.orders = takeHead s.schedule.orders :=
    congrArg Stock.orders (takeNext_stock idle)
  refine (planShape_iff _).2 ⟨by rw [orders]; exact activeAtHead_takeHead queued, ?_⟩
  rw [orders]
  cases e : s.schedule.orders with
  | nil =>
    rw [takeNext_nil e]
    exact ⟨by simp [empty], by simp [absent, takeHead], by simp [empty], by simp [empty], by simp [empty]⟩
  | cons o rest =>
    rw [takeNext_cons idle e, judgeQueue_planner]
    exact handToPlanner_plans o.spec empty

/-- The end of the ACTIVE order with its plan at its end, or flushed (R32, R40): the next order's plan stands. -/
theorem endOrder_planShape {s : State} {o : Order} (outcome : PanelOutcome)
    (head : activeAtHead s.schedule.orders = true) (active : s.schedule.activeOrder = some o)
    (empty : s.planner.queue = []) : PlanShape (endOrder outcome s) := by
  rw [endOrder_active active]
  refine takeNext_planShape (fun x hx => ?_) ?_ rfl
  · have left : x ∈ s.schedule.orders.filter fun x => decide (x.state ≠ .active) := hx
    cases orders : s.schedule.orders with
    | nil => simp [orders] at left
    | cons p rest =>
      rw [orders] at head left
      rw [filter_not_active head] at left
      exact ((activeAtHead_cons p rest).1 head).2 x left
  · simpa [orderLeft] using empty

end Sys2Proof.Machine
end

section
/-! PROOFS. What the part keeps outside SET_PARAMS, SET_TIMING, the order requests and a reset: the parameters, the
window width most recently accepted, and the plan of the ACTIVE order. Only the removal of the head, the beginning of a
record and the end of an order write what the plan's invariant speaks of; every other operation leaves all of it alone. -/

namespace Sys2Proof.Machine

/-! ## What is kept -/

/-- What the invariants of the parameters and of the plan read of a state. -/
structure PlanView where
  params : Params
  accepted : TimingSet
  queue : List PlanRecord
  cursor : Option Cursor
  orders : List Order

def State.planView (s : State) : PlanView :=
  ⟨s.params, s.shaft.accepted, s.planner.queue, s.planner.cursor, s.schedule.orders⟩

/-- The parameters and the accepted timing set stand, and the plan stays in shape. -/
structure Keeps (s t : State) : Prop where
  params : t.params = s.params
  accepted : t.shaft.accepted = s.shaft.accepted
  plan : PlanShape s → PlanShape t

theorem planShape_of_view {s t : State} (h : t.planView = s.planView) (shape : PlanShape s) : PlanShape t := by
  obtain ⟨-, -, queue, cursor, orders⟩ := PlanView.mk.inj h
  rw [planShape_iff] at shape ⊢
  obtain ⟨head, room, order, refs, gapLast, gapDone⟩ := shape
  rw [← queue] at room refs gapLast gapDone
  rw [← cursor] at order gapDone
  rw [← orders] at head order refs
  exact ⟨head, room, order, refs, gapLast, gapDone⟩

theorem Keeps.of_view {s t : State} (h : t.planView = s.planView) : Keeps s t := by
  obtain ⟨params, accepted, -⟩ := PlanView.mk.inj h
  exact ⟨params, accepted, planShape_of_view h⟩

theorem Keeps.refl (s : State) : Keeps s s := .of_view rfl

theorem Keeps.trans {s t u : State} (h : Keeps s t) (k : Keeps t u) : Keeps s u :=
  ⟨k.params.trans h.params, k.accepted.trans h.accepted, fun shape => k.plan (h.plan shape)⟩

/-- What is kept after a change of nothing the invariants read. -/
theorem Keeps.after_same {s t u : State} (k : Keeps t u) (h : t.planView = s.planView := by rfl) : Keeps s u :=
  (Keeps.of_view h).trans k

/-- What is kept before a change of nothing the invariants read. -/
theorem Keeps.then_same {s t u : State} (k : Keeps s t) (h : u.planView = t.planView := by rfl) : Keeps s u :=
  k.trans (.of_view h)

theorem SameButGov.keeps {s t : State} : SameButGov s t → Keeps s t := by
  rintro ⟨_, rfl⟩; exact .of_view rfl
theorem SameButStop.keeps {s t : State} : SameButStop s t → Keeps s t := by
  rintro ⟨_, _, _, _, rfl⟩; exact .of_view rfl
theorem SameButBars.keeps {s t : State} : SameButBars s t → Keeps s t := by
  rintro ⟨_, _, rfl⟩; exact .of_view rfl

/-- A new state of the shaft with the same accepted timing set. -/
theorem planView_setShaft {h : Shaft} {s : State} (accepted : h.accepted = s.shaft.accepted) :
    (setShaft h s).planView = s.planView := by
  simp only [State.planView, setShaft_shaft, accepted]
  rfl

/-! ## The schedule's own operations -/

/-- New figures for the ACTIVE order that keep what was ordered and its state. -/
theorem setActive_keeps {f : Order → Order} (keeps : ∀ o, (f o).spec = o.spec ∧ (f o).state = o.state) (s : State) :
    Keeps s (setActive f s) := by
  refine ⟨rfl, rfl, fun shape => ?_⟩
  rw [planShape_iff] at shape ⊢
  obtain ⟨head, plans⟩ := shape
  have figures : ∀ o : Order, (if o.state = .active then f o else o).spec = o.spec
      ∧ (if o.state = .active then f o else o).state = o.state := fun o => by
    split
    · exact keeps o
    · exact ⟨rfl, rfl⟩
  refine ⟨(activeAtHead_map (fun o => (figures o).2) _).trans head, ?_⟩
  have spec : ((setActive f s).schedule.orders.head?.map Order.spec) = s.schedule.orders.head?.map Order.spec := by
    simp only [setActive, List.head?_map, Option.map_map]
    exact congrArg (fun g => s.schedule.orders.head?.map g) (funext fun o => (figures o).1)
  rw [spec]
  exact plans

theorem recordBegun_keeps (r : PlanRecord) (s : State) : Keeps s (recordBegun r s) := by
  have figures := setActive_keeps
    (f := fun o => { o with phase := r.phase, currentRepeat := r.ref.repeatNo, started := true })
    (fun _ => ⟨rfl, rfl⟩) { s with planner := { s.planner with headBegun := true } }
  unfold recordBegun
  split
  · exact .refl s
  · simp only
    split
    · exact .of_view rfl
    · split
      · exact .after_same figures
      · exact .after_same (.then_same figures)

theorem countStitch_keeps (s : State) : Keeps s (countStitch s) :=
  setActive_keeps (f := fun o => { o with stitchesExecuted := min 65535 (o.stitchesExecuted + 1) })
    (fun _ => ⟨rfl, rfl⟩) s

theorem removeHead_keeps (s : State) : Keeps s (removeHead s) := by
  obtain ⟨p, g, h, -, -⟩ := removeHead_frame s
  refine ⟨by rw [h], by rw [h], fun shape => ?_⟩
  rw [planShape_iff] at shape ⊢
  obtain ⟨head, plans⟩ := shape
  have orders : (removeHead s).schedule.orders = s.schedule.orders := by rw [h]
  rw [orders]
  exact ⟨head, plans.removeHead⟩

theorem judgeQueue_keeps (before : Nat) (s : State) : Keeps s (judgeQueue before s) := by
  obtain ⟨a, k, h⟩ := judgeQueue_frame before s
  rw [h]; exact .of_view rfl

theorem takeNext_frame (s : State) :
    ∃ c p g k, takeNext s = { s with schedule := c, planner := p, gov := g, link := k } := by
  unfold takeNext
  split
  · exact ⟨_, _, _, _, rfl⟩
  · split
    · exact ⟨_, _, _, _, rfl⟩
    · rename_i o rest _
      obtain ⟨p, g, handed⟩ := handToPlanner_frame o.spec
        { s with schedule := { s.schedule with orders := o.taken :: rest } }
      obtain ⟨a, k, judged⟩ := judgeQueue_frame s.schedule.queuedCount
        (handToPlanner o.spec { s with schedule := { s.schedule with orders := o.taken :: rest } })
      exact ⟨_, _, _, _, by simp only; rw [judged, handed]⟩

theorem endOrder_frame (outcome : PanelOutcome) (s : State) :
    ∃ t c p g k, endOrder outcome s = { s with store := t, schedule := c, planner := p, gov := g, link := k } := by
  cases active : s.schedule.activeOrder with
  | none => exact ⟨_, _, _, _, _, by simp only [endOrder, active]; rfl⟩
  | some o =>
    obtain ⟨tx, q, raised⟩ := raiseNotice_frame (.panelDone o.spec.orderId o.spec.slot outcome o.stitchesExecuted)
      { s with
        schedule := { s.schedule with orders := s.schedule.orders.filter fun x => decide (x.state ≠ .active) }
        store := s.store.dropUse o.spec.slot
        planner := { s.planner with cursor := none } }
    obtain ⟨c, p, g, k, taken⟩ := takeNext_frame (orderLeft outcome o s)
    exact ⟨_, _, _, _, _, by rw [endOrder_active active, taken, orderLeft, raised]; rfl⟩

/-- The ACTIVE order ends with its plan at its end, or flushed (R32, R40). -/
theorem endOrder_keeps {s t : State} (outcome : PanelOutcome) (params : t.params = s.params)
    (accepted : t.shaft.accepted = s.shaft.accepted)
    (spent : PlanShape s →
      s.orderActive = true ∧ t.schedule.orders = s.schedule.orders ∧ t.planner.queue = []) :
    Keeps s (endOrder outcome t) := by
  obtain ⟨u, c, p, g, k, ended⟩ := endOrder_frame outcome t
  refine ⟨by rw [ended]; exact params, by rw [ended]; exact accepted, fun shape => ?_⟩
  obtain ⟨active, orders, empty⟩ := spent shape
  obtain ⟨o, at_o⟩ := Option.isSome_iff_exists.1 active
  refine endOrder_planShape (o := o) outcome ?_ ?_ empty
  · rw [orders]; exact ((planShape_iff s).1 shape).1
  · rw [Schedule.activeOrder, orders]; exact at_o

/-! ## The resume sequence (R148) -/

theorem setStep_keeps (r : ResumeStep) (s : State) : Keeps s (setStep r s) := .of_view rfl

theorem testResume_keeps (s : State) : Keeps s (testResume s) := by
  unfold testResume
  split
  · exact .refl s
  · split
    · unfold emitBurst burstPeriod
      simp only
      split
      · exact .of_view rfl
      · split <;> exact .of_view rfl
    · exact .refl s

theorem enterRunning_keeps (why : Reason) (p : Purpose) (c : List Nat) (s : State) :
    Keeps s (enterRunning why p c s) :=
  ((setMode_stop ..).trans (startOrder_gov ..).stop).keeps.trans (testResume_keeps _)

theorem completeRecordChange_keeps (s : State) : Keeps s (completeRecordChange s) := by
  unfold completeRecordChange
  exact .after_same (removeHead_keeps _)

theorem headStepBase_keeps (s : State) : Keeps s (headStepBase s) := by
  unfold headStepBase; simp only
  split
  · exact (setStep_keeps _ s).trans (enterRunning_keeps ..)
  · exact setStep_keeps _ s

/-- A step that asks for its restore, and goes on where that is done at once (R128, R148). -/
theorem askRestore_keeps {next : State → State} (keeps : ∀ t, Keeps t (next t)) (r : ResumeStep) (target : BarSet)
    (s : State) :
    Keeps s (if (askRestore target (setStep r s)).2 then next (askRestore target (setStep r s)).1
      else (askRestore target (setStep r s)).1) := by
  have asked := (setStep_keeps r s).trans (askRestore_bars target (setStep r s)).keeps
  split
  · exact asked.trans (keeps _)
  · exact asked

theorem restoreStepBase_keeps (s : State) : Keeps s (restoreStepBase s) := by
  unfold restoreStepBase
  split
  · exact headStepBase_keeps s
  · exact askRestore_keeps headStepBase_keeps ..

theorem headStep_keeps (s : State) : Keeps s (headStep s) := by
  unfold headStep
  split
  · split
    · have h := (setStep_keeps .none s).trans (beginChange_bars .record ‹BarSet› (setStep .none s)).keeps
      simp only; split
      · exact (h.trans (completeRecordChange_keeps _)).trans (restoreStepBase_keeps _)
      · exact h
    · exact headStepBase_keeps s
  · exact headStepBase_keeps s

theorem restoreStep_keeps (s : State) : Keeps s (restoreStep s) := by
  unfold restoreStep
  split
  · exact headStep_keeps s
  · exact askRestore_keeps headStep_keeps ..

theorem startReplay_keeps (s : State) : Keeps s (startReplay s) :=
  .after_same (enterRunning_keeps ..)

theorem replayStep_keeps (s : State) : Keeps s (replayStep s) := by
  unfold replayStep
  split
  · exact restoreStep_keeps s
  · exact askRestore_keeps startReplay_keeps ..

theorem backMoveStep_keeps (s : State) : Keeps s (backMoveStep s) := by
  unfold backMoveStep
  split
  · split
    · exact setStep_keeps _ s
    · split
      · exact .after_same (replayStep_keeps _)
      · exact .of_view rfl
  · exact replayStep_keeps s

theorem startFrozen_keeps (s : State) : Keeps s (startFrozen s) := by
  unfold startFrozen
  split
  · exact .refl s
  · split
    · exact enterRunning_keeps ..
    · exact startReplay_keeps s

theorem frozenStep_keeps (s : State) : Keeps s (frozenStep s) := by
  unfold frozenStep
  split
  · exact backMoveStep_keeps s
  · exact askRestore_keeps startFrozen_keeps ..

theorem takeStep_keeps (s : State) : Keeps s (takeStep s) := by
  unfold takeStep
  split
  · exact frozenStep_keeps s
  · exact frozenStep_keeps s
  · exact backMoveStep_keeps s
  · exact replayStep_keeps s
  · exact restoreStep_keeps s
  · exact restoreStep_keeps s
  · exact restoreStep_keeps s

theorem parkDone_keeps (s : State) : Keeps s (parkDone s) := by
  unfold parkDone
  split
  · split
    · exact (setMode_stop ..).keeps.trans (takeStep_keeps _)
    · exact (setMode_stop ..).keeps.trans (takeStep_keeps _)
    · exact (reachStop_stop ..).keeps
  · exact .refl s

theorem orderPark_keeps (s : State) : Keeps s (orderPark s) := by
  unfold orderPark; simp only
  split
  · exact (parkOrder_gov s).keeps.trans (parkDone_keeps _)
  · exact (parkOrder_gov s).keeps

theorem stopForRecord_keeps (p : StopPurpose) (s : State) : Keeps s (stopForRecord p s) :=
  (setMode_stop ..).keeps.trans (orderPark_keeps _)

theorem endStep_keeps (e : Bool) (s : State) : Keeps s (endStep e s) := by
  unfold endStep; split
  · exact setStep_keeps .none s
  · exact .refl s

theorem watch_keeps (e : Bool) (s : State) : Keeps s (watch e s) := by
  unfold watch
  split
  · split
    · exact .refl s
    · split
      · split
        · exact stopForRecord_keeps ..
        · exact .refl s
      · exact stopForRecord_keeps ..
  · exact .refl s

theorem beginResume_keeps (why : Reason) (s : State) : Keeps s (beginResume why s) :=
  ((setStep_keeps _ s).trans (setMode_stop ..).keeps).trans (orderPark_keeps _)

/-! ## The Travel Audit and the Thread Monitor -/

theorem addCmd_keeps (n : Nat) (s : State) : Keeps s (addCmd n s) := by
  obtain ⟨a, g, m, l, k, h⟩ := addCmd_frame n s
  rw [h]; exact .of_view rfl

theorem endAudit_keeps (cause : EndCause) (s : State) : Keeps s (endAudit cause s) := by
  obtain ⟨a, g, m, l, k, h⟩ := endAudit_frame cause s
  rw [h]; exact .of_view rfl

theorem endAtLimit_keeps (cause : EndCause) (n : Nat) (s : State) : Keeps s (endAtLimit cause n s) := by
  unfold endAtLimit; split
  · exact endAudit_keeps ..
  · exact .refl s

theorem addRoll_keeps (s : State) : Keeps s (addRoll s) := by
  unfold addRoll; split
  · exact .after_same (endAtLimit_keeps ..)
  · exact .refl s

theorem addWheel_keeps (s : State) : Keeps s (addWheel s) := by
  unfold addWheel; split
  · exact .after_same (endAtLimit_keeps ..)
  · exact .refl s

theorem auditIndex_keeps (s : State) : Keeps s (auditIndex s) := by
  unfold auditIndex; split <;> exact .of_view rfl

theorem monitorBurst_keeps (r : Ref) (src : StitchSource) (s : State) : Keeps s (monitorBurst r src s) := by
  unfold monitorBurst; split <;> exact .of_view rfl

theorem monitorClose_keeps (s : State) : Keeps s (monitorClose s) := by
  unfold monitorClose; split <;> exact .of_view rfl

theorem evaluate_keeps (r : Ref) (s : State) : Keeps s (evaluate r s) := by
  unfold evaluate; simp only
  split
  · exact .of_view rfl
  · exact .after_same (latch_stop ..).keeps

theorem monitorOpen_keeps (s : State) : Keeps s (monitorOpen s) := by
  unfold monitorOpen
  extract_lets _ t
  refine .then_same (t := t) ?_
  unfold t
  split
  · exact .refl s
  · split
    · split
      · exact .of_view rfl
      · exact evaluate_keeps ..
    · exact .refl s

theorem scanBegins_keeps (s : State) : Keeps s (scanBegins s) := by
  unfold scanBegins; split <;> exact .of_view rfl

theorem scanFailed_keeps (s : State) : Keeps s (scanFailed s) := by
  unfold scanFailed; simp only
  split
  · exact .of_view rfl
  · exact .after_same (latch_stop ..).keeps

theorem scanEnds_keeps (received : BitVec 104) (s : State) : Keeps s (scanEnds received s) := by
  unfold scanEnds; split
  · exact .refl s
  · split
    · exact .of_view rfl
    · exact scanFailed_keeps s

/-! ## The Line Controller -/

theorem lineBurstDone_keeps (last emptied : Bool) (s : State) : Keeps s (lineBurstDone last emptied s) := by
  unfold lineBurstDone
  refine (endStep_keeps emptied s).trans ?_
  generalize endStep emptied s = t
  simp only
  split
  · exact (stitchStop_stop ..).keeps
  · split
    · split
      · exact .after_same (stitchStop_stop ..).keeps
      · exact .refl t
    · split
      · split
        · exact .after_same (stopForRecord_keeps ..)
        · exact watch_keeps ..
      · exact .refl t

theorem restoreDone_keeps (s : State) : Keeps s (restoreDone s) := by
  unfold restoreDone; split
  · split
    · exact startFrozen_keeps s
    · exact startReplay_keeps s
    · exact headStep_keeps s
    · exact .refl s
  · exact .refl s

theorem lineRecordDone_keeps (s : State) : Keeps s (lineRecordDone s) := by
  unfold lineRecordDone; split
  · exact (stitchStop_stop ..).keeps
  · split
    · exact takeStep_keeps s
    · exact .refl s

theorem lineFeedDone_keeps (s : State) : Keeps s (lineFeedDone s) := by
  unfold lineFeedDone; split
  · exact .after_same (setMode_stop ..).keeps
  · exact lineRecordDone_keeps s

theorem lineBackMoveDone_keeps (s : State) : Keeps s (lineBackMoveDone s) := by
  unfold lineBackMoveDone
  extract_lets _ t
  refine .after_same (t := t) ?_
  split
  · exact (stitchStop_stop ..).keeps
  · split
    · exact replayStep_keeps _
    · exact .refl t

theorem lineCount_keeps (d : Direction) (s : State) : Keeps s (lineCount d s) := by
  unfold lineCount
  split
  · extract_lets n t
    split
    · exact .after_same (latch_stop ..).keeps
    · exact .of_view rfl
  · exact .refl s

theorem lineStopped_keeps (s : State) : Keeps s (lineStopped s) := by
  unfold lineStopped; split
  · exact (reachStop_stop ..).keeps
  · exact .refl s

theorem cancelHold_keeps (why : Reason) (s : State) : Keeps s (cancelHold why s) := by
  unfold cancelHold; simp only
  split
  · split
    · exact (setMode_stop ..).keeps
    · exact (setMode_stop ..).keeps.trans (takeStep_keeps _)
  · split
    · exact (setMode_stop ..).keeps.trans (orderPark_keeps _)
    · exact (setMode_stop ..).keeps
  · split
    · exact (setMode_stop ..).keeps.trans (orderPark_keeps _)
    · exact (setMode_stop ..).keeps
  · refine .trans ?_ ((testResume_keeps _).trans (watch_keeps ..))
    refine (setMode_stop .running none none why s).keeps.trans ?_
    split
    · split <;> exact (startOrder_gov ..).keeps
    · exact .refl _

theorem decideRun_keeps (why : Reason) (s : State) : Keeps s (decideRun why s).1 := by
  unfold decideRun; simp only
  split
  · exact .refl s
  split
  · exact .refl s
  split
  · exact .refl s
  split
  · exact .refl s
  refine .trans (.of_view rfl : Keeps s (setRequested .run s)) ?_
  split
  · exact cancelHold_keeps ..
  · exact beginResume_keeps ..

theorem decideHold_keeps (kind : HoldKind) (why : Reason) (s : State) : Keeps s (decideHold kind why s).1 := by
  unfold decideHold
  split
  case h_1 => exact (beginHold_stop ..).keeps
  case h_2 => exact (beginHold_stop ..).keeps
  case h_3 =>
    split
    · exact (beginHold_stop ..).keeps
    · split
      · exact (setMode_stop ..).keeps.trans (carryHold_stop ..).keeps
      · exact .refl s
    · exact .refl s
    · exact (beginHold_stop ..).keeps
  all_goals exact .refl s

theorem decideModeHold_keeps (kind : Byte) (s : State) : Keeps s (decideModeHold kind s).1 := by
  unfold decideModeHold; split
  · exact decideHold_keeps ..
  · exact .refl s

theorem decideRest_keeps (r : ReqMode) (m : Mode) (s : State) : Keeps s (decideRest r m s).1 := by
  unfold decideRest
  split
  case h_5 =>
    split
    · exact .refl s
    · exact .after_same (setMode_stop ..).keeps
  all_goals exact .refl s

theorem decideClearFaults_keeps (s : State) : Keeps s (decideClearFaults s).1 := by
  unfold decideClearFaults
  split
  · exact .refl s
  · extract_lets kept _ f _ t
    refine .after_same (t := t) ?_
    dsimp only
    split
    · unfold leaveFaulted
      split
      · split <;> exact .after_same (setMode_stop ..).keeps
      · exact .refl t
    · exact .refl t

theorem abortChange_bars (s : State) : SameButBars s (abortChange s) := by
  unfold abortChange; split
  · exact .rfl' s
  · split
    · exact .rfl' s
    · exact ⟨_, _, rfl⟩

theorem decideAbort_keeps (s : State) : Keeps s (decideAbort s).1 := by
  unfold decideAbort
  split
  case h_4 =>
    split
    · exact .refl s
    · rename_i active
      obtain ⟨u, m, aborted⟩ := abortChange_bars (flushPlan { s with motion := { s.motion with
        burst := none, feed := none, asideFeed := none, backMove := none } })
      dsimp only
      rw [aborted]
      exact endOrder_keeps .aborted rfl rfl fun _ => ⟨not_not.1 active, rfl, rfl⟩
  all_goals exact .refl s

end Sys2Proof.Machine
end

section
/-! PROOFS. The moves, the bars and the shaft keep the parameters, the accepted window width and the plan's shape. -/

namespace Sys2Proof.Machine

/-! ## The Motion Output -/

theorem completeHeadBurst_keeps (b : Burst) (s : State) : Keeps s (completeHeadBurst b s) := by
  unfold completeHeadBurst
  extract_lets a c
  have counted : Keeps s c := (Keeps.then_same (removeHead_keeps s)).trans ((addCmd_keeps ..).trans (countStitch_keeps _))
  exact (counted.trans (.then_same (monitorBurst_keeps ..))).trans (lineBurstDone_keeps ..)

theorem completeReplayBurst_keeps (b : Burst) (s : State) : Keeps s (completeReplayBurst b s) := by
  unfold completeReplayBurst
  extract_lets _ a c
  have replayed : Keeps s c := (Keeps.after_same (addCmd_keeps ..)).trans (monitorBurst_keeps ..)
  exact (Keeps.then_same replayed).trans (lineBurstDone_keeps ..)

theorem completeBurst_keeps (b : Burst) (s : State) : Keeps s (completeBurst b s) := by
  unfold completeBurst; split
  · exact completeHeadBurst_keeps b s
  · exact completeReplayBurst_keeps b s

theorem emitBurst_keeps (w : Nat) (b : Burst) (s : State) : Keeps s (emitBurst w b s) := by
  unfold emitBurst burstPeriod; simp only
  split
  · exact .of_view rfl
  · split <;> exact .of_view rfl

theorem openBurst_keeps (b : Burst) (s : State) : Keeps s (openBurst b s) := by
  unfold openBurst
  refine Keeps.trans (.of_view rfl : Keeps s { s with motion := { s.motion with burst := some b } }) ?_
  simp only
  split
  · exact completeBurst_keeps ..
  · exact emitBurst_keeps ..

theorem motionOpen_keeps (s : State) : Keeps s (motionOpen s) := by
  unfold motionOpen
  split
  · split
    · exact openBurst_keeps ..
    · split
      · exact .refl s
      · split
        · exact (recordBegun_keeps ..).trans (openBurst_keeps ..)
        · exact .refl s
  · exact .refl s

theorem motionClose_keeps (s : State) : Keeps s (motionClose s) := by
  unfold motionClose; split
  · exact .after_same (latch_stop ..).keeps
  · exact .refl s

/-- With a GAP at the head an order is ACTIVE, and the GAP's removal leaves no record (R53, R54). -/
theorem spent_of_headIsGap {s : State} (gap : s.planner.headIsGap = true) (shape : PlanShape s) :
    s.orderActive = true ∧ (removeHead s).schedule.orders = s.schedule.orders
      ∧ (removeHead s).planner.queue = [] := by
  obtain ⟨-, plans⟩ := (planShape_iff s).1 shape
  obtain ⟨-, -, -, idle, -⟩ := shape
  obtain ⟨p, g, removed, -⟩ := removeHead_frame s
  refine ⟨?_, by rw [removed], plans.removeGap gap⟩
  by_contra inactive
  simp [Planner.headIsGap, Planner.head, idle (by simpa using inactive)] at gap

/-- A feed record leaves the queue, and a GAP, which leaves it empty, ends the order (R113). -/
theorem completeFeed_keeps (s : State) : Keeps s (completeFeed s) := by
  unfold completeFeed
  extract_lets gap a _ b
  have record : Keeps s b := .then_same (removeHead_keeps s)
  refine .trans (.then_same (t := if gap then endOrder .done b else b) ?_) (lineFeedDone_keeps _)
  split
  · exact endOrder_keeps .done record.params record.accepted (spent_of_headIsGap ‹_›)
  · exact record

theorem completeMove_keeps (f : Feed) (s : State) : Keeps s (completeMove f s) := by
  unfold completeMove; split
  · exact completeFeed_keeps s
  · exact .after_same (lineBackMoveDone_keeps _)

/-- A stop that awaited the work in hand, carried on where one is on (R153). -/
theorem stitchStop_if_keeps (why : Reason) (s : State) : Keeps s (if s.stitchStopOn then stitchStop why s else s) := by
  split
  · exact (stitchStop_stop ..).keeps
  · exact .refl s

theorem feedSpent_keeps (f : Feed) (s : State) : Keeps s (feedSpent f s) := by
  unfold feedSpent; split
  · refine .trans ?_ (stitchStop_if_keeps ..)
    exact .after_same (latch_stop ..).keeps
  · split
    · exact .of_view rfl
    · exact completeMove_keeps f s

theorem moveFeed_keeps (f : Feed) (s : State) : Keeps s (moveFeed f s) := by
  unfold moveFeed; simp only; split
  · exact .after_same (feedSpent_keeps ..)
  · exact .of_view rfl

theorem beginFeed_keeps (kind : FeedKind) (x y : Int) (s : State) : Keeps s (beginFeed kind x y s) := by
  unfold beginFeed; simp only
  split
  · exact moveFeed_keeps ..
  · exact moveFeed_keeps ..
  · split <;> exact moveFeed_keeps ..
  · exact moveFeed_keeps ..

theorem beginHead_keeps (s : State) : Keeps s (beginHead s) := by
  unfold beginHead
  split
  · exact ((recordBegun_keeps ..).trans (removeHead_keeps _)).trans (lineRecordDone_keeps _)
  · refine .trans ?_ (.trans (recordBegun_keeps ..) (beginFeed_keeps ..))
    split
    · split <;> exact .of_view rfl
    · exact .refl s
  · exact .refl s

theorem resumeFeed_keeps (f : Feed) (s : State) : Keeps s (resumeFeed f s) := by
  unfold resumeFeed; split
  · exact moveFeed_keeps ..
  · split <;> exact moveFeed_keeps ..

theorem setAside_keeps (s : State) : Keeps s (setAside s) := by
  unfold setAside; split <;> exact .of_view rfl

theorem takeUpHead_keeps (s : State) : Keeps s (takeUpHead s) := by
  unfold takeUpHead; split
  · split
    · exact resumeFeed_keeps ..
    · exact .after_same (beginHead_keeps _)
  · split
    · exact .after_same (resumeFeed_keeps ..)
    · exact beginHead_keeps s

theorem beginNextFeed_keeps (s : State) : Keeps s (beginNextFeed s) := by
  unfold beginNextFeed; split
  · exact (setAside_keeps s).trans (.after_same (moveFeed_keeps ..))
  · split
    · exact takeUpHead_keeps s
    · exact .refl s

theorem feedBegin_keeps (s : State) : Keeps s (feedBegin s) := by
  unfold feedBegin; split
  · split
    · exact beginNextFeed_keeps s
    · split
      · exact resumeFeed_keeps ..
      · split
        · exact beginNextFeed_keeps s
        · exact .refl s
  · exact .refl s

theorem movePulse_keeps (axis : Axis) (positive : Bool) (s : State) : Keeps s (movePulse axis positive s) := by
  unfold movePulse; split
  · split <;> exact .of_view rfl
  · exact .of_view rfl

theorem burstPulse_keeps (axis : Axis) (b : Burst) (s : State) : Keeps s (burstPulse axis b s) := by
  have pulse : ∀ (c : Burst) (p : Bool),
      Keeps s (movePulse axis p { s with motion := { s.motion with burst := some c } }) := fun c p =>
    .after_same (movePulse_keeps ..)
  unfold burstPulse
  extract_lets c p _ t
  split
  · exact (pulse c p).trans (completeBurst_keeps ..)
  · exact pulse c p

theorem feedPulse_keeps (axis : Axis) (f : Feed) (s : State) : Keeps s (feedPulse axis f s) := by
  have pulse : ∀ (g : Feed) (p : Bool), Keeps s (movePulse axis p (setFeed g s)) := fun g p =>
    .after_same (movePulse_keeps ..)
  unfold feedPulse
  cases axis with
  | x =>
    simp only; split
    · exact (pulse ..).trans (feedSpent_keeps ..)
    · exact pulse ..
  | y =>
    simp only; split
    · exact ((pulse ..).trans (addCmd_keeps ..)).trans (feedSpent_keeps ..)
    · exact (pulse ..).trans (addCmd_keeps ..)

theorem stepDue_keeps (axis : Axis) (s : State) : Keeps s (stepDue axis s) := by
  unfold stepDue; split
  · split
    · exact .refl s
    · split
      · exact burstPulse_keeps ..
      · exact .of_view rfl
  · split
    · split
      · exact .refl s
      · split
        · exact feedPulse_keeps ..
        · exact .of_view rfl
    · exact .refl s

theorem emitHeld_keeps (axis : Axis) (s : State) : Keeps s (emitHeld axis s) := by
  unfold emitHeld; split
  · split
    · exact burstPulse_keeps ..
    · exact .refl s
  · split
    · split
      · exact feedPulse_keeps ..
      · exact .refl s
    · exact .refl s

theorem homingPulse_keeps (h : Homing) (s : State) : Keeps s (homingPulse h s) := by
  unfold homingPulse; simp only; split <;> exact .of_view rfl

theorem homingDue_keeps (s : State) : Keeps s (homingDue s) := by
  unfold homingDue; split
  · exact .refl s
  · split
    · exact .refl s
    · split
      · exact homingPulse_keeps ..
      · exact .of_view rfl

theorem emitHeldHoming_keeps (s : State) : Keeps s (emitHeldHoming s) := by
  unfold emitHeldHoming; split
  · exact .refl s
  · split
    · exact homingPulse_keeps ..
    · exact .refl s

theorem emitWaiting_keeps (s : State) : Keeps s (emitWaiting s) := by
  unfold emitWaiting; split
  · exact ((emitHeld_keeps ..).trans (emitHeld_keeps ..)).trans (emitHeldHoming_keeps _)
  · exact .refl s

theorem decideHomeX_keeps (s : State) : Keeps s (decideHomeX s).1 := by
  unfold decideHomeX
  split
  · exact .refl s
  split
  · exact .refl s
  split
  · exact .refl s
  split
  · exact .refl s
  unfold startHoming; simp only
  split <;> exact .of_view rfl

theorem xhomeLevel_keeps (level : Bool) (s : State) : Keeps s (xhomeLevel level s) := by
  unfold xhomeLevel; split
  · exact .refl s
  · split <;> exact .of_view rfl

theorem markEdge_keeps (s : State) : Keeps s (markEdge s) := by
  unfold markEdge; split
  · exact .refl s
  · split
    · exact .after_same (completeFeed_keeps _)
    · exact .refl s

theorem cutEnds_keeps (s : State) : Keeps s (cutEnds s) := by
  unfold cutEnds; simp only
  split
  · exact .refl s
  refine .trans (.of_view rfl : Keeps s { s with motion := { s.motion with cutTimer := none } }) ?_
  split
  · exact .refl _
  · split
    · split
      · exact .after_same (stitchStop_if_keeps ..)
      · exact moveFeed_keeps ..
    · exact .refl _

theorem estopMotion_keeps (s : State) : Keeps s (estopMotion s) := by
  unfold estopMotion; simp only
  split <;> exact .of_view rfl

/-! ## The needle bars -/

theorem settleChange_keeps (s : State) : Keeps s (settleChange s) := by
  unfold settleChange; split
  · exact .refl s
  · split
    · split
      · exact (completeRecordChange_keeps s).trans (lineRecordDone_keeps _)
      · exact .after_same (restoreDone_keeps _)
      · exact .of_view rfl
    · exact .refl s

theorem beginWaiting_keeps (s : State) : Keeps s (beginWaiting s) := by
  unfold beginWaiting; split
  · exact .refl s
  · split
    · exact (beginChange_bars ..).keeps.trans (settleChange_keeps _)
    · exact .refl s

theorem barChangeBegin_keeps (s : State) : Keeps s (barChangeBegin s) := by
  unfold barChangeBegin; split
  · exact beginWaiting_keeps s
  · split
    · split
      · exact ((recordBegun_keeps ..).trans (beginChange_bars ..).keeps).trans (settleChange_keeps _)
      · exact .refl s
    · exact .refl s

theorem deadTimeEnds_keeps (b : Bar) (s : State) : Keeps s (deadTimeEnds b s) := by
  unfold deadTimeEnds; split
  · split
    · exact (setBar_bars ..).keeps
    · exact (energizeBar_bars ..).keeps.trans (settleChange_keeps _)
  · exact .refl s

theorem endForce_keeps (b : Bar) (s : State) : Keeps s (endForce b s) := by
  unfold endForce; split
  · split <;> exact .of_view rfl
  · exact .refl s

theorem barTimesOut_keeps (b : Bar) (s : State) : Keeps s (barTimesOut b s) := by
  unfold barTimesOut; simp only
  split
  · exact ((setBar_bars ..).keeps.trans (endForce_keeps ..)).trans (latch_stop ..).keeps
  · exact .refl s

theorem barInputs_keeps (b : Bar) (s : State) : Keeps s (barInputs b s) := by
  unfold barInputs; simp only
  split
  · exact (setBar_bars ..).keeps
  · exact (confirmBar_bars ..).keeps.trans (settleChange_keeps _)

theorem decideForceBar_keeps (bar dir : Byte) (s : State) : Keeps s (decideForceBar bar dir s).1 := by
  unfold decideForceBar
  split
  · exact .refl s
  split
  · exact .refl s
  split
  · exact .refl s
  split
  · exact .refl s
  split
  · exact .refl s
  exact (beginChange_bars ..).keeps.trans (settleChange_keeps _)

/-! ## The shaft -/

theorem deliverOpen_keeps (s : State) : Keeps s (deliverOpen s) := by
  unfold deliverOpen; simp only
  split
  · refine .trans (.of_view rfl : Keeps s (drawChoice s).2) ?_
    split
    · exact (motionOpen_keeps _).trans (monitorOpen_keeps _)
    · exact (monitorOpen_keeps _).trans (motionOpen_keeps _)
  · exact (monitorOpen_keeps s).trans (motionOpen_keeps _)

theorem deliverClose_keeps (s : State) : Keeps s (deliverClose s) := (motionClose_keeps s).trans (monitorClose_keeps _)

theorem reachAngle_keeps (s : State) : Keeps s (reachAngle s) := by
  unfold reachAngle; simp only
  split
  · exact .refl s
  split
  · split
    · exact .after_same (deliverOpen_keeps _)
    · exact .refl s
  split
  · exact .after_same (stopAngleGov_gov _).keeps
  split
  · exact .after_same (deliverClose_keeps _)
  · exact .refl s

theorem countEffects_keeps (d : Direction) (encoder : Bool) (s : State) : Keeps s (countEffects d encoder s) := by
  unfold countEffects
  refine .trans ?_ (.trans (testResume_keeps _) (emitWaiting_keeps _))
  have a : Keeps s (if encoder then latch .encoder none s else s) := by
    split
    · exact (latch_stop ..).keeps
    · exact .refl s
  split
  · exact a.trans (reachAngle_keeps _)
  · exact a

theorem takeCount_keeps (d : Direction) (s : State) : Keeps s (takeCount d s) := by
  unfold takeCount; simp only
  split
  · refine .trans (.of_view rfl : Keeps s (drawChoice (setShaft (s.shaft.count d s.line.effective) s)).2) ?_
    split
    · exact (countEffects_keeps ..).trans (lineCount_keeps ..)
    · exact (lineCount_keeps ..).trans (countEffects_keeps ..)
  · exact .after_same ((lineCount_keeps ..).trans (countEffects_keeps ..))

theorem measureRevolution_keeps (now : Nat) (s : State) : Keeps s (measureRevolution now s) := by
  unfold measureRevolution; simp only
  split
  · exact .of_view rfl
  · split
    · split <;> exact .of_view rfl
    · exact .of_view rfl

theorem indexJump_keeps (s : State) : Keeps s (indexJump s) := by
  have at0 : ∀ t : State, Keeps t (setShaft { t.shaft with position := 0 } t) := fun _ => .of_view rfl
  unfold indexJump; simp only
  split
  · exact ((Keeps.after_same (reachAngle_keeps _)).trans (at0 _)).trans (reachAngle_keeps _)
  · split
    · exact (at0 s).trans (reachAngle_keeps _)
    · exact at0 s

theorem deliverIndex_keeps (measured : Bool) (s : State) : Keeps s (deliverIndex measured s) := by
  unfold deliverIndex; simp only
  split
  · refine .trans (.of_view rfl : Keeps s (drawChoice s).2) ?_
    split
    · exact (indexGov_gov ..).keeps.trans (auditIndex_keeps _)
    · exact (auditIndex_keeps _).trans (indexGov_gov ..).keeps
  · exact (indexGov_gov ..).keeps.trans (auditIndex_keeps _)

theorem forwardIndex_keeps (now : Nat) (s : State) : Keeps s (forwardIndex now s) := by
  have deliver : ∀ t : State, Keeps t (deliverIndex t.shaft.measures (measureRevolution now t)) := fun t =>
    (measureRevolution_keeps ..).trans (deliverIndex_keeps ..)
  unfold forwardIndex; simp only
  split
  · refine .trans (.of_view rfl : Keeps s (drawChoice s).2) ?_
    split
    · exact (deliver _).trans (indexJump_keeps _)
    · exact (indexJump_keeps _).trans (deliver _)
  · exact (indexJump_keeps s).trans (deliver _)

theorem backIndex_keeps (s : State) : Keeps s (backIndex s) := .then_same (indexJump_keeps s)

theorem badIndex_keeps (now : Nat) (s : State) : Keeps s (badIndex now s) :=
  .after_same (latch_stop ..).keeps

/-- A pending timing set that becomes active is still the one accepted last (R79, R80). -/
theorem Shaft.applyAtIndex_accepted (h : Shaft) : h.applyAtIndex.accepted = h.accepted := by
  unfold Shaft.applyAtIndex Shaft.accepted
  split
  · rfl
  · rename_i t pending
    dsimp only
    split <;> simp [pending]

theorem Shaft.stop_accepted (h : Shaft) : h.stop.accepted = h.accepted := by
  unfold Shaft.stop Shaft.accepted
  dsimp only
  split
  · rfl
  · rename_i t pending
    simp [pending]

theorem takeIndex_keeps (now : Nat) (s : State) : Keeps s (takeIndex now s) := by
  unfold takeIndex
  extract_lets t
  refine .trans (.then_same (t := t) ?_ (planView_setShaft t.shaft.applyAtIndex_accepted)) (emitWaiting_keeps _)
  unfold t
  split
  · exact .of_view rfl
  · split
    · exact forwardIndex_keeps ..
    · exact backIndex_keeps s
    · exact backIndex_keeps s
    · exact badIndex_keeps ..

theorem governorStopped_keeps (s : State) : Keeps s (governorStopped s) := by
  unfold governorStopped
  refine .trans ?_ (lineStopped_keeps _)
  refine (stoppedGov_gov s).keeps.trans ?_
  split
  · exact .refl _
  · exact parkDone_keeps _
  · exact (latch_stop ..).keeps

theorem shaftStops_keeps (s : State) : Keeps s (shaftStops s) := by
  unfold shaftStops; simp only
  split
  · exact .refl s
  refine .trans (.after_same (beginWaiting_keeps (monitorStopped (setShaft s.shaft.stop s)))
    (planView_setShaft s.shaft.stop_accepted)) ?_
  generalize beginWaiting (monitorStopped (setShaft s.shaft.stop s)) = a
  split
  · refine .trans (.of_view rfl : Keeps a (drawChoice a).2) ?_
    split
    · exact (governorStopped_keeps _).trans (emitWaiting_keeps _)
    · exact (emitWaiting_keeps _).trans (governorStopped_keeps _)
  · exact governorStopped_keeps a

theorem decideRephase_keeps (a : BitVec 16) (s : State) : Keeps s (decideRephase a s).1 := by
  unfold decideRephase; simp only
  split
  · exact .refl s
  split
  · exact .refl s
  split <;> exact .of_view rfl

end Sys2Proof.Machine
end

section
/-! PROOFS. The parameters (R61, R137, R181, 12 section 12.6): what a write does to the others' values, and what the checks
of SET_PARAMS leave true of the whole. -/

namespace Sys2Proof.Machine

/-! ## One parameter written -/

theorem ParamId.mem_all (id : ParamId) : id ∈ ParamId.all := by cases id <;> decide

/-- A value in a parameter's range is read back. -/
theorem Params.get_set_same {id : ParamId} {v : Int} (p : Params) (low : id.range.1 ≤ v) (high : v ≤ id.range.2) :
    (p.set id v).get id = v := by
  cases id
  case mapBar0 | mapBar1 | mapBar2 =>
    simp only [Params.set, Params.get, ParamId.range] at low high ⊢
    rw [BitVec.toInt_ofInt, Int.bmod_eq_of_le] <;> omega
  case threadAction | chainAction | slipAction =>
    simp only [ParamId.range] at low high
    obtain rfl | rfl | rfl : v = 0 ∨ v = 1 ∨ v = 2 := by omega
    all_goals rfl
  case holdInputKind =>
    simp only [ParamId.range] at low high
    obtain rfl | rfl | rfl | rfl : v = 0 ∨ v = 1 ∨ v = 2 ∨ v = 3 := by omega
    all_goals rfl
  case autoAudit =>
    simp only [ParamId.range] at low high
    obtain rfl | rfl : v = 0 ∨ v = 1 := by omega
    all_goals rfl
  all_goals exact Int.toNat_of_nonneg (by simp only [ParamId.range] at low; omega)

/-- Every other parameter stands. -/
theorem Params.get_set (p : Params) (id other : ParamId) (v : Int) :
    (p.set id v).get other = if other = id then (p.set id v).get id else p.get other := by
  cases id <;> cases other <;> rfl

/-- The chain's end and the needle map are untouched by the other parameters (R137). -/
theorem Params.beyondChain_set {id : ParamId} (p : Params) (v : Int) (other : id.chainBound = false) :
    (p.set id v).beyondChain = p.beyondChain := by
  cases id
  case mapBar0 | mapBar1 | mapBar2 | chainBytes => cases other
  all_goals rfl

/-- The configuration guard reads none of the other parameters (R61). -/
theorem guardFault_set {id : ParamId} (p : Params) (v : Int) (width : Nat) (other : id.guarded = false) :
    guardFault (p.set id v) width = guardFault p width := by
  cases id
  case kX | kY | iminX | iminY | capX | capY | lineMax | creep => cases other
  all_goals rfl

/-! ## A list of pairs written (R182) -/

/-- Every parameter in its range (12 section 12.6). -/
def Params.InRange (p : Params) : Prop := ∀ id : ParamId, id.range.1 ≤ p.get id ∧ p.get id ≤ id.range.2

/-- ParamShape, parameter by parameter. -/
theorem paramShape_iff (s : State) :
    ParamShape s ↔ s.params.InRange ∧ s.params.beyondChain = false
      ∧ guardFault s.params s.shaft.accepted.width = none :=
  and_congr_left' ⟨fun h id => h id id.mem_all, fun h id _ => h id⟩

theorem Params.InRange.set {p : Params} (h : p.InRange) {id : ParamId} {v : Int} (low : id.range.1 ≤ v)
    (high : v ≤ id.range.2) : (p.set id v).InRange := by
  intro other
  rw [Params.get_set]
  split
  · rename_i same
    rw [same, Params.get_set_same p low high]
    exact ⟨low, high⟩
  · exact h other

theorem Params.InRange.apply {p : Params} (h : p.InRange) {pairs : List (ParamId × Int)}
    (ranges : ∀ x ∈ pairs, x.1.range.1 ≤ x.2 ∧ x.2 ≤ x.1.range.2) : (p.apply pairs).InRange := by
  induction pairs generalizing p with
  | nil => exact h
  | cons x rest ih =>
    obtain ⟨low, high⟩ := ranges x (by simp)
    exact ih (h.set low high) fun y hy => ranges y (by simp [hy])

theorem Params.beyondChain_apply {p : Params} {pairs : List (ParamId × Int)}
    (other : ∀ x ∈ pairs, x.1.chainBound = false) : (p.apply pairs).beyondChain = p.beyondChain := by
  induction pairs generalizing p with
  | nil => rfl
  | cons x rest ih =>
    exact (ih fun y hy => other y (by simp [hy])).trans (p.beyondChain_set x.2 (other x (by simp)))

theorem guardFault_apply {p : Params} {pairs : List (ParamId × Int)} (width : Nat)
    (other : ∀ x ∈ pairs, x.1.guarded = false) : guardFault (p.apply pairs) width = guardFault p width := by
  induction pairs generalizing p with
  | nil => rfl
  | cons x rest ih =>
    exact (ih fun y hy => other y (by simp [hy])).trans (guardFault_set p x.2 width (other x (by simp)))

/-! ## The checks of SET_PARAMS (R181) -/

theorem firstPair_eq_none {test : ParamId × Int → Bool} {pairs : List (ParamId × Int)} :
    firstPair test pairs = none ↔ ∀ x ∈ pairs, test x = false :=
  List.findIdx?_eq_none_iff

/-- A pair that passes the range check is in range once clamped. -/
theorem clampPair_inRange {x : ParamId × Int} (passes : outOfRange x = false) :
    (clampPair x).1.range.1 ≤ (clampPair x).2 ∧ (clampPair x).2 ≤ (clampPair x).1.range.2 := by
  have ordered : x.1.range.1 ≤ x.1.range.2 := by cases x.1 <;> decide
  simp only [outOfRange, Bool.or_eq_false_iff, decide_eq_false_iff_not, Bool.and_eq_false_imp, decide_eq_true_eq,
    Bool.not_eq_false'] at passes
  obtain ⟨low, high⟩ := passes
  unfold clampPair isClamped
  split
  · exact ⟨ordered, le_rfl⟩
  · rename_i unclamped
    simp only [Bool.and_eq_true, decide_eq_true_eq, not_and] at unclamped
    exact ⟨by omega, not_lt.1 fun above => unclamped above (high above)⟩

/-- With the consistency checks passed the chain and the guard hold of the new parameters (R181 check 4). -/
theorem consistent_of_fault_none {s : State} {pairs : List (ParamId × Int)} (passes : consistencyFault s pairs = none)
    (chain : s.params.beyondChain = false) (guard : guardFault s.params s.shaft.accepted.width = none) :
    (s.params.apply pairs).beyondChain = false
    ∧ guardFault (s.params.apply pairs) s.shaft.accepted.width = none := by
  unfold consistencyFault at passes
  dsimp only at passes
  split at passes
  · cases passes
  rename_i chained
  constructor
  · cases e : firstPair (fun x => x.1.chainBound) pairs with
    | none => rw [Params.beyondChain_apply (firstPair_eq_none.1 e), chain]
    | some k =>
      rw [e] at chained
      dsimp only at chained
      split at chained
      · cases chained
      · rename_i inside; simpa using inside
  · cases e : firstPair (fun x => x.1.guarded) pairs with
    | none => rw [guardFault_apply _ (firstPair_eq_none.1 e), guard]
    | some k =>
      rw [e] at passes
      split at passes
      · cases passes
      · rename_i unfired
        cases fault : guardFault (s.params.apply pairs) s.shaft.accepted.width with
        | none => rfl
        | some axis => exact (unfired k axis rfl fault).elim

end Sys2Proof.Machine
end

section
/-! PROOFS. The parameters and the plan of the ACTIVE order through every command: SET_PARAMS, SET_TIMING, the order
requests and a reset are the commands that do more than `Keeps` says. -/

namespace Sys2Proof.Machine

/-- The invariants of the parameters and of the plan go over from one state to the next. -/
structure KeepsShapes (s t : State) : Prop where
  params : ParamShape s → ParamShape t
  plan : PlanShape s → PlanShape t

theorem Keeps.shapes {s t : State} (h : Keeps s t) : KeepsShapes s t := by
  refine ⟨fun shape => ?_, h.plan⟩
  rw [paramShape_iff] at shape ⊢
  rwa [h.params, h.accepted]

theorem KeepsShapes.refl (s : State) : KeepsShapes s s := ⟨id, id⟩

theorem KeepsShapes.trans {s t u : State} (h : KeepsShapes s t) (k : KeepsShapes t u) : KeepsShapes s u :=
  ⟨k.params ∘ h.params, k.plan ∘ h.plan⟩

/-- A change of nothing the invariants read, before and after one that keeps them. -/
theorem KeepsShapes.between_same {s s' t' t : State} (k : KeepsShapes s' t') (before : s'.planView = s.planView := by rfl)
    (after : t.planView = t'.planView := by rfl) : KeepsShapes s t :=
  ((Keeps.of_view before).shapes.trans k).trans (Keeps.of_view after).shapes

/-! ## SET_PARAMS and SET_TIMING -/

/-- What the owning blocks do with new parameters touches neither the parameters nor the plan (R182). -/
theorem applyParams_planView (pairs : List (ParamId × Int)) (s : State) :
    (applyParams pairs s).planView = { s.planView with params := s.params.apply pairs } := by
  have rearmed : ∀ t, (rearm s.params t).planView = t.planView := fun t => by unfold rearm; split <;> rfl
  have audited : ∀ t, (auditParams s.params t).planView = t.planView := fun t => by
    unfold auditParams
    split
    · split <;> rfl
    · split <;> rfl
  have governed : ∀ t, (governParams s.params t).planView = t.planView := fun t => by
    unfold governParams; split <;> rfl
  have refitted : ∀ t, (refit s.params t).planView = t.planView := fun t => rfl
  unfold applyParams
  rw [governed, audited, refitted, rearmed]
  rfl

theorem applyParams_shapes {pairs : List (ParamId × Int)} {s : State}
    (ranges : ∀ x ∈ pairs, x.1.range.1 ≤ x.2 ∧ x.2 ≤ x.1.range.2) (consistent : consistencyFault s pairs = none) :
    KeepsShapes s (applyParams pairs s) := by
  have view := applyParams_planView pairs s
  refine ⟨fun shape => ?_, planShape_of_view (s := { s with params := s.params.apply pairs }) view⟩
  obtain ⟨params, accepted, -⟩ := PlanView.mk.inj view
  rw [paramShape_iff] at shape ⊢
  obtain ⟨inRange, chain, guard⟩ := shape
  rw [params, accepted]
  exact ⟨inRange.apply ranges, consistent_of_fault_none consistent chain guard⟩

theorem decideSetParams_shapes (pairs : List (BitVec 8 × BitVec 32)) (s : State) :
    KeepsShapes s (decideSetParams pairs s).1 := by
  unfold decideSetParams
  dsimp only
  split
  · exact .refl s
  split
  · exact .refl s
  split
  · exact .refl s
  rename_i ranged
  split
  · exact .refl s
  split
  · exact .refl s
  rename_i consistent
  refine applyParams_shapes (fun x hx => ?_) consistent
  obtain ⟨y, hy, rfl⟩ := List.mem_map.1 hx
  exact clampPair_inRange (firstPair_eq_none.1 ranged y hy)

/-- An accepted timing set passes the guard, or has the width that passes it already (R61, R79). -/
theorem decideSetTiming_shapes (o c a : BitVec 16) (s : State) : KeepsShapes s (decideSetTiming o c a s).1 := by
  unfold decideSetTiming
  extract_lets t stopAfter
  have accepts : ∀ h : Shaft, h.accepted = t →
      (if t.width = s.shaft.accepted.width then none else guardFault s.params t.width) = none →
      KeepsShapes s (setShaft h s) := fun h accepted guarded => by
    refine ⟨fun shape => ?_, planShape_of_view (s := { s with shaft := h }) rfl⟩
    rw [paramShape_iff] at shape ⊢
    obtain ⟨inRange, chain, guard⟩ := shape
    refine ⟨inRange, chain, ?_⟩
    show guardFault s.params h.accepted.width = none
    rw [accepted]
    split at guarded
    · rename_i same; rw [same]; exact guard
    · exact guarded
  split
  · exact .refl s
  split
  · exact .refl s
  split
  · exact .refl s
  split
  · exact .refl s
  split
  · exact .refl s
  split
  · exact .refl s
  split
  · exact .refl s
  rename_i guarded
  split
  · exact accepts _ rfl guarded
  · exact accepts _ rfl guarded

/-! ## The orders -/

/-- The plan stands as long as the head order and the Planner do. -/
theorem planShape_of_head {s t : State} (planner : t.planner = s.planner)
    (orders : activeAtHead t.schedule.orders = true)
    (head : t.schedule.orders.head?.map Order.spec = s.schedule.orders.head?.map Order.spec) (shape : PlanShape s) :
    PlanShape t := by
  rw [planShape_iff] at shape ⊢
  rw [planner, head]
  exact ⟨orders, shape.2⟩

/-- An order that joins behind an ACTIVE one, or is taken at once with the schedule empty (R27). -/
theorem decideOrderAdd_shapes (o : OrderFields) (s : State) : KeepsShapes s (decideOrderAdd o s).1 := by
  unfold decideOrderAdd
  split
  · exact .refl s
  split
  · exact .refl s
  split
  · exact .refl s
  extract_lets spec r clamped order position reply used
  split
  · exact .refl s
  split
  · exact .refl s
  split
  · exact .refl s
  split
  · exact .refl s
  split
  case isTrue active =>
    refine .trans ?_ (judgeQueue_keeps ..).shapes
    refine ⟨id, fun shape => ?_⟩
    obtain ⟨head, -⟩ := (planShape_iff s).1 shape
    refine planShape_of_head (s := s) rfl (activeAtHead_append head (if_pos active).symm) ?_ shape
    cases e : s.schedule.orders with
    | nil => simp [State.orderActive, Schedule.activeOrder, e] at active
    | cons p rest => rfl
  case isFalse idle =>
    obtain ⟨p, g, handed⟩ := handToPlanner_frame spec
      { s with store := used, schedule := { s.schedule with orders := s.schedule.orders ++ [order.taken] } }
    refine ⟨fun shape => by rw [handed]; exact shape, fun shape => ?_⟩
    obtain ⟨head, -⟩ := (planShape_iff s).1 shape
    obtain ⟨-, -, -, flushed, -⟩ := shape
    have none : s.schedule.orders = [] := by
      simpa [State.orderActive, Schedule.activeOrder, find?_active head] using idle
    refine (planShape_iff _).2 ?_
    rw [show (handToPlanner spec _).schedule.orders = s.schedule.orders ++ [order.taken] by rw [handed], none]
    exact ⟨rfl, handToPlanner_plans spec (flushed (by simpa using idle))⟩

/-- A QUEUED order taken out is not the head (R26). -/
theorem decideOrderCancel_shapes (id : BitVec 16) (s : State) : KeepsShapes s (decideOrderCancel id s).1 := by
  unfold decideOrderCancel
  split
  · exact .refl s
  split
  · exact .refl s
  rename_i o found
  split
  · exact .refl s
  rename_i queued
  refine .trans ?_ (judgeQueue_keeps ..).shapes
  refine ⟨fun shape => shape, fun shape => ?_⟩
  obtain ⟨head, -⟩ := (planShape_iff s).1 shape
  cases e : s.schedule.orders with
  | nil => rw [e] at found; cases found
  | cons p rest =>
    rw [e] at head found
    obtain ⟨active, behind⟩ := (activeAtHead_cons p rest).1 head
    have stays : p.spec.orderId ≠ id.toNat := fun named => by
      rw [List.find?_cons_of_pos (by simpa using named), Option.some.injEq] at found
      exact queued (found ▸ active)
    have left : ((p :: rest).filter fun x => decide (x.spec.orderId ≠ id.toNat)) =
        p :: rest.filter fun x => decide (x.spec.orderId ≠ id.toNat) := List.filter_cons_of_pos (by simpa using stays)
    refine planShape_of_head (s := s) rfl ?_ ?_ shape
    · rw [left]
      exact (activeAtHead_cons _ _).2 ⟨active, fun x hx => behind x (List.mem_of_mem_filter hx)⟩
    · rw [left, e]; rfl

/-! ## The other requests -/

/-- The pattern requests write the store alone (R6, R8, R10, R14). -/
theorem decidePatternBegin_keeps (slot n : Byte) (x p : BitVec 16) (bars : Byte) (s : State) :
    Keeps s (decidePatternBegin slot n x p bars s).1 := by
  unfold decidePatternBegin
  dsimp only
  repeat' split
  all_goals exact .of_view rfl

theorem decidePatternAdd_keeps (slot : Byte) (records : List (BitVec 64)) (s : State) :
    Keeps s (decidePatternAdd slot records s).1 := by
  unfold decidePatternAdd
  dsimp only
  repeat' split
  all_goals exact .of_view rfl

theorem decidePatternEnd_keeps (slot : Byte) (s : State) : Keeps s (decidePatternEnd slot s).1 := by
  unfold decidePatternEnd
  dsimp only
  repeat' split
  all_goals exact .of_view rfl

theorem decidePatternErase_keeps (slot : Byte) (s : State) : Keeps s (decidePatternErase slot s).1 := by
  unfold decidePatternErase
  dsimp only
  repeat' split
  all_goals exact .of_view rfl

theorem decidePatternInfo_keeps (slot : Byte) (s : State) : Keeps s (decidePatternInfo slot s).1 := by
  unfold decidePatternInfo; dsimp only; split <;> exact .refl s

theorem decideGetParams_keeps (ids : List (BitVec 8)) (s : State) : Keeps s (decideGetParams ids s).1 := by
  unfold decideGetParams
  split
  · exact .refl s
  · split <;> exact .refl s

theorem decideHistory_keeps (first : Byte) (s : State) : Keeps s (decideHistory first s).1 := by
  unfold decideHistory; split <;> exact .refl s

theorem decideAuditStop_keeps (s : State) : Keeps s (decideAuditStop s).1 := by
  unfold decideAuditStop; split
  · exact endAudit_keeps ..
  · exact .refl s

/-! ## Requests, frames and events -/

theorem decideRequest_shapes {c : Instr} {k tag : Byte} {d : State → State × Reply}
    (h : decideRequest c = some (k, tag, d)) (s : State) : KeepsShapes s (d s).1 := by
  cases c
  case setParams => cases h; exact decideSetParams_shapes ..
  case setTiming => cases h; exact decideSetTiming_shapes ..
  case orderAdd => cases h; exact decideOrderAdd_shapes ..
  case orderCancel => cases h; exact decideOrderCancel_shapes ..
  case patternBegin => cases h; exact (decidePatternBegin_keeps ..).shapes
  case patternAdd => cases h; exact (decidePatternAdd_keeps ..).shapes
  case patternEnd => cases h; exact (decidePatternEnd_keeps ..).shapes
  case patternErase => cases h; exact (decidePatternErase_keeps ..).shapes
  case patternInfo => cases h; exact (decidePatternInfo_keeps ..).shapes
  case getInfo | scheduleList | status | needles | auditResult => cases h; exact .refl s
  case auditStart | reset => cases h; exact Keeps.shapes (.of_view rfl)
  case history => cases h; exact (decideHistory_keeps ..).shapes
  case getParams => cases h; exact (decideGetParams_keeps ..).shapes
  case rephase => cases h; exact (decideRephase_keeps ..).shapes
  case modeRun => cases h; exact (decideRun_keeps ..).shapes
  case modeHold => cases h; exact (decideModeHold_keeps ..).shapes
  case modeIdle | modeThread => cases h; exact (decideRest_keeps ..).shapes
  case abortPanel => cases h; exact (decideAbort_keeps s).shapes
  case homeX => cases h; exact (decideHomeX_keeps s).shapes
  case forceBar => cases h; exact (decideForceBar_keeps ..).shapes
  case clearFaults => cases h; exact (decideClearFaults_keeps s).shapes
  case auditStop => cases h; exact (decideAuditStop_keeps s).shapes
  all_goals cases h

theorem request_shapes (kind tag : Byte) {d : State → State × Reply} (h : ∀ s : State, KeepsShapes s (d s).1)
    (s : State) : KeepsShapes s (request kind tag d s) := by
  unfold request
  split
  · exact .refl s
  split
  · split
    · exact .refl s
    · exact Keeps.shapes (.of_view rfl)
  · exact (h (keepLine s)).between_same

theorem transmit_keeps (s : State) : Keeps s (transmit s) := by
  obtain ⟨tx, q, h⟩ := transmit_frame s
  rw [h]; exact .of_view rfl

theorem decideFrame_shapes (kind tag : Byte) (payload : List Byte) (s : State) :
    KeepsShapes s (decideFrame kind tag payload s).1 := by
  unfold decideFrame
  split
  · exact .refl s
  · exact .refl s
  · exact .refl s
  · split
    · exact decideRequest_shapes ‹_› s
    · exact .refl s

theorem frameArrives_shapes (kind tag : Byte) (payload : List Byte) (s : State) :
    KeepsShapes s (frameArrives kind tag payload s) := by
  unfold frameArrives
  split
  · exact .refl s
  · exact request_shapes kind tag (decideFrame_shapes kind tag payload) s

theorem byteArrives_shapes (b : Byte) (s : State) : KeepsShapes s (byteArrives b s) := by
  unfold byteArrives
  extract_lets a t
  have set : KeepsShapes s t := Keeps.shapes (.of_view rfl)
  cases a with
  | complete f => exact set.trans (frameArrives_shapes f.kind f.tag f.payload t)
  | hunting => exact set
  | collecting bs => exact set

theorem live_shapes {f : State → State} (h : ∀ s : State, KeepsShapes s (f s)) (s : State) :
    KeepsShapes s (live f s) := by
  unfold live
  split
  · exact .refl s
  · exact h s

/-- An event that keeps what `Keeps` says, on the levels it finds or sets. -/
theorem live_keeps_shapes {f : State → State} {s u t : State} (h : ∀ v, Keeps v (f v))
    (e : finish (live f u) = .next t) (levels : u.planView = s.planView := by rfl) : KeepsShapes s t := by
  cases e
  exact ((Keeps.of_view levels).shapes.trans (live_shapes (fun v => (h v).shapes) u)).trans (transmit_keeps _).shapes

theorem txEnds_keeps (s : State) : Keeps s (txEnds s) := by
  unfold txEnds; split <;> exact .of_view rfl

/-- A reset empties the Plan Queue and restores every parameter's default (R64, R187). -/
theorem KeepsShapes.of_reset {s t : State} (h : t.planView = State.reset.planView) : KeepsShapes s t :=
  ⟨fun _ => (Keeps.of_view h).shapes.params paramShape_reset, fun _ => planShape_of_view h (by decide)⟩

theorem exec_event_shapes {c : Instr} {s t : State} (event : decideRequest c = none) (h : exec c s = .next t) :
    KeepsShapes s t := by
  cases c
  case resetTakesEffect strap =>
    simp only [exec, execResetTakesEffect] at h
    split at h <;> cases h
    · exact .of_reset rfl
    · exact (transmit_keeps s).shapes
  case resetn => cases h; exact .of_reset rfl
  case resetnReleased strap =>
    simp only [exec, execResetnReleased] at h
    split at h <;> cases h
    · exact .of_reset rfl
    · exact (transmit_keeps s).shapes
  case frameReceived kind tag payload =>
    cases h; exact (frameArrives_shapes kind tag payload s).trans (transmit_keeps _).shapes
  case byteReceived b => cases h; exact (live_shapes (byteArrives_shapes b) s).trans (transmit_keeps _).shapes
  case barInputChange b up dn =>
    cases h
    refine Keeps.shapes (.trans (t := if _ then _ else _) ?_ (transmit_keeps _))
    split
    · exact .of_view rfl
    · exact .after_same (barInputs_keeps b _)
  case estopReleased | drvfltReleased =>
    cases h; exact Keeps.shapes (.after_same (transmit_keeps _))
  case interByteGap | framingErrorOrBreak => exact live_keeps_shapes (f := setAsm none) (fun _ => .of_view rfl) h
  case frameTransmitted => exact live_keeps_shapes txEnds_keeps h
  case indexPulse now => exact live_keeps_shapes (takeIndex_keeps now) h
  case stopped => exact live_keeps_shapes shaftStops_keeps h
  case stepPulseDue axis => exact live_keeps_shapes (stepDue_keeps axis) h
  case feedBegin => exact live_keeps_shapes feedBegin_keeps h
  case markEdge => exact live_keeps_shapes markEdge_keeps h
  case cutTimeExpiry => exact live_keeps_shapes cutEnds_keeps h
  case homePulseDue => exact live_keeps_shapes homingDue_keeps h
  case xhomeAsserted level => exact live_keeps_shapes (xhomeLevel_keeps level) h
  case barChangeBegin => exact live_keeps_shapes barChangeBegin_keeps h
  case deadTimeExpiry b => exact live_keeps_shapes (deadTimeEnds_keeps b) h
  case barTimeout b => exact live_keeps_shapes (barTimesOut_keeps b) h
  case drvfltAsserted => exact live_keeps_shapes (fun v => (latch_stop .drive none v).keeps) h
  case startInput => exact live_keeps_shapes (decideRun_keeps .input) h
  case jogReleased => exact live_keeps_shapes (fun v => (jogEnd_gov v).keeps) h
  case scanTimerExpiry => exact live_keeps_shapes scanBegins_keeps h
  case scanComplete first rest => exact live_keeps_shapes (scanEnds_keeps _) h
  case estopAsserted =>
    refine live_keeps_shapes (fun v => ?_) h
    exact ((estopBars_bars v).keeps.trans (estopMotion_keeps _)).trans (latch_stop ..).keeps
  case demandPwmPeriod =>
    refine live_keeps_shapes (fun v => ?_) h
    exact .of_view rfl
  case encoderCount a b =>
    refine live_keeps_shapes (fun v => ?_) h
    split
    · exact takeCount_keeps ..
    · exact .refl v
  case holdInput =>
    refine live_keeps_shapes (fun v => ?_) h
    split
    · exact decideHold_keeps ..
    · exact .refl v
  case jogPressed =>
    refine live_keeps_shapes (fun v => ?_) h
    split
    · exact (jogBegin_gov v).keeps
    · exact .refl v
  case feedRollerEdge a b =>
    refine live_keeps_shapes (fun v => ?_) h
    split
    · exact addRoll_keeps v
    · exact .refl v
  case measuringWheelEdge a b =>
    refine live_keeps_shapes (fun v => ?_) h
    split
    · exact addWheel_keeps v
    · exact .refl v
  all_goals cases event

/-- What a step keeps of the parameters and of the plan. -/
theorem step_shapes {s t : State} (h : step s = .next t) : KeepsShapes s t := by
  unfold step at h
  split at h
  · cases h; exact .refl s
  · rename_i c rest _
    refine .trans (Keeps.shapes (t := { s with pending := rest }) (.of_view rfl)) ?_
    cases e : decideRequest c with
    | none => exact exec_event_shapes e h
    | some p =>
      obtain ⟨k, tag, d⟩ := p
      rw [exec_request e] at h
      cases h
      exact (request_shapes k tag (decideRequest_shapes e) _).trans (transmit_keeps _).shapes

/-- Settles O5: the removal of the head, the take and the end of an order keep the plan in shape; nothing else of a step
writes it. -/
theorem planQueueFollowsActiveOrderKept : Obligations.PlanQueueFollowsActiveOrderKept :=
  fun _ _ shape next => (step_shapes next).plan shape

/-- Settles O11: SET_PARAMS by its checks, SET_TIMING by the guard; nothing else of a step writes a parameter or the
accepted window width, but a reset. -/
theorem parametersStayInRangeKept : Obligations.ParametersStayInRangeKept :=
  fun _ _ shape next => (step_shapes next).params shape

end Sys2Proof.Machine
end

section
/-! PROOFS. What a running line never writes: the input levels, the parameters, the Shaft Timing Unit, the reset level
and the waiting commands. Every operation of the other blocks, and every request but SET_PARAMS, SET_TIMING and
REPHASE, leaves this setting alone: each by its own branches and the same fact of the operations it calls. -/

namespace Sys2Proof.Machine

/-! ## The setting of the running blocks -/

/-- What the blocks of the running line read and do not write. -/
structure Setting where
  pins : Pins
  params : Params
  shaft : Shaft
  resetAsserted : Bool
  pending : List Instr

def State.setting (s : State) : Setting := ⟨s.pins, s.params, s.shaft, s.resetAsserted, s.pending⟩

@[simp] theorem setting_mk (p : Pins) (q : Params) (t : Store) (c : Schedule) (n : Planner) (h : Shaft) (g : Gov)
    (m : Motion) (u : Bars) (w : Monitor) (l : Line) (a : Audit) (k : Link) (r : Bool) (d : Nat) (cs : List Instr) :
    (State.mk p q t c n h g m u w l a k r d cs).setting = ⟨p, q, h, r, cs⟩ := rfl

@[simp] theorem setting_eta (s : State) :
    (⟨s.pins, s.params, s.shaft, s.resetAsserted, s.pending⟩ : Setting) = s.setting :=
  rfl

theorem SameButGov.setting {s t : State} : SameButGov s t → t.setting = s.setting := by
  rintro ⟨_, rfl⟩; rfl
theorem SameButStop.setting {s t : State} : SameButStop s t → t.setting = s.setting := by
  rintro ⟨_, _, _, _, rfl⟩; rfl
theorem SameButBars.setting {s t : State} : SameButBars s t → t.setting = s.setting := by
  rintro ⟨_, _, rfl⟩; rfl
theorem SameButLine.setting {s t : State} : SameButLine s t → t.setting = s.setting := by
  rintro ⟨_, _, _, _, _, _, _, _, rfl⟩; rfl

/-! ## The shared operations -/

@[simp] theorem startOrder_setting (p : Purpose) (c : List Nat) (s : State) :
    (startOrder p c s).setting = s.setting := (startOrder_gov ..).setting
@[simp] theorem jogBegin_setting (s : State) : (jogBegin s).setting = s.setting := (jogBegin_gov ..).setting
@[simp] theorem jogEnd_setting (s : State) : (jogEnd s).setting = s.setting := (jogEnd_gov ..).setting
@[simp] theorem stopAngleGov_setting (s : State) : (stopAngleGov s).setting = s.setting := (stopAngleGov_gov ..).setting
@[simp] theorem indexGov_setting (b : Bool) (s : State) :
    (indexGov b s).setting = s.setting := (indexGov_gov ..).setting
@[simp] theorem replayFormed_setting (s : State) : (replayFormed s).setting = s.setting := (replayFormed_gov ..).setting
@[simp] theorem setMode_setting (m : Mode) (p : Option StopPurpose) (k : Option StopKind) (why : Reason) (s : State) :
    (setMode m p k why s).setting = s.setting := (setMode_stop ..).setting
@[simp] theorem reachStop_setting (why : Reason) (s : State) :
    (reachStop why s).setting = s.setting := (reachStop_stop ..).setting
@[simp] theorem stitchStop_setting (why : Reason) (s : State) :
    (stitchStop why s).setting = s.setting := (stitchStop_stop ..).setting
@[simp] theorem latch_setting (src : FaultSource) (ref : Option Ref) (s : State) :
    (latch src ref s).setting = s.setting := (latch_stop ..).setting
@[simp] theorem carryHold_setting (k : StopKind) (s : State) :
    (carryHold k s).setting = s.setting := (carryHold_stop ..).setting
@[simp] theorem beginHold_setting (kind : HoldKind) (origin : HoldOrigin) (why : Reason) (s : State) :
    (beginHold kind origin why s).setting = s.setting := (beginHold_stop ..).setting
@[simp] theorem setBar_setting (b : Bar) (r : BarRec) (s : State) :
    (setBar b r s).setting = s.setting := (setBar_bars ..).setting
@[simp] theorem confirmBar_setting (b : Bar) (s : State) :
    (confirmBar b s).setting = s.setting := (confirmBar_bars ..).setting
@[simp] theorem energizeBar_setting (b : Bar) (s : State) :
    (energizeBar b s).setting = s.setting := (energizeBar_bars ..).setting
@[simp] theorem beginChange_setting (kind : ChangeKind) (target : BarSet) (s : State) :
    (beginChange kind target s).setting = s.setting := (beginChange_bars ..).setting
@[simp] theorem estopBars_setting (s : State) : (estopBars s).setting = s.setting := (estopBars_bars ..).setting
@[simp] theorem testResume_setting (s : State) : (testResume s).setting = s.setting := (testResume_line ..).setting
@[simp] theorem completeRecordChange_setting (s : State) :
    (completeRecordChange s).setting = s.setting := (completeRecordChange_line ..).setting
@[simp] theorem headStep_setting (s : State) : (headStep s).setting = s.setting := (headStep_line ..).setting
@[simp] theorem startReplay_setting (s : State) : (startReplay s).setting = s.setting := (startReplay_line ..).setting
@[simp] theorem startFrozen_setting (s : State) : (startFrozen s).setting = s.setting := (startFrozen_line ..).setting
@[simp] theorem replayStep_setting (s : State) : (replayStep s).setting = s.setting := (replayStep_line ..).setting
@[simp] theorem takeStep_setting (s : State) : (takeStep s).setting = s.setting := (takeStep_line ..).setting
@[simp] theorem parkDone_setting (s : State) : (parkDone s).setting = s.setting := (parkDone_line ..).setting
@[simp] theorem orderPark_setting (s : State) : (orderPark s).setting = s.setting := (orderPark_line ..).setting
@[simp] theorem stopForRecord_setting (p : StopPurpose) (s : State) :
    (stopForRecord p s).setting = s.setting := (stopForRecord_line ..).setting
@[simp] theorem endStep_setting (e : Bool) (s : State) : (endStep e s).setting = s.setting := (endStep_line ..).setting
@[simp] theorem watch_setting (e : Bool) (s : State) : (watch e s).setting = s.setting := (watch_line ..).setting
@[simp] theorem beginResume_setting (why : Reason) (s : State) :
    (beginResume why s).setting = s.setting := (beginResume_line ..).setting
@[simp] theorem parkOrder_setting (s : State) : (parkOrder s).1.setting = s.setting := (parkOrder_gov s).setting
@[simp] theorem stoppedGov_setting (s : State) : (stoppedGov s).1.setting = s.setting := (stoppedGov_gov s).setting
@[simp] theorem removeHead_setting (s : State) : (removeHead s).setting = s.setting := by
  obtain ⟨_, _, h, -, -⟩ := removeHead_frame s
  rw [h]; rfl
@[simp] theorem recordBegun_setting (r : PlanRecord) (s : State) : (recordBegun r s).setting = s.setting := by
  obtain ⟨_, _, _, h⟩ := recordBegun_frame r s
  rw [h]; rfl
@[simp] theorem endOrder_setting (outcome : PanelOutcome) (s : State) : (endOrder outcome s).setting = s.setting := by
  obtain ⟨_, _, _, _, _, h⟩ := endOrder_frame outcome s
  rw [h]; rfl
@[simp] theorem judgeQueue_setting (before : Nat) (s : State) : (judgeQueue before s).setting = s.setting := by
  obtain ⟨_, _, h⟩ := judgeQueue_frame before s
  rw [h]; rfl
@[simp] theorem addCmd_setting (n : Nat) (s : State) : (addCmd n s).setting = s.setting := by
  obtain ⟨_, _, _, _, _, h⟩ := addCmd_frame n s
  rw [h]; rfl
@[simp] theorem endAudit_setting (cause : EndCause) (s : State) : (endAudit cause s).setting = s.setting := by
  obtain ⟨_, _, _, _, _, h⟩ := endAudit_frame cause s
  rw [h]; rfl
@[simp] theorem transmit_setting (s : State) : (transmit s).setting = s.setting := rfl
@[simp] theorem raiseNotice_setting (n : Notice) (s : State) : (raiseNotice n s).setting = s.setting := rfl
@[simp] theorem drawChoice_setting (s : State) : (drawChoice s).2.setting = s.setting := rfl
@[simp] theorem setStep_setting (r : ResumeStep) (s : State) : (setStep r s).setting = s.setting := rfl
@[simp] theorem setRequested_setting (r : ReqMode) (s : State) : (setRequested r s).setting = s.setting := rfl
@[simp] theorem withdraw_setting (s : State) : (withdraw s).setting = s.setting := rfl
@[simp] theorem setFeed_setting (f : Feed) (s : State) : (setFeed f s).setting = s.setting := rfl
@[simp] theorem dropFeed_setting (s : State) : (dropFeed s).setting = s.setting := rfl
@[simp] theorem dropBurst_setting (s : State) : (dropBurst s).setting = s.setting := rfl
@[simp] theorem zeroPanel_setting (s : State) : (zeroPanel s).setting = s.setting := rfl
@[simp] theorem dropChange_setting (s : State) : (dropChange s).setting = s.setting := rfl
@[simp] theorem recompute_setting (s : State) : (recompute s).setting = s.setting := rfl
@[simp] theorem freeze_setting (s : State) : (freeze s).setting = s.setting := rfl
@[simp] theorem flushPlan_setting (s : State) : (flushPlan s).setting = s.setting := rfl
@[simp] theorem monitorStopped_setting (s : State) : (monitorStopped s).setting = s.setting := rfl
@[simp] theorem countStitch_setting (s : State) : (countStitch s).setting = s.setting := rfl
@[simp] theorem clearBroken_setting (s : State) : (clearBroken s).setting = s.setting := rfl
@[simp] theorem replayBegin_setting (s : State) : (replayBegin s).setting = s.setting := rfl
@[simp] theorem endAtLimit_setting (cause : EndCause) (n : Nat) (s : State) :
    (endAtLimit cause n s).setting = s.setting := by
  unfold endAtLimit; split <;> simp
@[simp] theorem addRoll_setting (s : State) : (addRoll s).setting = s.setting := by
  unfold addRoll; split <;> simp
@[simp] theorem addWheel_setting (s : State) : (addWheel s).setting = s.setting := by
  unfold addWheel; split <;> simp
@[simp] theorem auditIndex_setting (s : State) : (auditIndex s).setting = s.setting := by
  unfold auditIndex; split <;> simp
@[simp] theorem monitorBurst_setting (r : Ref) (src : StitchSource) (s : State) :
    (monitorBurst r src s).setting = s.setting := by
  unfold monitorBurst; split <;> simp
@[simp] theorem monitorClose_setting (s : State) : (monitorClose s).setting = s.setting := by
  unfold monitorClose; split <;> simp
@[simp] theorem evaluate_setting (r : Ref) (s : State) : (evaluate r s).setting = s.setting := by
  unfold evaluate; dsimp only; split <;> simp
@[simp] theorem monitorOpen_setting (s : State) : (monitorOpen s).setting = s.setting := by
  unfold monitorOpen; repeat' split
  all_goals simp
@[simp] theorem scanBegins_setting (s : State) : (scanBegins s).setting = s.setting := by
  unfold scanBegins; split <;> simp
@[simp] theorem scanFailed_setting (s : State) : (scanFailed s).setting = s.setting := by
  unfold scanFailed; split <;> simp
@[simp] theorem scanEnds_setting (received : BitVec 104) (s : State) : (scanEnds received s).setting = s.setting := by
  unfold scanEnds scanGood; repeat' split
  all_goals simp

/-! ## The Line Controller -/

@[simp] theorem lineBurstDone_setting (last emptied : Bool) (s : State) :
    (lineBurstDone last emptied s).setting = s.setting := by
  unfold lineBurstDone; dsimp only; repeat' split
  all_goals simp
@[simp] theorem restoreDone_setting (s : State) : (restoreDone s).setting = s.setting := by
  unfold restoreDone; repeat' split
  all_goals simp
@[simp] theorem lineRecordDone_setting (s : State) : (lineRecordDone s).setting = s.setting := by
  unfold lineRecordDone; repeat' split
  all_goals simp
@[simp] theorem lineFeedDone_setting (s : State) : (lineFeedDone s).setting = s.setting := by
  unfold lineFeedDone; split <;> simp
@[simp] theorem lineBackMoveDone_setting (s : State) : (lineBackMoveDone s).setting = s.setting := by
  unfold lineBackMoveDone; dsimp only; repeat' split
  all_goals simp
@[simp] theorem lineCount_setting (d : Direction) (s : State) : (lineCount d s).setting = s.setting := by
  unfold lineCount; dsimp only; repeat' split
  all_goals simp
@[simp] theorem lineStopped_setting (s : State) : (lineStopped s).setting = s.setting := by
  unfold lineStopped; split <;> simp
@[simp] theorem cancelHold_setting (why : Reason) (s : State) : (cancelHold why s).setting = s.setting := by
  unfold cancelHold; dsimp only; repeat' split
  all_goals simp
@[simp] theorem leaveFaulted_setting (s : State) : (leaveFaulted s).setting = s.setting := by
  unfold leaveFaulted; repeat' split
  all_goals simp
@[simp] theorem abortChange_setting (s : State) : (abortChange s).setting = s.setting := by
  unfold abortChange; repeat' split
  all_goals simp

/-! ## The Motion Output -/

@[simp] theorem appendHistory_setting (st : Stitch) (s : State) : (appendHistory st s).setting = s.setting := by
  unfold appendHistory; simp

@[simp] theorem burstPeriod_setting (s : State) : (burstPeriod s).2.setting = s.setting := by
  unfold burstPeriod; repeat' split
  all_goals rfl

@[simp] theorem completeHeadBurst_setting (b : Burst) (s : State) : (completeHeadBurst b s).setting = s.setting := by
  unfold completeHeadBurst; simp
@[simp] theorem completeReplayBurst_setting (b : Burst) (s : State) :
    (completeReplayBurst b s).setting = s.setting := by
  unfold completeReplayBurst; simp
@[simp] theorem completeBurst_setting (b : Burst) (s : State) : (completeBurst b s).setting = s.setting := by
  unfold completeBurst; split <;> simp
@[simp] theorem emitBurst_setting (w : Nat) (b : Burst) (s : State) : (emitBurst w b s).setting = s.setting := by
  unfold emitBurst; simp
@[simp] theorem openBurst_setting (b : Burst) (s : State) : (openBurst b s).setting = s.setting := by
  unfold openBurst; split <;> simp
@[simp] theorem motionOpen_setting (s : State) : (motionOpen s).setting = s.setting := by
  unfold motionOpen; repeat' split
  all_goals simp
@[simp] theorem motionClose_setting (s : State) : (motionClose s).setting = s.setting := by
  unfold motionClose; split <;> simp
@[simp] theorem completeFeed_setting (s : State) : (completeFeed s).setting = s.setting := by
  unfold completeFeed; dsimp only; split <;> simp
@[simp] theorem completeMove_setting (f : Feed) (s : State) : (completeMove f s).setting = s.setting := by
  unfold completeMove; split <;> simp
@[simp] theorem feedSpent_setting (f : Feed) (s : State) : (feedSpent f s).setting = s.setting := by
  unfold feedSpent beginCut; split
  · dsimp only; split <;> simp
  · split <;> simp
@[simp] theorem moveFeed_setting (f : Feed) (s : State) : (moveFeed f s).setting = s.setting := by
  unfold moveFeed; split <;> simp
@[simp] theorem beginFeed_setting (kind : FeedKind) (x y : Int) (s : State) :
    (beginFeed kind x y s).setting = s.setting := by
  unfold beginFeed; repeat' split
  all_goals simp
@[simp] theorem beginHead_setting (s : State) : (beginHead s).setting = s.setting := by
  unfold beginHead; repeat' split
  all_goals simp
@[simp] theorem resumeFeed_setting (f : Feed) (s : State) : (resumeFeed f s).setting = s.setting := by
  unfold resumeFeed; repeat' split
  all_goals simp
@[simp] theorem setAside_setting (s : State) : (setAside s).setting = s.setting := by
  unfold setAside; split <;> simp
@[simp] theorem takeUpHead_setting (s : State) : (takeUpHead s).setting = s.setting := by
  unfold takeUpHead; repeat' split
  all_goals simp
@[simp] theorem beginNextFeed_setting (s : State) : (beginNextFeed s).setting = s.setting := by
  unfold beginNextFeed beginBackMove; repeat' split
  all_goals simp
@[simp] theorem feedBegin_setting (s : State) : (feedBegin s).setting = s.setting := by
  unfold feedBegin; repeat' split
  all_goals simp
@[simp] theorem movePulse_setting (axis : Axis) (positive : Bool) (s : State) :
    (movePulse axis positive s).setting = s.setting := by
  unfold movePulse; repeat' split
  all_goals simp
@[simp] theorem burstPulse_setting (axis : Axis) (b : Burst) (s : State) :
    (burstPulse axis b s).setting = s.setting := by
  unfold burstPulse; dsimp only; repeat' split
  all_goals simp
@[simp] theorem feedPulse_setting (axis : Axis) (f : Feed) (s : State) : (feedPulse axis f s).setting = s.setting := by
  unfold feedPulse; dsimp only; repeat' split
  all_goals simp
@[simp] theorem stepDue_setting (axis : Axis) (s : State) : (stepDue axis s).setting = s.setting := by
  unfold stepDue; repeat' split
  all_goals simp
@[simp] theorem emitHeld_setting (axis : Axis) (s : State) : (emitHeld axis s).setting = s.setting := by
  unfold emitHeld; repeat' split
  all_goals simp
@[simp] theorem endHoming_setting (found : Bool) (travel : Nat) (s : State) :
    (endHoming found travel s).setting = s.setting := by
  unfold endHoming; simp
@[simp] theorem homingFound_setting (travel : Nat) (s : State) : (homingFound travel s).setting = s.setting := by
  unfold homingFound; simp
@[simp] theorem homingPulse_setting (h : Homing) (s : State) : (homingPulse h s).setting = s.setting := by
  unfold homingPulse; dsimp only; split <;> simp
@[simp] theorem homingDue_setting (s : State) : (homingDue s).setting = s.setting := by
  unfold homingDue; repeat' split
  all_goals simp
@[simp] theorem emitHeldHoming_setting (s : State) : (emitHeldHoming s).setting = s.setting := by
  unfold emitHeldHoming; repeat' split
  all_goals simp
@[simp] theorem emitWaiting_setting (s : State) : (emitWaiting s).setting = s.setting := by
  unfold emitWaiting; split <;> simp
@[simp] theorem startHoming_setting (s : State) : (startHoming s).setting = s.setting := by
  unfold startHoming; dsimp only; split <;> simp
@[simp] theorem xhomeLevel_setting (level : Bool) (s : State) : (xhomeLevel level s).setting = s.setting := by
  unfold xhomeLevel; repeat' split
  all_goals simp
@[simp] theorem markEdge_setting (s : State) : (markEdge s).setting = s.setting := by
  unfold markEdge; repeat' split
  all_goals simp
@[simp] theorem cutEnds_setting (s : State) : (cutEnds s).setting = s.setting := by
  unfold cutEnds; dsimp only; repeat' split
  all_goals simp
@[simp] theorem estopMotion_setting (s : State) : (estopMotion s).setting = s.setting := by
  unfold estopMotion; dsimp only; split <;> simp

/-! ## The needle bars -/

@[simp] theorem settleChange_setting (s : State) : (settleChange s).setting = s.setting := by
  unfold settleChange; repeat' split
  all_goals simp
@[simp] theorem beginWaiting_setting (s : State) : (beginWaiting s).setting = s.setting := by
  unfold beginWaiting; repeat' split
  all_goals simp
@[simp] theorem barChangeBegin_setting (s : State) : (barChangeBegin s).setting = s.setting := by
  unfold barChangeBegin; repeat' split
  all_goals simp
@[simp] theorem deadTimeEnds_setting (b : Bar) (s : State) : (deadTimeEnds b s).setting = s.setting := by
  unfold deadTimeEnds; repeat' split
  all_goals simp
@[simp] theorem endForce_setting (b : Bar) (s : State) : (endForce b s).setting = s.setting := by
  unfold endForce; repeat' split
  all_goals simp
@[simp] theorem barTimesOut_setting (b : Bar) (s : State) : (barTimesOut b s).setting = s.setting := by
  unfold barTimesOut; dsimp only; split <;> simp
@[simp] theorem barInputs_setting (b : Bar) (s : State) : (barInputs b s).setting = s.setting := by
  unfold barInputs; dsimp only; split <;> simp

/-! ## The shaft's deliveries -/

@[simp] theorem deliverOpen_setting (s : State) : (deliverOpen s).setting = s.setting := by
  unfold deliverOpen; dsimp only; repeat' split
  all_goals simp
@[simp] theorem deliverClose_setting (s : State) : (deliverClose s).setting = s.setting := by
  unfold deliverClose; simp
@[simp] theorem deliverIndex_setting (measured : Bool) (s : State) : (deliverIndex measured s).setting = s.setting := by
  unfold deliverIndex; dsimp only; repeat' split
  all_goals simp
@[simp] theorem governorStopped_setting (s : State) : (governorStopped s).setting = s.setting := by
  unfold governorStopped; dsimp only; split <;> simp

/-! ## The requests -/

@[simp] theorem handToPlanner_setting (o : OrderSpec) (s : State) : (handToPlanner o s).setting = s.setting := by
  obtain ⟨_, _, h⟩ := handToPlanner_frame o s
  rw [h]; rfl
@[simp] theorem decideRun_setting (why : Reason) (s : State) : (decideRun why s).1.setting = s.setting := by
  unfold decideRun; dsimp only; repeat' split
  all_goals simp
@[simp] theorem decideHold_setting (kind : HoldKind) (why : Reason) (s : State) :
    (decideHold kind why s).1.setting = s.setting := by
  unfold decideHold; repeat' split
  all_goals simp
@[simp] theorem decideModeHold_setting (kind : Byte) (s : State) : (decideModeHold kind s).1.setting = s.setting := by
  unfold decideModeHold; split <;> simp
@[simp] theorem decideRest_setting (r : ReqMode) (m : Mode) (s : State) : (decideRest r m s).1.setting = s.setting := by
  unfold decideRest; repeat' split
  all_goals simp
@[simp] theorem decideClearFaults_setting (s : State) : (decideClearFaults s).1.setting = s.setting := by
  unfold decideClearFaults; dsimp only; repeat' split
  all_goals simp
@[simp] theorem decideAbort_setting (s : State) : (decideAbort s).1.setting = s.setting := by
  unfold decideAbort; repeat' split
  all_goals simp
@[simp] theorem decideHomeX_setting (s : State) : (decideHomeX s).1.setting = s.setting := by
  unfold decideHomeX; repeat' split
  all_goals simp
@[simp] theorem decideForceBar_setting (bar direction : Byte) (s : State) :
    (decideForceBar bar direction s).1.setting = s.setting := by
  unfold decideForceBar; repeat' split
  all_goals simp
@[simp] theorem decideAuditStop_setting (s : State) : (decideAuditStop s).1.setting = s.setting := by
  unfold decideAuditStop; split <;> simp
@[simp] theorem decideHistory_setting (first : Byte) (s : State) : (decideHistory first s).1.setting = s.setting := by
  unfold decideHistory; split <;> simp
@[simp] theorem decidePatternBegin_setting (slot n : Byte) (x p : BitVec 16) (bars : Byte) (s : State) :
    (decidePatternBegin slot n x p bars s).1.setting = s.setting := by
  unfold decidePatternBegin; dsimp only; repeat' split
  all_goals simp
@[simp] theorem decidePatternAdd_setting (slot : Byte) (records : List (BitVec 64)) (s : State) :
    (decidePatternAdd slot records s).1.setting = s.setting := by
  unfold decidePatternAdd; dsimp only; repeat' split
  all_goals simp
@[simp] theorem decidePatternEnd_setting (slot : Byte) (s : State) :
    (decidePatternEnd slot s).1.setting = s.setting := by
  unfold decidePatternEnd; dsimp only; repeat' split
  all_goals simp
@[simp] theorem decidePatternErase_setting (slot : Byte) (s : State) :
    (decidePatternErase slot s).1.setting = s.setting := by
  unfold decidePatternErase; dsimp only; repeat' split
  all_goals simp
@[simp] theorem decidePatternInfo_setting (slot : Byte) (s : State) :
    (decidePatternInfo slot s).1.setting = s.setting := by
  unfold decidePatternInfo; dsimp only; split <;> simp
@[simp] theorem decideOrderAdd_setting (o : OrderFields) (s : State) : (decideOrderAdd o s).1.setting = s.setting := by
  unfold decideOrderAdd; dsimp only; repeat' split
  all_goals simp
@[simp] theorem decideOrderCancel_setting (id : BitVec 16) (s : State) :
    (decideOrderCancel id s).1.setting = s.setting := by
  unfold decideOrderCancel; repeat' split
  all_goals simp
@[simp] theorem decideGetParams_setting (ids : List (BitVec 8)) (s : State) :
    (decideGetParams ids s).1.setting = s.setting := by
  unfold decideGetParams; repeat' split
  all_goals simp

end Sys2Proof.Machine
end

section
/-! PROOFS. The Shaft Timing Unit's shape (R66, R70, R79) under every command: what its own operations do to it,
and that nothing else writes it. -/

namespace Sys2Proof.Machine

theorem shaft_of_setting {s t : State} (h : t.setting = s.setting) : t.shaft = s.shaft := congrArg Setting.shaft h

@[simp] theorem latch_shaft (src : FaultSource) (ref : Option Ref) (s : State) : (latch src ref s).shaft = s.shaft :=
  shaft_of_setting (latch_setting ..)
@[simp] theorem lineCount_shaft (d : Direction) (s : State) : (lineCount d s).shaft = s.shaft :=
  shaft_of_setting (lineCount_setting ..)
@[simp] theorem testResume_shaft (s : State) : (testResume s).shaft = s.shaft := shaft_of_setting (testResume_setting s)
@[simp] theorem emitWaiting_shaft (s : State) :
    (emitWaiting s).shaft = s.shaft := shaft_of_setting (emitWaiting_setting s)
@[simp] theorem deliverOpen_shaft (s : State) :
    (deliverOpen s).shaft = s.shaft := shaft_of_setting (deliverOpen_setting s)
@[simp] theorem deliverClose_shaft (s : State) : (deliverClose s).shaft = s.shaft :=
  shaft_of_setting (deliverClose_setting s)
@[simp] theorem stopAngleGov_shaft (s : State) : (stopAngleGov s).shaft = s.shaft :=
  shaft_of_setting (stopAngleGov_setting s)
@[simp] theorem deliverIndex_shaft (measured : Bool) (s : State) : (deliverIndex measured s).shaft = s.shaft :=
  shaft_of_setting (deliverIndex_setting ..)

/-! ## The unit's own operations -/

section
variable {h : Shaft} (shape : ShaftShape h)
include shape

/-- A count either stays short of 4104 with a valid angle, or is kept modulo 4096 (R66, R69). -/
theorem ShaftShape.count (d : Direction) (m : Mode) : ShaftShape (h.count d m) := by
  obtain ⟨-, -, offset, run, sets⟩ := shape
  refine ⟨fun valid => ?_, fun invalid => ?_, offset, ?_, sets⟩
  · have stays : ¬ 4104 ≤ mag (h.counted d) := by
      simp only [Shaft.count, Shaft.losesIndex, Bool.and_eq_true, Bool.not_eq_true'] at valid
      simpa [valid.1] using valid.2
    have position : (h.count d m).position = h.counted d := if_pos valid
    simp only [mag] at stays
    omega
  · have position : (h.count d m).position = h.counted d % 4096 := if_neg (by simpa [Shaft.count] using invalid)
    omega
  · show h.reverseAfter d m ≤ 65535
    unfold Shaft.reverseAfter
    split
    · omega
    · split <;> omega

/-- A pending set was accepted, so the active one is an accepted one too (R79, R80). -/
theorem ShaftShape.applyAtIndex : ShaftShape h.applyAtIndex := by
  unfold Shaft.applyAtIndex
  split
  · exact shape
  · rename_i t pending
    obtain ⟨valid, invalid, offset, run, -, sets⟩ := shape
    have applied : ShaftShape { h with active := t, pendingSet := none } :=
      ⟨valid, invalid, offset, run, sets t pending, by simp⟩
    dsimp only
    split <;> exact applied

theorem ShaftShape.stop : ShaftShape h.stop := by
  unfold Shaft.stop
  dsimp only
  split
  · exact shape
  · rename_i t pending
    obtain ⟨valid, invalid, offset, run, -, sets⟩ := shape
    exact ⟨valid, invalid, offset, run, sets t pending, by simp⟩

end

/-! ## What the events of the window leave of the unit -/

/-- The events of an angle write the window state alone (R74, R75). -/
theorem reachAngle_shaft (s : State) : ∃ w, (reachAngle s).shaft = { s.shaft with window := w } := by
  unfold reachAngle
  dsimp only
  split
  · exact ⟨_, rfl⟩
  split
  · split
    · exact ⟨_, deliverOpen_shaft _⟩
    · exact ⟨_, rfl⟩
  split
  · exact ⟨_, stopAngleGov_shaft _⟩
  split
  · exact ⟨_, deliverClose_shaft _⟩
  · exact ⟨_, rfl⟩

/-- The jump of a taken index writes the position and the window state alone (R68, R76). -/
theorem indexJump_shaft (s : State) : ∃ w, (indexJump s).shaft = { s.shaft with position := 0, window := w } := by
  unfold indexJump
  dsimp only
  split
  · obtain ⟨v, passed⟩ := reachAngle_shaft (setShaft { s.shaft with position := -1 } s)
    obtain ⟨w, reached⟩ := reachAngle_shaft
      (setShaft { (reachAngle (setShaft { s.shaft with position := -1 } s)).shaft with position := 0 }
        (reachAngle (setShaft { s.shaft with position := -1 } s)))
    exact ⟨w, by rw [reached, setShaft_shaft, passed]; rfl⟩
  · split
    · obtain ⟨w, reached⟩ := reachAngle_shaft (setShaft { s.shaft with position := 0 } s)
      exact ⟨w, reached⟩
    · exact ⟨_, rfl⟩

/-- The figures of a forward-revolution index (R71, R72). -/
theorem measureRevolution_shaft (now : Nat) (s : State) : ∃ p v,
    (measureRevolution now s).shaft =
      { s.shaft with revStart := some now, clean := true, period := p, speed := v } := by
  unfold measureRevolution
  dsimp only
  repeat' split
  all_goals exact ⟨_, _, rfl⟩

/-- A count and what follows it write the count's own state and the window state (R65 to R75). -/
theorem takeCount_shaft (d : Direction) (s : State) :
    ∃ w, (takeCount d s).shaft = { s.shaft.count d s.line.effective with window := w } := by
  have effects : ∀ encoder t, ∃ w, (countEffects d encoder t).shaft = { t.shaft with window := w } := by
    intro encoder t
    have latched : (if encoder then latch .encoder none t else t).shaft = t.shaft := by
      split
      · exact latch_shaft ..
      · rfl
    unfold countEffects
    dsimp only
    rw [emitWaiting_shaft, testResume_shaft]
    split
    · obtain ⟨w, reached⟩ := reachAngle_shaft (if encoder then latch .encoder none t else t)
      exact ⟨w, by rw [reached, latched]⟩
    · exact ⟨_, latched⟩
  unfold takeCount
  dsimp only
  split
  · split
    · obtain ⟨w, e⟩ := effects _ _
      exact ⟨w, (lineCount_shaft ..).trans e⟩
    · obtain ⟨w, e⟩ := effects _ _
      exact ⟨w, by rw [e, lineCount_shaft]; rfl⟩
  · obtain ⟨w, e⟩ := effects _ _
    exact ⟨w, by rw [e, lineCount_shaft]; rfl⟩

/-! ## Counts, index pulses and the stopped shaft -/

theorem takeCount_shaftShape (d : Direction) {s : State} (shape : ShaftShape s.shaft) :
    ShaftShape (takeCount d s).shaft := by
  obtain ⟨w, e⟩ := takeCount_shaft d s
  rw [e]; exact shape.count d s.line.effective

/-- What a forward-revolution index leaves of the unit: the position 0, the figures and the window state (R68, R72). -/
theorem forwardIndex_shaft (now : Nat) (s : State) : ∃ p v w, (forwardIndex now s).shaft =
    { s.shaft with position := 0, revStart := some now, clean := true, period := p, speed := v, window := w } := by
  have deliver : ∀ t : State, ∃ p v, (deliverIndex t.shaft.measures (measureRevolution now t)).shaft =
      { t.shaft with revStart := some now, clean := true, period := p, speed := v } := fun t => by
    obtain ⟨p, v, e⟩ := measureRevolution_shaft now t
    exact ⟨p, v, by rw [deliverIndex_shaft, e]⟩
  have jumpFirst : ∀ t : State, t.shaft = s.shaft → ∃ p v w,
      (deliverIndex (indexJump t).shaft.measures (measureRevolution now (indexJump t))).shaft =
        { s.shaft with position := 0, revStart := some now, clean := true, period := p, speed := v, window := w } :=
    fun t same => by
      obtain ⟨w, jumped⟩ := indexJump_shaft t
      obtain ⟨p, v, e⟩ := deliver (indexJump t)
      exact ⟨p, v, w, by rw [e, jumped, same]⟩
  unfold forwardIndex
  dsimp only
  split
  · split
    · obtain ⟨p, v, e⟩ := deliver (drawChoice s).2
      obtain ⟨w, jumped⟩ := indexJump_shaft
        (deliverIndex (drawChoice s).2.shaft.measures (measureRevolution now (drawChoice s).2))
      exact ⟨p, v, w, by rw [jumped, e]; rfl⟩
    · exact jumpFirst (drawChoice s).2 rfl
  · exact jumpFirst s rfl

theorem takeIndex_shaftShape (now : Nat) {s : State} (shape : ShaftShape s.shaft) :
    ShaftShape (takeIndex now s).shaft := by
  have at0 : ∀ valid w, ShaftShape { s.shaft with position := 0, angleValid := valid, window := w } := fun valid w => by
    obtain ⟨-, -, rest⟩ := shape
    exact ⟨fun _ => ⟨by simp, by simp⟩, fun _ => ⟨by simp, by simp⟩, rest⟩
  unfold takeIndex
  rw [emitWaiting_shaft]
  refine ShaftShape.applyAtIndex ?_
  split
  · exact at0 true s.shaft.window
  have back : ShaftShape (backIndex s).shaft := by
    obtain ⟨w, jumped⟩ := indexJump_shaft s
    show ShaftShape { (indexJump s).shaft with revStart := none }
    rw [jumped]; exact at0 s.shaft.angleValid w
  split
  · obtain ⟨p, v, w, e⟩ := forwardIndex_shaft now s
    rw [e]; exact at0 s.shaft.angleValid w
  · exact back
  · exact back
  · rw [badIndex, latch_shaft]
    exact at0 s.shaft.angleValid s.shaft.window

theorem shaftStops_shaftShape {s : State} (shape : ShaftShape s.shaft) : ShaftShape (shaftStops s).shaft := by
  have same : ∀ t : State, t.setting = (setShaft s.shaft.stop s).setting → ShaftShape t.shaft := fun t h => by
    rw [shaft_of_setting h]; exact shape.stop
  unfold shaftStops
  dsimp only
  repeat' split
  · exact shape
  all_goals exact same _ (by simp)

/-! ## SET_TIMING, REPHASE and the other requests -/

theorem decideSetTiming_shaftShape (o c a : BitVec 16) {s : State} (shape : ShaftShape s.shaft) :
    ShaftShape (decideSetTiming o c a s).1.shaft := by
  unfold decideSetTiming
  extract_lets t stopAfter
  split
  · exact shape
  rename_i openLow
  split
  · exact shape
  rename_i closeLow
  split
  · exact shape
  rename_i stopLow
  split
  · exact shape
  rename_i width
  split
  · exact shape
  rename_i stop
  have accepted : TimingShape t := by
    refine ⟨Nat.not_le.1 openLow, Nat.not_le.1 closeLow, Nat.not_le.1 stopLow, by omega, by omega, ?_, ?_⟩
    · show 1 ≤ stopAfter; omega
    · show stopAfter < t.width; omega
  split
  · exact shape
  split
  · exact shape
  obtain ⟨valid, invalid, offset, run, active, -⟩ := shape
  split
  · exact ⟨valid, invalid, offset, run, accepted, by simp⟩
  · exact ⟨valid, invalid, offset, run, active, by simpa using accepted⟩

theorem Shaft.offsetFor_lt (h : Shaft) (a : Nat) : h.offsetFor a < 4096 := by
  unfold Shaft.offsetFor; omega

theorem decideRephase_shaftShape (a : BitVec 16) {s : State} (shape : ShaftShape s.shaft) :
    ShaftShape (decideRephase a s).1.shaft := by
  unfold decideRephase
  dsimp only
  split
  · exact shape
  split
  · exact shape
  split
  · exact shape
  · obtain ⟨valid, invalid, -, rest⟩ := shape
    exact ⟨valid, invalid, s.shaft.offsetFor_lt a.toNat, rest⟩

/-- The owning blocks act on new parameters without touching the shaft (R182). -/
theorem decideSetParams_shaft (pairs : List (BitVec 8 × BitVec 32)) (s : State) :
    (decideSetParams pairs s).1.shaft = s.shaft := by
  have applied : ∀ values, (applyParams values s).shaft = s.shaft := fun values => by
    unfold applyParams governParams auditParams refit rearm
    dsimp only
    repeat' split
    all_goals rfl
  unfold decideSetParams
  dsimp only
  repeat' split
  case h_2 => exact applied _
  all_goals rfl

theorem decideRequest_shaftShape {c : Instr} {k tag : Byte} {d : State → State × Reply}
    (h : decideRequest c = some (k, tag, d)) (s : State) (shape : ShaftShape s.shaft) : ShaftShape (d s).1.shaft := by
  have same : (d s).1.shaft = s.shaft → ShaftShape (d s).1.shaft := fun e => by rw [e]; exact shape
  cases c
  case setTiming => cases h; exact decideSetTiming_shaftShape _ _ _ shape
  case rephase => cases h; exact decideRephase_shaftShape _ shape
  case setParams => cases h; exact same (decideSetParams_shaft ..)
  case getInfo | scheduleList | status | needles | auditResult | auditStart | reset => cases h; exact shape
  case getParams | patternBegin | patternAdd | patternEnd | patternErase | patternInfo | orderAdd | orderCancel
    | modeRun | modeHold | modeIdle | modeThread | abortPanel | homeX | forceBar | clearFaults | history | auditStop =>
    cases h; exact same (shaft_of_setting (by simp))
  all_goals cases h

/-! ## Every step -/

theorem shaft_of_event {f : State → State} {s u t : State} (h : ∀ v, (f v).setting = v.setting)
    (e : finish (live f u) = .next t) (levels : u.shaft = s.shaft := by rfl) : t.shaft = s.shaft := by
  cases e
  rw [← levels]
  show (live f u).shaft = u.shaft
  unfold live
  split
  · rfl
  · exact shaft_of_setting (h u)

theorem shaftShape_of_event {f : State → State} {s u t : State}
    (h : ∀ v : State, ShaftShape v.shaft → ShaftShape (f v).shaft)
    (e : finish (live f u) = .next t) (shape : ShaftShape s.shaft) (levels : u.shaft = s.shaft := by rfl) :
    ShaftShape t.shaft := by
  cases e
  rw [← levels] at shape
  show ShaftShape (live f u).shaft
  unfold live
  split
  · exact shape
  · exact h u shape

section
variable {P : State → Prop} (link : ∀ (s : State) (k : Link), P s → P { s with link := k })
include link

/-- What every decision and every write of the link keeps, a request keeps (R178, R179). -/
theorem request_preserves (kind tag : Byte) {d : State → State × Reply} (decided : ∀ s, P s → P (d s).1) {s : State}
    (h : P s) : P (request kind tag d s) := by
  have inside : P (inRequest (fun u => (d u).1) s) := link _ _ (decided _ (link _ _ h))
  unfold request
  split
  · exact h
  · split
    · split
      · exact h
      · exact link _ _ h
    · exact link _ _ inside

variable (decided : ∀ {c : Instr} {k tag : Byte} {d : State → State × Reply},
  decideRequest c = some (k, tag, d) → ∀ s : State, P s → P (d s).1)
include decided

theorem frameArrives_preserves (kind tag : Byte) (payload : List Byte) {s : State} (h : P s) :
    P (frameArrives kind tag payload s) := by
  unfold frameArrives
  split
  · exact h
  · refine request_preserves link kind tag (fun s h => ?_) h
    unfold decideFrame
    split
    case h_4 =>
      split
      · exact decided ‹_› s h
      · exact h
    all_goals exact h

theorem byteArrives_preserves (b : Byte) {s : State} (h : P s) : P (byteArrives b s) := by
  unfold byteArrives
  extract_lets a t
  have set : P t := link _ _ h
  cases a with
  | complete f => exact frameArrives_preserves link decided f.kind f.tag f.payload set
  | hunting => exact set
  | collecting bs => exact set

/-- What the waiting commands and the link do not matter to, and what every decision and every other event keeps, every
step keeps. -/
theorem step_preserves (queue : ∀ (s : State) (cs : List Instr), P s → P { s with pending := cs })
    (event : ∀ {c : Instr} {s t : State}, decideRequest c = none → (∀ k tag p, c ≠ .frameReceived k tag p) →
      (∀ b, c ≠ .byteReceived b) → exec c s = .next t → P s → P t)
    {s t : State} (next : step s = .next t) (h : P s) : P t := by
  have sent : ∀ u : State, P u → P (transmit u) := fun u => link u _
  unfold step at next
  split at next
  · cases next; exact h
  rename_i c rest _
  have taken := queue s rest h
  cases request : decideRequest c with
  | some p =>
    obtain ⟨k, tag, d⟩ := p
    rw [exec_request request] at next
    cases next
    exact sent _ (request_preserves link k tag (decided request) taken)
  | none =>
    by_cases frame : ∃ k tag p, c = .frameReceived k tag p
    · obtain ⟨k, tag, p, rfl⟩ := frame
      cases next
      exact sent _ (frameArrives_preserves link decided k tag p taken)
    by_cases byte : ∃ b, c = .byteReceived b
    · obtain ⟨b, rfl⟩ := byte
      cases next
      refine sent _ ?_
      unfold live
      split
      · exact taken
      · exact byteArrives_preserves link decided b taken
    exact event request (fun k tag p e => frame ⟨k, tag, p, e⟩) (fun b e => byte ⟨b, e⟩) next taken

end

theorem exec_event_shaftShape {c : Instr} {s t : State} (event : decideRequest c = none)
    (frame : ∀ k tag p, c ≠ .frameReceived k tag p) (byte : ∀ b, c ≠ .byteReceived b) (h : exec c s = .next t)
    (shape : ShaftShape s.shaft) : ShaftShape t.shaft := by
  have same : t.shaft = s.shaft → ShaftShape t.shaft := fun e => by rw [e]; exact shape
  cases c
  case encoderCount a b =>
    refine shaftShape_of_event (fun v kept => ?_) h shape
    split
    · exact takeCount_shaftShape _ kept
    · exact kept
  case indexPulse now => exact shaftShape_of_event (fun _ => takeIndex_shaftShape now) h shape
  case stopped => exact shaftShape_of_event (fun _ => shaftStops_shaftShape) h shape
  case resetn => cases h; exact shaftShape_reset
  case resetTakesEffect strap =>
    simp only [exec, execResetTakesEffect] at h
    split at h <;> cases h
    · exact shaftShape_reset
    · exact shape
  case resetnReleased strap =>
    simp only [exec, execResetnReleased] at h
    split at h <;> cases h
    · exact shaftShape_reset
    · exact shape
  case frameReceived k tag p => exact absurd rfl (frame k tag p)
  case byteReceived b => exact absurd rfl (byte b)
  case barInputChange b up dn =>
    cases h
    refine same ?_
    show State.shaft (if _ then _ else _) = s.shaft
    split
    · rfl
    · exact (shaft_of_setting (barInputs_setting b _)).trans rfl
  case estopReleased | drvfltReleased => cases h; exact shape
  case interByteGap | framingErrorOrBreak => exact same (shaft_of_event (f := setAsm none) (fun _ => rfl) h)
  case frameTransmitted =>
    refine same (shaft_of_event (fun v => ?_) h)
    unfold txEnds; split <;> rfl
  case stepPulseDue | feedBegin | markEdge | cutTimeExpiry | homePulseDue | xhomeAsserted | barChangeBegin
    | deadTimeExpiry | barTimeout | estopAsserted | drvfltAsserted | startInput | jogReleased | scanTimerExpiry
      | scanComplete
    | demandPwmPeriod =>
    exact same (shaft_of_event (fun v => by simp) h)
  case holdInput | jogPressed | feedRollerEdge | measuringWheelEdge =>
    refine same (shaft_of_event (fun v => ?_) h)
    split <;> simp
  all_goals cases event

/-- Settles O13: counts and index pulses keep the position in its range, a timing set becomes pending or active only as
SET_TIMING has accepted it, and nothing else of a step but a reset writes the unit. -/
theorem shaftPositionRangeKept : Obligations.ShaftPositionRangeKept :=
  fun _ _ shape next => step_preserves (P := fun s => ShaftShape s.shaft) (fun _ _ => id) decideRequest_shaftShape
    (fun _ _ => id) exec_event_shaftShape next shape

end Sys2Proof.Machine
end

section
/-! PROOFS. What SET_TIMING and REPHASE do (R79 to R81): the checks in their order, and the unit an accepted one
leaves. -/

namespace Sys2Proof.Machine

/-- A decision that writes the Shaft Timing Unit alone. -/
theorem exec_timed {c : Instr} {k tag : Byte} {d : State → State × Reply} {s : State} {h : Shaft} {q : Reply}
    (hc : decideRequest c = some (k, tag, d)) (hs : s.takesRequests)
    (hd : d (keepLine s) = (setShaft h (keepLine s), q)) :
    exec c s = .next (transmit (State.answered { s with shaft := h } k tag q)) :=
  exec_answered (t := setShaft h (keepLine s)) hc hs hd

/-- The window state derived from an angle, in figures of the active set (R76). -/
theorem Shaft.derivedWindow_eq (h : Shaft) : h.derivedWindow =
    if forwardCounts h.active.windowOpen h.angle < h.active.width then
      ⟨true, h.active.windowOpen, h.active.windowClose, h.active.stopAngle,
        decide (forwardCounts h.active.windowOpen h.active.stopAngle ≤ forwardCounts h.active.windowOpen h.angle)⟩
    else { h.window with inProgress := false } := by
  simp only [Shaft.derivedWindow, Shaft.insideActive, decide_eq_true_eq]

/-! ## SET_TIMING -/

section
variable {o c a : BitVec 16} {s : State}

/-- The timing set three fields name. -/
abbrev timingOf (o c a : BitVec 16) : TimingSet := ⟨o.toNat, c.toNat, a.toNat⟩

theorem decideSetTiming_open (h : 4096 ≤ o.toNat) : decideSetTiming o c a s = (s, Reply.field 0) := if_pos h

theorem decideSetTiming_close (openLow : o.toNat < 4096) (h : 4096 ≤ c.toNat) :
    decideSetTiming o c a s = (s, Reply.field 2) :=
  (if_neg (Nat.not_le.2 openLow)).trans (if_pos h)

theorem decideSetTiming_stop (openLow : o.toNat < 4096) (closeLow : c.toNat < 4096) (h : 4096 ≤ a.toNat) :
    decideSetTiming o c a s = (s, Reply.field 4) :=
  (if_neg (Nat.not_le.2 openLow)).trans ((if_neg (Nat.not_le.2 closeLow)).trans (if_pos h))

theorem decideSetTiming_width (inRange : o.toNat < 4096 ∧ c.toNat < 4096 ∧ a.toNat < 4096)
    (h : (timingOf o c a).width < 512 ∨ 2560 < (timingOf o c a).width) :
    decideSetTiming o c a s = (s, Reply.field 2) := by
  obtain ⟨openLow, closeLow, stopLow⟩ := inRange
  simp [decideSetTiming, Nat.not_le.2 openLow, Nat.not_le.2 closeLow, Nat.not_le.2 stopLow, h]

theorem decideSetTiming_stopAngle (inRange : o.toNat < 4096 ∧ c.toNat < 4096 ∧ a.toNat < 4096)
    (wide : 512 ≤ (timingOf o c a).width) (narrow : (timingOf o c a).width ≤ 2560)
    (h : forwardCounts o.toNat a.toNat = 0 ∨ (timingOf o c a).width ≤ forwardCounts o.toNat a.toNat) :
    decideSetTiming o c a s = (s, Reply.field 4) := by
  obtain ⟨openLow, closeLow, stopLow⟩ := inRange
  simp [decideSetTiming, Nat.not_le.2 openLow, Nat.not_le.2 closeLow, Nat.not_le.2 stopLow, Nat.not_lt.2 wide,
    Nat.not_lt.2 narrow, h]

variable (shape : TimingShape (timingOf o c a))
include shape

/-- A sound timing set (R79) passes every check of its own figures. -/
theorem timing_checks_passed :
    ¬ 4096 ≤ o.toNat ∧ ¬ 4096 ≤ c.toNat ∧ ¬ 4096 ≤ a.toNat
      ∧ ¬ ((timingOf o c a).width < 512 ∨ 2560 < (timingOf o c a).width)
      ∧ ¬ (forwardCounts o.toNat a.toNat = 0 ∨ (timingOf o c a).width ≤ forwardCounts o.toNat a.toNat) := by
  obtain ⟨openLow, closeLow, stopLow, wide, narrow, after, before⟩ := shape
  exact ⟨Nat.not_le.2 openLow, Nat.not_le.2 closeLow, Nat.not_le.2 stopLow, by omega,
    fun h => h.elim (Nat.ne_of_gt after) (Nat.not_le.2 before)⟩

theorem decideSetTiming_order (other : (timingOf o c a).width ≠ s.shaft.accepted.width) (h : s.orderActive = true) :
    decideSetTiming o c a s = (s, Reply.because .notNow .none) := by
  obtain ⟨openLow, closeLow, stopLow, width, stop⟩ := timing_checks_passed shape
  simp [decideSetTiming, openLow, closeLow, stopLow, width, stop, other, h]

theorem decideSetTiming_guard {axis : Nat} (other : (timingOf o c a).width ≠ s.shaft.accepted.width)
    (idle : s.orderActive = false) (h : guardFault s.params (timingOf o c a).width = some axis) :
    decideSetTiming o c a s = (s, Reply.refusal .badValue 2 0 .guard axis) := by
  obtain ⟨openLow, closeLow, stopLow, width, stop⟩ := timing_checks_passed shape
  simp [decideSetTiming, openLow, closeLow, stopLow, width, stop, other, idle, h]

/-- An accepted set becomes active at once with the shaft stopped, and waits as the pending one while it turns (R80). -/
theorem decideSetTiming_accepted (passes : (timingOf o c a).width = s.shaft.accepted.width
      ∨ (s.orderActive = false ∧ guardFault s.params (timingOf o c a).width = none)) :
    decideSetTiming o c a s =
      if s.shaft.stopped then
        (setShaft { s.shaft with
          active := timingOf o c a, pendingSet := none
          window := Shaft.derivedWindow { s.shaft with active := timingOf o c a, pendingSet := none } } s,
          Reply.good (u8 0))
      else (setShaft { s.shaft with pendingSet := some (timingOf o c a) } s, Reply.good (u8 1)) := by
  obtain ⟨openLow, closeLow, stopLow, width, stop⟩ := timing_checks_passed shape
  have order : ¬ ((timingOf o c a).width ≠ s.shaft.accepted.width ∧ s.orderActive = true) := fun ⟨other, active⟩ =>
    passes.elim other fun ⟨idle, _⟩ => by simp [idle] at active
  have guard : (if (timingOf o c a).width = s.shaft.accepted.width then none
      else guardFault s.params (timingOf o c a).width) = none := by
    split
    · rfl
    · exact (passes.resolve_left ‹_›).2
  unfold decideSetTiming
  dsimp only
  rw [if_neg openLow, if_neg closeLow, if_neg stopLow, if_neg width, if_neg stop, if_neg order, guard]

end

/-- Settles O36: each check by the lemma of that check, the effect by R80's two cases. -/
theorem setTimingChecksAndEffect : Obligations.SetTimingChecksAndEffect := by
  constructor
  · intro tag o c a s taken t shape passes
    have decided := decideSetTiming_accepted (s := keepLine s) shape passes
    refine ⟨fun (stopped : (keepLine s).shaft.stopped = true) => ?_,
      fun (turning : (keepLine s).shaft.stopped = false) => ?_⟩
    · have effect := exec_timed (c := .setTiming tag o c a) rfl taken (decided.trans (if_pos stopped))
      rw [Shaft.derivedWindow_eq] at effect
      exact effect
    · exact exec_timed (c := .setTiming tag o c a) rfl taken (decided.trans (if_neg (by simp [turning])))
  · intro tag o c a s taken t stop inRange refused
    have because : ∀ {r : Reply}, decideSetTiming o c a (keepLine s) = (keepLine s, r) → refused r := fun h =>
      exec_refused (c := .setTiming tag o c a) rfl taken h
    exact ⟨fun h => because (decideSetTiming_open h), fun openLow h => because (decideSetTiming_close openLow h),
      fun openLow closeLow h => because (decideSetTiming_stop openLow closeLow h),
      fun low h => because (decideSetTiming_width low h),
      fun low wide narrow h => because (decideSetTiming_stopAngle low wide narrow h),
      fun shape other active => because (decideSetTiming_order (s := keepLine s) shape other active),
      fun shape other idle axis h => because (decideSetTiming_guard (s := keepLine s) shape other idle h)⟩

/-! ## REPHASE -/

/-- The phase offset at which the angle reads a (R81) is the one that makes it so. -/
theorem Shaft.offsetFor_spec (h : Shaft) {a : Nat} (low : a < 4096) :
    ((h.offsetFor a : Int) + h.position - a) % 4096 = 0
      ∧ Shaft.angle { h with phaseOffset := h.offsetFor a } = a := by
  simp only [Shaft.offsetFor, Shaft.angle]
  omega

section
variable {a : BitVec 16} {s : State}

theorem decideRephase_range (h : 4096 ≤ a.toNat) : decideRephase a s = (s, Reply.field 0) := if_pos h

theorem decideRephase_turning (low : a.toNat < 4096) (h : s.shaft.stopped = false) :
    decideRephase a s = (s, Reply.because .notNow .shaft) := by
  simp [decideRephase, Nat.not_le.2 low, h]

theorem decideRephase_unknown (low : a.toNat < 4096) (stopped : s.shaft.stopped = true)
    (h : s.shaft.angleValid = false) :
    decideRephase a s = (s, Reply.because .notNow .angle) := by
  simp [decideRephase, Nat.not_le.2 low, stopped, h]

theorem decideRephase_taken (low : a.toNat < 4096) (stopped : s.shaft.stopped = true)
    (valid : s.shaft.angleValid = true) :
    decideRephase a s =
      (setShaft { s.shaft with
        phaseOffset := s.shaft.offsetFor a.toNat
        window := Shaft.derivedWindow { s.shaft with phaseOffset := s.shaft.offsetFor a.toNat } } s,
        Reply.good (u16 (s.shaft.offsetFor a.toNat))) := by
  simp [decideRephase, Nat.not_le.2 low, stopped, valid]

end

/-- Settles O37, by the congruence the new phase offset solves. -/
theorem rephaseSetsAngle : Obligations.RephaseSetsAngle := by
  refine fun tag a s taken => ⟨fun low stopped valid => ?_, fun h => ?_, fun low turning => ?_,
    fun low stopped unknown => ?_⟩
  · obtain ⟨congruent, angle⟩ := s.shaft.offsetFor_spec low
    refine ⟨_, exec_timed (c := .rephase tag a) rfl taken (decideRephase_taken (s := keepLine s) low stopped valid),
      angle,
      s.shaft.offsetFor_lt a.toNat, congruent, rfl, ?_⟩
    have derived := Shaft.derivedWindow_eq { s.shaft with phaseOffset := s.shaft.offsetFor a.toNat }
    rw [angle] at derived
    exact derived
  · exact exec_refused (c := .rephase tag a) rfl taken (decideRephase_range h)
  · exact exec_refused (c := .rephase tag a) rfl taken (decideRephase_turning low turning)
  · exact exec_refused (c := .rephase tag a) rfl taken (decideRephase_unknown low stopped unknown)

end Sys2Proof.Machine
end

section
/-! PROOFS. Modes, stops and the Fault Record, said once: what a change of mode, a stop reached and a source latched
with action AT_ONCE leave of the line, the drive and the moves in hand (R98, R111, R145, R146, R153, R157, R159). -/

namespace Sys2Proof.Machine

/-! ## The transmitter (R186) -/

theorem Link.choose_choose (k : Link) : k.choose.choose = k.choose := by
  cases sent : k.choose.tx with
  | some f => rw [Link.choose, sent]
  | none =>
    have same : k.choose = k := by
      unfold Link.choose at sent ⊢
      repeat' split
      all_goals simp_all
    rw [same, same]

/-- The transmitter that has chosen has nothing left to choose. -/
@[simp] theorem transmit_transmit (s : State) : transmit (transmit s) = transmit s := by
  unfold transmit
  dsimp only
  split
  · rfl
  · rw [Link.choose_choose]

/-- A notice raised last is waiting as the transmitter chooses. -/
theorem transmit_raiseNotice (n : Notice) (s : State) :
    transmit (raiseNotice n s) = transmit { s with link := { s.link with notices := noticesWith s.link.notices n } } :=
  transmit_transmit _

/-! ## Moves in hand under a freeze (R111) and pulses held back (R105) -/

@[simp] theorem Burst.frozen_freeze (b : Burst) : b.freeze.frozen = true := by
  unfold Burst.freeze; split <;> simp_all

@[simp] theorem Burst.freeze_freeze (b : Burst) : b.freeze.freeze = b.freeze := by
  rw [Burst.freeze, if_pos b.frozen_freeze]

theorem Feed.freeze_state (f : Feed) : f.freeze.state ≠ .moving := by
  unfold Feed.freeze; split <;> simp_all

@[simp] theorem Feed.freeze_freeze (f : Feed) : f.freeze.freeze = f.freeze := by
  unfold Feed.freeze; cases e : f.state <;> simp [e]

/-- A move frozen once stands as it is. -/
@[simp] theorem freeze_freeze (s : State) : freeze (freeze s) = freeze s := by
  simp [freeze, Function.comp_def]

theorem anyWaiting_of_motion {s t : State} (h : t.motion = s.motion) : t.anyWaiting = s.anyWaiting := by
  simp only [State.anyWaiting, h]

/-- A frozen move holds no pulse back; a homing is not frozen. -/
theorem anyWaiting_of_frozen {s t : State} (burst : t.motion.burst = s.motion.burst.map Burst.freeze)
    (feed : t.motion.feed = s.motion.feed.map Feed.freeze) (homing : t.motion.homing = s.motion.homing)
    (h : s.anyWaiting = false) : t.anyWaiting = false := by
  simp only [State.anyWaiting, Bool.or_eq_false_iff] at h ⊢
  obtain ⟨-, last⟩ := h
  rw [burst, feed, homing]
  refine ⟨⟨?_, ?_⟩, last⟩
  · cases s.motion.burst <;> simp
  · cases s.motion.feed <;> simp [Feed.freeze_state]

/-- With no pulse held back none is emitted (R105). -/
theorem emitWaiting_of_none {s : State} (h : s.anyWaiting = false) : emitWaiting s = s := by
  simp only [State.anyWaiting, Bool.or_eq_false_iff] at h
  obtain ⟨⟨burst, feed⟩, homing⟩ := h
  have axis : ∀ a, emitHeld a s = s := fun a => by
    unfold emitHeld
    split
    · rename_i b at_b
      simp only [at_b, Option.map_some, Option.getD_some] at burst
      rw [if_neg]
      intro held
      obtain ⟨going, held⟩ := Bool.and_eq_true_iff.1 held
      simp only [going, Bool.true_and, Bool.or_eq_false_iff] at burst
      cases a <;> simp_all [Burst.axis]
    · split
      · rename_i f at_f
        simp only [at_f, Option.map_some, Option.getD_some] at feed
        rw [if_neg]
        cases a <;> simp_all [Feed.axis]
      · rfl
  have home : emitHeldHoming s = s := by
    unfold emitHeldHoming
    split
    · rfl
    · simp_all
  unfold emitWaiting
  split
  · rw [axis, axis, home]
  · rfl

/-! ## A change of mode (R145, R146) -/

theorem setMode_motion {m : Mode} (h : m ≠ .feeding) (p : Option StopPurpose) (k : Option StopKind) (why : Reason)
    (s : State) : (setMode m p k why s).motion = s.motion := by
  have jog : ∀ t : State, (jogEnd t).motion = t.motion := fun t => by
    obtain ⟨g, e⟩ := jogEnd_gov t; rw [e]
  unfold setMode
  simp only [h, false_and, if_false]
  repeat' split
  all_goals simp [jog]

/-- Only leaving THREADING acts on the drive (R155). -/
theorem setMode_gov {m : Mode} {s : State} (h : s.line.effective ≠ .threading ∨ s.gov.purpose ≠ some .jog)
    (p : Option StopPurpose) (k : Option StopKind) (why : Reason) : (setMode m p k why s).gov = s.gov := by
  have kept : (if s.line.effective = .threading ∧ m ≠ .threading then jogEnd s else s) = s := by
    split
    · rename_i leaves
      exact if_neg (h.resolve_left (not_not.2 leaves.1))
    · rfl
  unfold setMode
  dsimp only
  rw [kept]
  split <;> rfl

/-- Any other change of mode, whole: the line's modes and MODE_CHANGED. -/
theorem setMode_eq {m : Mode} {p : Option StopPurpose} {s : State} (feeding : m ≠ .feeding)
    (threading : s.line.effective ≠ .threading) (changes : s.line.effective ≠ m ∨ s.line.stopPurpose ≠ p)
    (k : Option StopKind) (why : Reason) :
    setMode m p k why s =
      raiseNotice (.modeChanged m p k s.line.requested why) { s with line := s.line.inMode m p k } := by
  simp only [setMode, threading, feeding, false_and, if_false, if_pos changes]
  rfl

@[simp] theorem Line.inMode_faults (l : Line) (m : Mode) (p : Option StopPurpose) (k : Option StopKind) :
    (l.inMode m p k).faults = l.faults := rfl
@[simp] theorem Line.inMode_effective (l : Line) (m : Mode) (p : Option StopPurpose) (k : Option StopKind) :
    (l.inMode m p k).effective = m := rfl

/-! ## Stops reached (R153, R159) -/

theorem enterFaulted_line (why : Reason) (s : State) : (enterFaulted why s).line =
    { s.line.inMode .faulted none none with
      overlapPending := s.line.overlapPending || s.line.faults.threadStop } := by
  unfold enterFaulted
  dsimp only
  rw [setMode_line, Line.inMode_faults]
  split
  · rename_i thread
    rw [thread, Bool.or_true]
  · rename_i thread
    rw [setMode_line, Bool.eq_false_iff.2 thread, Bool.or_false]
    rfl

theorem enterFaulted_motion (why : Reason) (s : State) : (enterFaulted why s).motion = s.motion := by
  unfold enterFaulted
  dsimp only
  split <;> exact setMode_motion (by decide) ..

theorem enterFaulted_gov {s : State} (h : s.line.effective ≠ .threading ∨ s.gov.purpose ≠ some .jog) (why : Reason) :
    (enterFaulted why s).gov = s.gov := by
  unfold enterFaulted
  dsimp only
  split <;> exact setMode_gov h ..

section
variable {s : State}

theorem reachStop_hold (stopping : s.line.effective = .stopping) (h : s.line.stopPurpose = some .hold) (why : Reason) :
    reachStop why s = setMode .holding none none .stopDone s := by
  simp only [reachStop, stopping, if_true, h]

theorem reachStop_fault (stopping : s.line.effective = .stopping) (h : s.line.stopPurpose = some .fault)
    (why : Reason) :
    reachStop why s = enterFaulted why s := by
  simp only [reachStop, stopping, if_true, h]

end

/-- A stop reached moves nothing. -/
theorem reachStop_motion (why : Reason) (s : State) : (reachStop why s).motion = s.motion := by
  unfold reachStop
  split
  · split
    · exact setMode_motion (by decide) ..
    · exact enterFaulted_motion ..
    · rfl
  · rfl

/-- The line is STOPPING as a stop is reached, so no jog ends with it. -/
theorem reachStop_gov (why : Reason) (s : State) : (reachStop why s).gov = s.gov := by
  unfold reachStop
  split
  · rename_i stopping
    have left : s.line.effective ≠ .threading := by simp [stopping]
    split
    · exact setMode_gov (.inl left) ..
    · exact enterFaulted_gov (.inl left) _
    · rfl
  · rfl

theorem reachStop_faults (why : Reason) (s : State) : (reachStop why s).line.faults = s.line.faults := by
  unfold reachStop
  split
  · split
    · rw [setMode_line, Line.inMode_faults]
    · rw [enterFaulted_line]; rfl
    · rfl
  · rfl

/-! ## AT_ONCE (R98, R111, R153, R159) -/

/-- What a stop at once leaves of the drive, the moves in hand and the Fault Record. -/
structure HaltedAtOnce (s t : State) : Prop where
  gov : t.gov.idle
  burst : t.motion.burst = s.motion.burst.map Burst.freeze
  feed : t.motion.feed = s.motion.feed.map Feed.freeze
  homing : t.motion.homing = s.motion.homing
  faults : t.line.faults = s.line.faults

theorem haltedAtOnce_freeze (s : State) : HaltedAtOnce s (stopAtOnce (freeze s)) :=
  ⟨⟨rfl, rfl, rfl, rfl, rfl⟩, rfl, rfl, rfl, rfl⟩

/-- What changes neither drive nor moves nor faults keeps a stop at once. -/
theorem HaltedAtOnce.same {s t u : State} (h : HaltedAtOnce s t) (gov : u.gov = t.gov) (motion : u.motion = t.motion)
    (faults : u.line.faults = t.line.faults) : HaltedAtOnce s u := by
  obtain ⟨idle, burst, feed, homing, same⟩ := h
  exact ⟨by rw [gov]; exact idle, by rw [motion]; exact burst, by rw [motion]; exact feed, by rw [motion]; exact homing,
    by rw [faults]; exact same⟩

/-- A second freeze finds the moves frozen. -/
theorem HaltedAtOnce.again {s t : State} (h : HaltedAtOnce s t) : HaltedAtOnce s (stopAtOnce (freeze t)) := by
  obtain ⟨-, burst, feed, homing, same⟩ := h
  refine ⟨⟨rfl, rfl, rfl, rfl, rfl⟩, ?_, ?_, homing, same⟩
  · rw [stopAtOnce_motion, freeze_motion_burst, burst]
    simp [Function.comp_def]
  · rw [stopAtOnce_motion, freeze_motion_feed, feed]
    simp [Function.comp_def]

theorem HaltedAtOnce.enterFaulted {s t : State} (h : HaltedAtOnce s t) (why : Reason) :
    HaltedAtOnce s (enterFaulted why t) := by
  refine h.same (enterFaulted_gov (.inr ?_) why) (enterFaulted_motion why t) (by rw [enterFaulted_line]; rfl)
  obtain ⟨-, none, -⟩ := h.gov
  simp [none]

theorem HaltedAtOnce.reachStop {s t : State} (h : HaltedAtOnce s t) (why : Reason) : HaltedAtOnce s (reachStop why t) :=
  h.same (reachStop_gov why t) (reachStop_motion why t) (reachStop_faults why t)

theorem HaltedAtOnce.faultStop {s t : State} (h : HaltedAtOnce s t) : HaltedAtOnce s (faultStop .atOnce t) := by
  have mode : HaltedAtOnce s (setMode .stopping (some .fault) (some .atOnce) .fault t) := by
    refine h.same (setMode_gov (.inr ?_) ..) (setMode_motion (by decide) ..) (by rw [setMode_line, Line.inMode_faults])
    obtain ⟨-, none, -⟩ := h.gov
    simp [none]
  unfold Machine.faultStop stopNow
  simp only [if_true]
  split
  · exact mode.again.reachStop _
  · exact mode.again

theorem stronger_atOnce (k : StopKind) : StopKind.stronger .atOnce k = .atOnce := by cases k <;> rfl

/-- The AT_ONCE action (R159), said once: the line stands FAULTED or is stopping at once already, enters FAULTED, or
begins a fault stop at once. -/
theorem faultAction_atOnce (s : State) :
    faultAction .atOnce s = match s.line.effective, s.line.stopPurpose with
      | .idle, _ | .threading, _ | .holding, _ => enterFaulted .fault (stopAtOnce (freeze s))
      | .faulted, _ => stopAtOnce (freeze s)
      | .stopping, some .fault => if s.line.stopKind = some .atOnce then stopAtOnce (freeze s)
          else faultStop .atOnce (stopAtOnce (freeze s))
      | _, _ => faultStop .atOnce (stopAtOnce (freeze s)) := by
  unfold faultAction
  simp only [FaultAction.stopKind, if_true, stopAtOnce_line, freeze_line, reduceCtorEq, if_false, stronger_atOnce,
    true_and, ne_eq, ite_not]
  cases s.line.effective <;> try rfl
  rcases s.line.stopPurpose with _ | (_ | _ | _ | _) <;> rfl

theorem haltedAtOnce_faultAction (s : State) : HaltedAtOnce s (faultAction .atOnce s) := by
  have halted := haltedAtOnce_freeze s
  rw [faultAction_atOnce]
  split
  case h_4 => exact halted
  case h_5 =>
    split
    · exact halted
    · exact halted.faultStop
  case h_6 => exact halted.faultStop
  all_goals exact halted.enterFaulted _

/-- With the shaft turning a fault stop at once stands STOPPING (R159). -/
theorem faultStop_turning {t : State} (turning : t.shaft.stopped = false) :
    (faultStop .atOnce t).line = t.line.inMode .stopping (some .fault) (some .atOnce) := by
  have mode : (setMode .stopping (some .fault) (some .atOnce) .fault t).shaft.stopped = false := by
    rw [shaft_of_setting (setMode_setting ..)]; exact turning
  simp only [faultStop, if_true, stopNow, stopAtOnce_shaft, freeze_shaft, mode, Bool.false_eq_true, if_false,
    stopAtOnce_line, freeze_line, setMode_line]

/-- With the shaft stopped a fault stop at once is reached at once (R159). -/
theorem faultStop_stopped {t : State} (stopped : t.shaft.stopped = true) :
    (faultStop .atOnce t).line.effective = .faulted
      ∧ (faultStop .atOnce t).line.overlapPending = (t.line.overlapPending || t.line.faults.threadStop) := by
  have mode : (setMode .stopping (some .fault) (some .atOnce) .fault t).shaft.stopped = true := by
    rw [shaft_of_setting (setMode_setting ..)]; exact stopped
  have line : (stopAtOnce (freeze (setMode .stopping (some .fault) (some .atOnce) .fault t))).line =
      t.line.inMode .stopping (some .fault) (some .atOnce) := setMode_line ..
  simp only [faultStop, if_true, stopNow, stopAtOnce_shaft, freeze_shaft, mode]
  rw [reachStop_fault (by rw [line]; rfl) (by rw [line]; rfl), enterFaulted_line, line]
  exact ⟨rfl, rfl⟩

/-! ## A source handed over (R157) -/

/-- The Fault Record with one more source. -/
def FaultRecord.add (f : FaultRecord) (src : FaultSource) (act : FaultAction) (ref : Option Ref) : FaultRecord :=
  { latched := f.latched ++ [(src, act)]
    firstSource := if f.latched.isEmpty then some src else f.firstSource
    firstRef := if f.latched.isEmpty then ref else f.firstRef }

@[simp] theorem FaultRecord.has_add (f : FaultRecord) (src : FaultSource) (act : FaultAction) (ref : Option Ref) :
    (f.add src act ref).has src = true := by
  simp [FaultRecord.add, FaultRecord.has]

/-- Only a THREAD among the latched sources makes an overlap pending (R159). -/
theorem FaultRecord.threadStop_add {src : FaultSource} (f : FaultRecord) (h : src ≠ .thread) (act : FaultAction)
    (ref : Option Ref) : (f.add src act ref).threadStop = f.threadStop := by
  simp [FaultRecord.add, FaultRecord.threadStop, h]

theorem latch_again {src : FaultSource} {s : State} (h : s.line.faults.has src = true) (ref : Option Ref) :
    latch src ref s = s := if_pos h

/-- A source latched anew with action AT_ONCE: the record, the notice and the demand, then the action. -/
theorem latch_atOnce {src : FaultSource} {s : State} (new : s.line.faults.has src = false)
    (once : actionOf s.params src = .atOnce) (breakRef : Option Ref) :
    ∃ ref g k, latch src breakRef s = faultAction .atOnce
      { s with line := { s.line with faults := s.line.faults.add src .atOnce ref }, gov := g, link := k } := by
  unfold latch
  rw [if_neg (by simp [new])]
  dsimp only
  rw [once, if_pos rfl]
  exact ⟨_, _, _, rfl⟩

/-- What a source latched anew with action AT_ONCE leaves: the drive held, the moves frozen, the source latched. -/
theorem haltedAtOnce_latch {src : FaultSource} {s : State} (new : s.line.faults.has src = false)
    (once : actionOf s.params src = .atOnce) (breakRef : Option Ref) :
    ∃ ref, HaltedAtOnce { s with line := { s.line with faults := s.line.faults.add src .atOnce ref } }
      (latch src breakRef s) := by
  obtain ⟨ref, g, k, e⟩ := latch_atOnce new once breakRef
  obtain ⟨gov, burst, feed, homing, faults⟩ := haltedAtOnce_faultAction
    { s with line := { s.line with faults := s.line.faults.add src .atOnce ref }, gov := g, link := k }
  rw [e]
  exact ⟨ref, gov, burst, feed, homing, faults⟩

/-- A source handed over with action AT_ONCE is latched (R157). -/
theorem latch_has {src : FaultSource} {s : State} (once : actionOf s.params src = .atOnce) (breakRef : Option Ref) :
    (latch src breakRef s).line.faults.has src = true := by
  cases new : s.line.faults.has src with
  | true => rw [latch_again new]; exact new
  | false =>
    obtain ⟨ref, -, -, -, -, faults⟩ := haltedAtOnce_latch new once breakRef
    rw [faults]
    exact s.line.faults.has_add ..

/-- It leaves no pulse held back where none was. -/
theorem latch_anyWaiting {src : FaultSource} {s : State} (once : actionOf s.params src = .atOnce)
    (breakRef : Option Ref) (h : s.anyWaiting = false) : (latch src breakRef s).anyWaiting = false := by
  cases new : s.line.faults.has src with
  | true => rw [latch_again new]; exact h
  | false =>
    obtain ⟨ref, -, burst, feed, homing, -⟩ := haltedAtOnce_latch new once breakRef
    exact anyWaiting_of_frozen burst feed homing h

/-- With the shaft turning, a source latched anew with action AT_ONCE in RUNNING or FEEDING begins a fault stop at
once. -/
theorem latch_turning {src : FaultSource} {s : State} (new : s.line.faults.has src = false)
    (once : actionOf s.params src = .atOnce) (turning : s.shaft.stopped = false)
    (mode : s.line.effective = .running ∨ s.line.effective = .feeding) (breakRef : Option Ref) :
    ∃ ref, (latch src breakRef s).line =
      Line.inMode { s.line with faults := s.line.faults.add src .atOnce ref } .stopping (some .fault)
        (some .atOnce) := by
  obtain ⟨ref, g, k, e⟩ := latch_atOnce new once breakRef
  refine ⟨ref, ?_⟩
  rw [e, faultAction_atOnce]
  dsimp only
  rcases mode with mode | mode <;> (rw [mode]; exact faultStop_turning turning)

/-! ## A frozen burst (R112) -/

/-- With no frozen burst, or no permission, none resumes. -/
theorem testResume_idle {s : State} (h : s.motion.burstFrozen = false ∨ s.line.permission = false) :
    testResume s = s := by
  unfold testResume
  split
  · rfl
  · rename_i b at_b
    rw [if_neg]
    rintro ⟨frozen, granted, -⟩
    simp [Motion.burstFrozen, at_b, frozen, granted] at h

/-- A burst resumed writes the Motion Output alone. -/
theorem testResume_frame (s : State) : ∃ m d, testResume s = { s with motion := m, draws := d } := by
  have drawn : ∃ d, (burstPeriod s).2 = { s with draws := d } := by
    unfold burstPeriod
    repeat' split
    all_goals exact ⟨_, rfl⟩
  obtain ⟨d, drawn⟩ := drawn
  unfold testResume
  split
  · exact ⟨_, _, rfl⟩
  · split
    · exact ⟨_, d, by rw [emitBurst, drawn]⟩
    · exact ⟨_, _, rfl⟩

/-- A burst resumed holds no pulse back. -/
theorem testResume_anyWaiting {s : State} (h : s.anyWaiting = false) : (testResume s).anyWaiting = false := by
  unfold testResume
  split
  · exact h
  · split
    · have drawn : (burstPeriod s).2.motion = s.motion := by
        unfold burstPeriod; repeat' split
        all_goals rfl
      simp only [State.anyWaiting, Bool.or_eq_false_iff] at h ⊢
      obtain ⟨⟨-, feed⟩, homing⟩ := h
      simp only [emitBurst, drawn]
      exact ⟨⟨by simp [AxisMove.timed], feed⟩, homing⟩
    · exact h

theorem testResume_line_eq (s : State) : (testResume s).line = s.line := by
  obtain ⟨_, _, e⟩ := testResume_frame s
  rw [e]

end Sys2Proof.Machine
end

section
/-! PROOFS. A count of the encoder (R65 to R75, R112, R151), step by step: the unit's own state, the Line Controller's
parked count, and the events, the frozen burst and the held-back pulses after them. -/

namespace Sys2Proof.Machine

/-! ## The parked count (R151) -/

/-- What a count adds. -/
def Direction.step : Direction → Int
  | .forward => 1
  | .reverse => -1

/-- The line with one more count. -/
def Line.counted (l : Line) (d : Direction) : Line := { l with parkedCount := l.parkedCount + d.step }

section
variable {d : Direction} {s : State}

theorem lineCount_elsewhere (h : s.line.effective ≠ .feeding) : lineCount d s = s := if_neg h

theorem lineCount_plain (feeding : s.line.effective = .feeding)
    (h : ¬ (s.line.parkHanded = false ∧ (s.line.parkedCount + d.step).natAbs = 17)) :
    lineCount d s = { s with line := s.line.counted d } := by
  have early : ¬ (mag (s.line.parkedCount + d.step) = 17 ∧ ¬ s.line.parkHanded = true) := by
    simpa [mag, and_comm] using h
  refine (if_pos feeding).trans ?_
  cases d <;> exact if_neg early

/-- The count that carries the parked count to 17 either way hands over PARK. -/
theorem lineCount_due (feeding : s.line.effective = .feeding) (h : s.line.parkHanded = false)
    (due : (s.line.parkedCount + d.step).natAbs = 17) :
    lineCount d s = latch .park none { s with line := { s.line.counted d with parkHanded := true } } := by
  have now : mag (s.line.parkedCount + d.step) = 17 ∧ ¬ s.line.parkHanded = true := ⟨due, by simp [h]⟩
  refine (if_pos feeding).trans ?_
  cases d <;> exact if_pos now

theorem State.parkDue_iff : s.parkDue d = true ↔ s.line.effective = .feeding ∧ s.line.parkHanded = false
    ∧ (s.line.parkedCount + d.step).natAbs = 17 := by
  simp only [State.parkDue, Bool.and_eq_true, decide_eq_true_eq, Bool.not_eq_true', and_assoc]
  cases d <;> exact Iff.rfl

theorem lineCount_anyWaiting (h : s.anyWaiting = false) : (lineCount d s).anyWaiting = false := by
  by_cases feeding : s.line.effective = .feeding
  · by_cases due : s.line.parkHanded = false ∧ (s.line.parkedCount + d.step).natAbs = 17
    · rw [lineCount_due feeding due.1 due.2]
      exact latch_anyWaiting rfl none h
    · rw [lineCount_plain feeding due]
      exact h
  · rw [lineCount_elsewhere feeding]
    exact h

end

/-! ## What follows a count -/

section
variable {d : Direction} {s : State}

theorem reachAngle_unknown (h : s.shaft.angleValid = false) : reachAngle s = s := if_pos (by simp [h])

/-- An angle that gives no event (R74). -/
theorem reachAngle_quiet (h : s.shaft.eventHere = false) : reachAngle s = s := by
  simp only [Shaft.eventHere, Bool.and_eq_false_iff] at h
  rcases h with unknown | quiet
  · exact reachAngle_unknown unknown
  · unfold reachAngle
    cases window : s.shaft.window.inProgress
    · simp_all
    · simp only [window, if_true, Bool.or_eq_false_iff, Bool.and_eq_false_iff, decide_eq_false_iff_not] at quiet
      obtain ⟨stop, close⟩ := quiet
      simp only [window, not_true_eq_false, if_false, if_neg close]
      split
      · rfl
      · rw [if_neg]
        rintro ⟨here, given⟩
        exact stop.elim (fun e => e here) (by simpa using given)

/-- Nothing follows a count with no event, no burst to resume and no pulse held back. -/
theorem countEffects_quiet (event : d = .forward → s.shaft.eventHere = false)
    (burst : s.motion.burst = none ∨ s.line.permission = false) (waiting : s.anyWaiting = false) :
    countEffects d false s = s := by
  have reached : (if d = .forward then reachAngle s else s) = s := by
    split
    · exact reachAngle_quiet (event ‹_›)
    · rfl
  have resumed : testResume s = s := testResume_idle (burst.imp_left fun e => by simp [Motion.burstFrozen, e])
  simp only [countEffects, Bool.false_eq_true, if_false, reached, resumed, emitWaiting_of_none waiting]

/-- A count that latches ENCODER is a reverse one or has lost the angle, so it gives no event of the window. -/
theorem countEffects_encoder (h : d = .reverse ∨ s.shaft.angleValid = false) (waiting : s.anyWaiting = false) :
    countEffects d true s = testResume (latch .encoder none s) := by
  have reached : (if d = .forward then reachAngle (latch .encoder none s) else latch .encoder none s) =
      latch .encoder none s := by
    split
    · rename_i forward
      refine reachAngle_unknown ?_
      rw [latch_shaft]
      exact h.resolve_left (by simp [forward])
    · rfl
  simp only [countEffects, if_true, reached]
  exact emitWaiting_of_none (testResume_anyWaiting (latch_anyWaiting rfl none waiting))

end

/-! ## A count taken -/

/-- The state after the unit's own part of a count. -/
def State.moved (s : State) (d : Direction) : State := setShaft (s.shaft.count d s.line.effective) s

/-- Whether a count latches ENCODER (R69, R70). -/
def State.encoderDue (s : State) (d : Direction) : Bool :=
  s.shaft.losesIndex d || (decide (d = .reverse) && decide (s.shaft.reverseAfter d s.line.effective = 33))

section
variable {d : Direction} {s : State}

theorem takeCount_elsewhere (h : s.line.effective ≠ .feeding) :
    takeCount d s = countEffects d (s.encoderDue d) (s.moved d) := by
  have due : s.parkDue d = false := Bool.eq_false_iff.2 fun due => h (State.parkDue_iff.1 due).1
  simp only [takeCount, due, Bool.false_eq_true, if_false]
  exact congrArg _ (lineCount_elsewhere h)

theorem takeCount_plain (feeding : s.line.effective = .feeding)
    (h : ¬ (s.line.parkHanded = false ∧ (s.line.parkedCount + d.step).natAbs = 17)) :
    takeCount d s = countEffects d (s.encoderDue d) { s.moved d with line := s.line.counted d } := by
  have due : s.parkDue d = false := Bool.eq_false_iff.2 fun due => h (State.parkDue_iff.1 due).2
  simp only [takeCount, due, Bool.false_eq_true, if_false]
  exact congrArg _ (lineCount_plain (s := s.moved d) feeding h)

/-- At the count that hands over PARK the Line Controller takes the count before the other blocks or after them (log
11). -/
theorem takeCount_due (feeding : s.line.effective = .feeding) (h : s.line.parkHanded = false)
    (due : (s.line.parkedCount + d.step).natAbs = 17) :
    takeCount d s = countEffects d (s.encoderDue d) (lineCount d { s.moved d with draws := s.draws + 1 })
      ∨ takeCount d s = lineCount d (countEffects d (s.encoderDue d) { s.moved d with draws := s.draws + 1 }) := by
  simp only [takeCount, State.parkDue_iff.2 ⟨feeding, h, due⟩, if_true]
  split
  · exact .inr rfl
  · exact .inl rfl

end

/-! ## The unit's own part (R65, R66, R69, R70) -/

section
variable {h : Shaft} {m : Mode}

/-- A forward count short of 4104. -/
theorem Shaft.count_forward (high : h.angleValid = true → h.position ≤ 4102) (low : -4104 < h.position) :
    h.losesIndex .forward = false ∧ h.count .forward m = { h with
      position := if h.angleValid then h.position + 1 else (h.position + 1) % 4096
      stopped := false, lastCount := some .forward, reverseRun := 0 } := by
  have kept : h.losesIndex .forward = false := by
    cases valid : h.angleValid
    · simp [Shaft.losesIndex, valid]
    · have := high valid
      rw [Shaft.losesIndex, valid, Bool.true_and]
      refine decide_eq_false ?_
      simp only [Shaft.counted, mag]
      omega
  exact ⟨kept, by simp [Shaft.count, kept, Shaft.reverseAfter, Shaft.counted]⟩

/-- A reverse count short of −4104. -/
theorem Shaft.count_reverse (low : h.angleValid = true → -4102 ≤ h.position) (high : h.position < 4104) :
    h.losesIndex .reverse = false ∧ h.count .reverse m = { h with
      position := if h.angleValid then h.position - 1 else (h.position - 1) % 4096
      stopped := false, lastCount := some .reverse, clean := false
      reverseRun := if m = .running ∨ m = .stopping ∨ m = .feeding then min 65535 (h.reverseRun + 1) else 0 } := by
  have kept : h.losesIndex .reverse = false := by
    cases valid : h.angleValid
    · simp [Shaft.losesIndex, valid]
    · have := low valid
      rw [Shaft.losesIndex, valid, Bool.true_and]
      refine decide_eq_false ?_
      simp only [Shaft.counted, mag]
      omega
  refine ⟨kept, ?_⟩
  simp only [Shaft.count, kept, Shaft.reverseAfter, Shaft.counted]
  cases m <;> simp [Mode.judgesReverse, ← Int.sub_eq_add_neg]

/-- A count that loses the index reference (R69). -/
theorem Shaft.count_lost {d : Direction} (lost : h.losesIndex d = true) :
    (h.count d m).angleValid = false ∧ (h.count d m).window.inProgress = false ∧ (h.count d m).revStart = none
      ∧ (h.count d m).position = h.counted d % 4096 := by
  simp [Shaft.count, lost]

/-- The 33rd reverse count of a run (R70). -/
theorem Shaft.reverseAfter_eq_33 : h.reverseAfter .reverse m = 33 ↔
    h.reverseRun = 32 ∧ (m = .running ∨ m = .stopping ∨ m = .feeding) := by
  unfold Shaft.reverseAfter
  cases m <;> simp [Mode.judgesReverse] <;> omega

end

theorem State.encoderDue_forward {s : State} (kept : s.shaft.losesIndex .forward = false) :
    s.encoderDue .forward = false := by
  simp [State.encoderDue, kept]

theorem State.encoderDue_reverse {s : State} (kept : s.shaft.losesIndex .reverse = false)
    (run : s.shaft.reverseRun ≠ 32) : s.encoderDue .reverse = false := by
  have : s.shaft.reverseAfter .reverse s.line.effective ≠ 33 := fun e => run (Shaft.reverseAfter_eq_33.1 e).1
  simp [State.encoderDue, kept, this]

/-! ## The command (R65) -/

theorem countDirection_forward (a b : Bool) : countDirection (quadrature a b) (quadrature (!b) a) = some .forward := by
  revert a b; decide

theorem countDirection_reverse (a b : Bool) : countDirection (quadrature a b) (quadrature b (!a)) = some .reverse := by
  revert a b; decide

/-- A change of neither channel and a change of both take no count. -/
theorem countDirection_none (a b : Bool) :
    countDirection (quadrature a b) (quadrature a b) = none
      ∧ countDirection (quadrature a b) (quadrature (!a) (!b)) = none := by
  revert a b; decide

/-- An event acts while RESETN is not asserted. -/
theorem finish_live {f : State → State} {u : State} (h : u.resetAsserted = false) :
    finish (live f u) = .next (transmit (f u)) := by
  rw [live_running f u h, finish_eq]

section
variable {s : State} (running : s.resetAsserted = false) {a b : Bool}
include running

theorem exec_count {d : Direction} (h : countDirection (quadrature s.pins.sha s.pins.shb) (quadrature a b) = some d) :
    exec (.encoderCount a b) s = .next (transmit (takeCount d (setPins { s.pins with sha := a, shb := b } s))) := by
  simp only [exec, execEncoderCount, h]
  exact finish_live (u := setPins { s.pins with sha := a, shb := b } s) running

theorem exec_noCount (h : countDirection (quadrature s.pins.sha s.pins.shb) (quadrature a b) = none) :
    exec (.encoderCount a b) s = .next (transmit (setPins { s.pins with sha := a, shb := b } s)) := by
  simp only [exec, execEncoderCount, h]
  exact finish_live (u := setPins { s.pins with sha := a, shb := b } s) running

end

/-! ## What a count does (R66, R70, R71, R151) -/

/-- The state with the parked count handed over. -/
def State.handing (s : State) (d : Direction) : State :=
  { s with line := { s.line.counted d with parkHanded := true } }

/-- At the count that hands over PARK the parked count is handed over whole (R111, R151, R159). -/
structure ParkHanded (s : State) (d : Direction) (t : State) : Prop where
  has : t.line.faults.has .park = true
  handed : t.line.parkHanded = true
  count : t.line.parkedCount = s.line.parkedCount + d.step
  anew : s.line.faults.has .park = false → t.line.effective = .stopping ∧ t.line.stopPurpose = some .fault
    ∧ t.line.stopKind = some .atOnce ∧ t.gov.idle
    ∧ t.motion.burst = s.motion.burst.map Burst.freeze ∧ t.motion.feed = s.motion.feed.map Feed.freeze

theorem parkHanded_lineCount {s : State} {d : Direction} (feeding : s.line.effective = .feeding)
    (unhanded : s.line.parkHanded = false) (due : (s.line.parkedCount + d.step).natAbs = 17)
    (turning : s.shaft.stopped = false) : ParkHanded s d (lineCount d s) := by
  rw [lineCount_due feeding unhanded due]
  show ParkHanded s d (latch .park none (s.handing d))
  have has := latch_has (src := .park) (s := s.handing d) rfl none
  cases new : s.line.faults.has .park with
  | true =>
    rw [latch_again (s := s.handing d) new] at has ⊢
    exact ⟨has, rfl, rfl, fun h => by simp [h] at new⟩
  | false =>
    obtain ⟨_, line⟩ := latch_turning (s := s.handing d) new rfl turning (.inr feeding) none
    obtain ⟨_, gov, burst, feed, -, -⟩ := haltedAtOnce_latch (s := s.handing d) new rfl none
    refine ⟨has, by rw [line]; rfl, by rw [line]; rfl, fun _ => ?_⟩
    rw [line]
    exact ⟨rfl, rfl, rfl, gov, burst, feed⟩

/-- The Line Controller's part of a count gives no frozen burst its permission. -/
theorem lineCount_burstIdle {s : State} {d : Direction} (turning : s.shaft.stopped = false)
    (h : s.motion.burst = none ∨ s.line.permission = false) :
    (lineCount d s).motion.burst = none ∨ (lineCount d s).line.permission = false := by
  by_cases feeding : s.line.effective = .feeding
  · by_cases due : s.line.parkHanded = false ∧ (s.line.parkedCount + d.step).natAbs = 17
    · rw [lineCount_due feeding due.1 due.2]
      show (latch .park none (s.handing d)).motion.burst = none
        ∨ (latch .park none (s.handing d)).line.permission = false
      cases new : s.line.faults.has .park with
      | true => rw [latch_again (s := s.handing d) new]; exact h
      | false =>
        obtain ⟨_, line⟩ := latch_turning (s := s.handing d) new rfl turning (.inr feeding) none
        exact .inr (by rw [line]; simp [Line.inMode, permissionIn])
    · rw [lineCount_plain feeding due]; exact h
  · rw [lineCount_elsewhere feeding]; exact h

/-! ## A count with nothing else acting -/

/-- The line with the parked count moved in FEEDING. -/
def Line.parked (l : Line) (d : Direction) : Line :=
  { l with parkedCount := if l.effective = .feeding then l.parkedCount + d.step else l.parkedCount }

section
variable {d : Direction} {s : State} {h : Shaft} (kept : s.encoderDue d = false)
  (count : s.shaft.count d s.line.effective = h) (turning : h.stopped = false)
  (event : d = .forward → h.eventHere = false) (burst : s.motion.burst = none ∨ s.line.permission = false)
  (waiting : s.anyWaiting = false)
include kept count event burst waiting

theorem takeCount_still (early : ¬ (s.line.effective = .feeding ∧ s.line.parkHanded = false
    ∧ (s.line.parkedCount + d.step).natAbs = 17)) :
    takeCount d s = { s with shaft := h, line := s.line.parked d } := by
  subst count
  by_cases feeding : s.line.effective = .feeding
  · rw [takeCount_plain feeding fun due => early ⟨feeding, due⟩, kept]
    refine (countEffects_quiet (s := { s.moved d with line := s.line.counted d }) event burst waiting).trans ?_
    simp [Line.parked, Line.counted, feeding, State.moved, setShaft]
  · rw [takeCount_elsewhere feeding, kept]
    refine (countEffects_quiet (s := s.moved d) event burst waiting).trans ?_
    simp [Line.parked, feeding, State.moved, setShaft]

include turning in
theorem takeCount_handed (feeding : s.line.effective = .feeding) (unhanded : s.line.parkHanded = false)
    (due : (s.line.parkedCount + d.step).natAbs = 17) :
    ParkHanded s d (takeCount d s) ∧ (takeCount d s).shaft = h := by
  subst count
  let drawn : State := { s.moved d with draws := s.draws + 1 }
  have whole : takeCount d s = lineCount d drawn := by
    rcases takeCount_due feeding unhanded due with e | e
    · rw [e, kept]
      refine countEffects_quiet ?_ (lineCount_burstIdle (s := drawn) turning burst)
        (lineCount_anyWaiting (s := drawn) waiting)
      rw [lineCount_shaft]
      exact event
    · rw [e, kept]
      exact congrArg _ (countEffects_quiet (s := drawn) event burst waiting)
  rw [whole]
  obtain ⟨has, handed, count, anew⟩ := parkHanded_lineCount (s := drawn) feeding unhanded due turning
  exact ⟨⟨has, handed, count, anew⟩, lineCount_shaft d drawn⟩

end

/-! ## The count's obligation -/

section
variable {s : State} (running : s.resetAsserted = false) {a b : Bool} {d : Direction}
  (edge : countDirection (quadrature s.pins.sha s.pins.shb) (quadrature a b) = some d)
  {h : Shaft} (kept : s.encoderDue d = false) (count : s.shaft.count d s.line.effective = h)
  (event : d = .forward → h.eventHere = false) (burst : s.motion.burst = none ∨ s.line.permission = false)
  (waiting : s.anyWaiting = false)
include running edge kept count event burst waiting

theorem exec_count_still (early : ¬ (s.line.effective = .feeding ∧ s.line.parkHanded = false
    ∧ (s.line.parkedCount + d.step).natAbs = 17)) :
    exec (.encoderCount a b) s = .next (transmit
      { s with pins := { s.pins with sha := a, shb := b }, shaft := h, line := s.line.parked d }) := by
  rw [exec_count running edge]
  exact congrArg (fun t => Host.Outcome.next (transmit t)) (takeCount_still
    (s := setPins { s.pins with sha := a, shb := b } s) kept count event burst waiting early)

theorem exec_count_handed (turning : h.stopped = false) (due : s.line.effective = .feeding ∧ s.line.parkHanded = false
    ∧ (s.line.parkedCount + d.step).natAbs = 17) :
    ∃ t, exec (.encoderCount a b) s = .next t ∧ ParkHanded s d t ∧ t.shaft = h := by
  obtain ⟨feeding, unhanded, due⟩ := due
  rw [exec_count running edge]
  obtain ⟨⟨has, handed, moved, anew⟩, shaft⟩ := takeCount_handed (s := setPins { s.pins with sha := a, shb := b } s)
    kept count turning event burst waiting feeding unhanded due
  exact ⟨_, rfl, ⟨has, handed, moved, anew⟩, shaft⟩

end

/-- Settles O38: the unit's own count, with the parked count beside it. -/
theorem encoderCountMovesShaft : Obligations.EncoderCountMovesShaft := by
  intro s running
  have edges := countDirection_none s.pins.sha s.pins.shb
  refine ⟨fun waiting burst => ⟨fun high low => ?_, fun low high run => ?_⟩, ?_, ?_⟩
  · intro h event
    obtain ⟨kept, count⟩ := Shaft.count_forward (m := s.line.effective) high low
    have due := State.encoderDue_forward kept
    have edge := countDirection_forward s.pins.sha s.pins.shb
    refine ⟨fun early => exec_count_still running edge due count (fun _ => event) burst waiting early, fun now => ?_⟩
    obtain ⟨t, e, ⟨has, handed, moved, anew⟩, shaft⟩ :=
      exec_count_handed running edge due count (fun _ => event) burst waiting rfl now
    exact ⟨t, e, has, handed, moved, shaft, anew⟩
  · intro h
    obtain ⟨kept, count⟩ := Shaft.count_reverse (m := s.line.effective) low high
    have due := State.encoderDue_reverse kept run
    have edge := countDirection_reverse s.pins.sha s.pins.shb
    refine ⟨fun early => exec_count_still running edge due count nofun burst waiting early, fun now => ?_⟩
    obtain ⟨t, e, ⟨has, handed, moved, anew⟩, shaft⟩ :=
      exec_count_handed running edge due count nofun burst waiting rfl now
    exact ⟨t, e, has, handed, moved, shaft, anew⟩
  · exact exec_noCount running edges.1
  · exact exec_noCount running edges.2

end Sys2Proof.Machine
end

section
/-! PROOFS. The encoder's checks (R68 to R70): a lost index, the 33rd reverse count and an index out of place latch
ENCODER. -/

namespace Sys2Proof.Machine

/-! ## A source latched stays latched -/

theorem FaultRecord.has_add_of {f : FaultRecord} {o : FaultSource} (h : f.has o = true) (src : FaultSource)
    (act : FaultAction) (ref : Option Ref) : (f.add src act ref).has o = true := by
  simp only [FaultRecord.has, FaultRecord.add, List.any_append] at h ⊢
  simp [h]

theorem latch_has_of_has {src o : FaultSource} {s : State} (once : actionOf s.params src = .atOnce) (ref : Option Ref)
    (h : s.line.faults.has o = true) : (latch src ref s).line.faults.has o = true := by
  cases new : s.line.faults.has src with
  | true => rw [latch_again new]; exact h
  | false =>
    obtain ⟨r, -, -, -, -, faults⟩ := haltedAtOnce_latch new once ref
    rw [faults]
    exact FaultRecord.has_add_of h ..

theorem lineCount_has_of_has {d : Direction} {s : State} {o : FaultSource} (h : s.line.faults.has o = true) :
    (lineCount d s).line.faults.has o = true := by
  by_cases feeding : s.line.effective = .feeding
  · by_cases due : s.line.parkHanded = false ∧ (s.line.parkedCount + d.step).natAbs = 17
    · rw [lineCount_due feeding due.1 due.2]
      exact latch_has_of_has rfl none h
    · rw [lineCount_plain feeding due]; exact h
  · rw [lineCount_elsewhere feeding]; exact h

/-! ## Counts (R69, R70) -/

theorem countEffects_hasEncoder {d : Direction} {s : State} (h : d = .reverse ∨ s.shaft.angleValid = false)
    (waiting : s.anyWaiting = false) :
    (countEffects d true s).line.faults.has .encoder = true ∧ (countEffects d true s).shaft = s.shaft := by
  rw [countEffects_encoder h waiting, testResume_line_eq, testResume_shaft, latch_shaft]
  exact ⟨latch_has rfl none, rfl⟩

/-- A count with ENCODER due latches it, in whichever order the blocks take the count. -/
theorem takeCount_encoder {d : Direction} {s : State} (due : s.encoderDue d = true)
    (h : d = .reverse ∨ (s.moved d).shaft.angleValid = false) (waiting : s.anyWaiting = false) :
    (takeCount d s).line.faults.has .encoder = true ∧ (takeCount d s).shaft = (s.moved d).shaft := by
  by_cases feeding : s.line.effective = .feeding
  · by_cases park : s.line.parkHanded = false ∧ (s.line.parkedCount + d.step).natAbs = 17
    · let drawn : State := { s.moved d with draws := s.draws + 1 }
      rcases takeCount_due feeding park.1 park.2 with e | e <;> rw [e, due]
      · obtain ⟨has, shaft⟩ := countEffects_hasEncoder (s := lineCount d drawn)
          (by rw [lineCount_shaft]; exact h) (lineCount_anyWaiting (s := drawn) waiting)
        exact ⟨has, by rw [shaft, lineCount_shaft]⟩
      · obtain ⟨has, shaft⟩ := countEffects_hasEncoder (s := drawn) h waiting
        exact ⟨lineCount_has_of_has has, by rw [lineCount_shaft, shaft]⟩
    · rw [takeCount_plain feeding park, due]
      exact countEffects_hasEncoder (s := { s.moved d with line := s.line.counted d }) h waiting
  · rw [takeCount_elsewhere feeding, due]
    exact countEffects_hasEncoder (s := s.moved d) h waiting

theorem State.encoderDue_iff {s : State} {d : Direction} : s.encoderDue d = true ↔ s.shaft.losesIndex d = true
    ∨ d = .reverse ∧ s.shaft.reverseRun = 32
      ∧ (s.line.effective = .running ∨ s.line.effective = .stopping ∨ s.line.effective = .feeding) := by
  cases d
  · simp [State.encoderDue]
  · simp only [State.encoderDue, Bool.or_eq_true, Bool.and_eq_true, decide_eq_true_eq, true_and,
      Shaft.reverseAfter_eq_33]

/-! ## An index out of place (R69) -/

theorem takeIndex_badSpacing {now : Nat} {s : State} (valid : s.shaft.angleValid = true)
    (bad : indexClass s.shaft.position = .badSpacing) :
    takeIndex now s = emitWaiting (setShaft (badIndex now s).shaft.applyAtIndex (badIndex now s)) := by
  unfold takeIndex
  rw [valid, bad]
  rfl

theorem indexClass_badSpacing {p : Int} (forward : ¬ (4094 ≤ p ∧ p ≤ 4098)) (same : ¬ (-2 ≤ p ∧ p ≤ 2))
    (reverse : ¬ (-4098 ≤ p ∧ p ≤ -4094)) : indexClass p = .badSpacing := by
  rw [indexClass, if_neg forward, if_neg same, if_neg reverse]

/-- A pending set made active writes the sets and the window state alone (R80). -/
theorem Shaft.applyAtIndex_frame (h : Shaft) :
    ∃ t p w, h.applyAtIndex = { h with active := t, pendingSet := p, window := w } := by
  unfold Shaft.applyAtIndex
  split
  · exact ⟨_, _, _, rfl⟩
  · dsimp only
    split <;> exact ⟨_, _, _, rfl⟩

/-- Settles O40: the three checks of the encoder. -/
theorem encoderChecksLatch : Obligations.EncoderChecksLatch := by
  refine ⟨fun s a b d running waiting edge due => ?_, fun now s running waiting valid forward same reverse => ?_⟩
  · let u : State := setPins { s.pins with sha := a, shb := b } s
    have now : d = .reverse ∨ (u.moved d).shaft.angleValid = false :=
      due.elim (fun lost => .inr (Shaft.count_lost lost).1) fun run => .inl run.1
    obtain ⟨has, shaft⟩ := takeCount_encoder (s := u) (State.encoderDue_iff.2 due) now waiting
    refine ⟨_, exec_count running edge, has, fun lost => ?_⟩
    rw [transmit_shaft, shaft]
    exact Shaft.count_lost lost
  · let h : Shaft := { s.shaft with position := 0 }
    let taken : State := setShaft ({ h with window := h.derivedWindow }.startRevolution now) s
    let latched : State := latch .encoder none taken
    have has : latched.line.faults.has .encoder = true := latch_has rfl none
    have still : (setShaft latched.shaft.applyAtIndex latched).anyWaiting = false :=
      latch_anyWaiting (s := taken) rfl none waiting
    have whole : takeIndex now s = setShaft latched.shaft.applyAtIndex latched :=
      (takeIndex_badSpacing valid (indexClass_badSpacing forward same reverse)).trans (emitWaiting_of_none still)
    obtain ⟨ts, p, w, applied⟩ := latched.shaft.applyAtIndex_frame
    have shaft : (takeIndex now s).shaft =
        { s.shaft with
          position := 0, revStart := some now, clean := true, active := ts, pendingSet := p, window := w } := by
      rw [whole, setShaft_shaft, applied, latch_shaft]
      rfl
    refine ⟨_, finish_live running, by rw [transmit_line, whole]; exact has, ?_⟩
    rw [transmit_shaft, shaft]
    exact ⟨rfl, valid, rfl, rfl, rfl, rfl⟩

end Sys2Proof.Machine
end

section
/-! PROOFS. The events of the window (R74, R75, R78), the overrun (R110) and the frozen burst (R112): what each angle
gives, said once, and the counts that reach it. -/

namespace Sys2Proof.Machine

/-! ## The events an angle gives (R74, R75) -/

/-- The window of the active set, open (R75). -/
def State.opened (s : State) : State :=
  { s with shaft := { s.shaft with window :=
    ⟨true, s.shaft.active.windowOpen, s.shaft.active.windowClose, s.shaft.active.stopAngle, false⟩ } }

/-- The window closed (R75). -/
def State.closed (s : State) : State :=
  { s with shaft := { s.shaft with window := { s.shaft.window with inProgress := false } } }

section
variable {s : State}

theorem reachAngle_open (valid : s.shaft.angleValid = true) (window : s.shaft.window.inProgress = false)
    (here : s.shaft.angle = s.shaft.active.windowOpen) : reachAngle s = deliverOpen s.opened := by
  unfold reachAngle
  dsimp only
  rw [if_neg (by simp [valid]), if_pos (by simp [window]), if_pos here]
  rfl

theorem reachAngle_stop (valid : s.shaft.angleValid = true) (window : s.shaft.window.inProgress = true)
    (here : s.shaft.angle = s.shaft.window.stopAt) (first : s.shaft.window.stopGiven = false) :
    reachAngle s = stopAngleGov
      { s with shaft := { s.shaft with window := { s.shaft.window with stopGiven := true } } } := by
  unfold reachAngle
  dsimp only
  rw [if_neg (by simp [valid]), if_neg (by simp [window]), if_pos ⟨here, by simp [first]⟩]
  rfl

theorem reachAngle_close (valid : s.shaft.angleValid = true) (window : s.shaft.window.inProgress = true)
    (here : s.shaft.angle = s.shaft.window.closeAt) (stop : s.shaft.angle ≠ s.shaft.window.stopAt) :
    reachAngle s = deliverClose s.closed := by
  unfold reachAngle
  dsimp only
  rw [if_neg (by simp [valid]), if_neg (by simp [window]), if_neg fun h => stop h.1, if_pos here]
  rfl

/-- Outside its own window the shaft gives nothing but the open (R74). -/
theorem eventHere_closed (window : s.shaft.window.inProgress = false)
    (away : s.shaft.angle ≠ s.shaft.active.windowOpen) : s.shaft.eventHere = false := by
  simp [Shaft.eventHere, window, away]

/-- Within a window the stop is given once and the close ends it; elsewhere nothing is given (R75). -/
theorem eventHere_between (close : s.shaft.angle ≠ s.shaft.window.closeAt) (window : s.shaft.window.inProgress = true)
    (stop : s.shaft.angle ≠ s.shaft.window.stopAt ∨ s.shaft.window.stopGiven = true) : s.shaft.eventHere = false := by
  rcases stop with away | given
  · simp [Shaft.eventHere, window, close, away]
  · simp [Shaft.eventHere, window, close, given]

/-! ## The open delivered (R78) -/

theorem deliverOpen_of_noBreak (h : s.breakDue = false) : deliverOpen s = motionOpen (monitorOpen s) := by
  simp [deliverOpen, h]

/-- Where a break is declared the order of the two receivers is free (log 11). -/
theorem deliverOpen_of_break (h : s.breakDue = true) :
    deliverOpen s = motionOpen (monitorOpen { s with draws := s.draws + 1 })
      ∨ deliverOpen s = monitorOpen (motionOpen { s with draws := s.draws + 1 }) := by
  simp only [deliverOpen, h, if_true]
  split
  · exact .inr rfl
  · exact .inl rfl

theorem motionOpen_of_refused (h : s.line.permission = false) : motionOpen s = s := if_neg (by simp [h])

theorem occasion_of_unformed (h : s.monitor.formedStitch = none) : s.occasion = false := by
  simp [State.occasion, h]

theorem monitorOpen_of_unformed (h : s.monitor.formedStitch = none) :
    monitorOpen s = { s with monitor := { s.monitor with scanFault := false, seen := 0 } } := by
  simp only [monitorOpen, h]

/-- With no permission and no formed stitch the open only clears the Monitor's flags. -/
theorem deliverOpen_of_idle (refused : s.line.permission = false) (unformed : s.monitor.formedStitch = none) :
    deliverOpen s = { s with monitor := { s.monitor with scanFault := false, seen := 0 } } := by
  have none : s.breakDue = false := by simp [State.breakDue, occasion_of_unformed unformed]
  rw [deliverOpen_of_noBreak none, monitorOpen_of_unformed unformed]
  exact motionOpen_of_refused refused

/-! ## The close delivered (R110, R139) -/

theorem monitorClose_eq (s : State) : monitorClose s = { s with monitor := { s.monitor with
    formedStitch := if s.monitor.pendingStitch = none then s.monitor.formedStitch else s.monitor.pendingStitch
    pendingStitch := none } } := by
  unfold monitorClose
  split
  · rename_i h
    rw [if_pos h, ← h]
  · rename_i h; simp [h]

theorem motionClose_of_idle (h : s.motion.emitting = false) : motionClose s = s := if_neg (by simp [h])

/-- The burst stopped where it stands (R110). -/
def State.overrun (s : State) : State :=
  { s with motion := { s.motion with burst := s.motion.burst.map Burst.freeze } }

theorem motionClose_of_emitting (h : s.motion.emitting = true) : motionClose s = latch .overrun none s.overrun :=
    if_pos h

/-- A burst still emitting at the close is frozen and latches OVERRUN (R110, R159). -/
structure OverrunLatched (s t : State) : Prop where
  burst : t.motion.burst = s.motion.burst.map Burst.freeze
  has : t.line.faults.has .overrun = true
  idle : s.line.faults.has .overrun = false → t.gov.idle
  stops : s.line.faults.has .overrun = false → s.line.effective = .running → s.shaft.stopped = false →
    t.line.effective = .stopping ∧ t.line.stopPurpose = some .fault ∧ t.line.stopKind = some .atOnce

theorem overrunLatched_motionClose (h : s.motion.emitting = true) : OverrunLatched s (motionClose s) := by
  rw [motionClose_of_emitting h]
  have has := latch_has (src := .overrun) (s := s.overrun) rfl none
  cases new : s.line.faults.has .overrun with
  | true =>
    rw [latch_again (s := s.overrun) new] at has ⊢
    exact ⟨rfl, has, fun anew => by simp [anew] at new, fun anew => by simp [anew] at new⟩
  | false =>
    obtain ⟨_, gov, burst, -, -, -⟩ := haltedAtOnce_latch (s := s.overrun) new rfl none
    refine ⟨?_, has, fun _ => gov, fun _ mode turning => ?_⟩
    · rw [burst]
      simp [State.overrun, Function.comp_def]
    · obtain ⟨_, line⟩ := latch_turning (s := s.overrun) new rfl turning (.inl mode) none
      rw [line]
      exact ⟨rfl, rfl, rfl⟩

theorem overrunLatched_deliverClose (h : s.motion.emitting = true) : OverrunLatched s (deliverClose s) := by
  obtain ⟨burst, has, idle, stops⟩ := overrunLatched_motionClose h
  rw [deliverClose, monitorClose_eq]
  exact ⟨burst, has, idle, stops⟩

/-! ## STOP_ANGLE at the Governor (R95) -/

theorem stopAngleGov_armed (parking : s.gov.state = .parking) (armed : s.gov.armed = true)
    (braked : s.gov.braked = false) :
    stopAngleGov s = { s with gov := { s.gov with released := false, applied := 0, braked := true } } :=
  if_pos ⟨parking, armed, by simp [braked]⟩

theorem stopAngleGov_other (h : s.gov.state ≠ .parking ∨ s.gov.armed = false ∨ s.gov.braked = true) :
    stopAngleGov s = s := by
  refine if_neg ?_
  rintro ⟨parking, armed, braked⟩
  simp [parking, armed, braked] at h

/-! ## A frozen burst resumes (R107, R112) -/

theorem burstPeriod_eq {p : Nat} (h : s.shaft.period = some p
    ∨ (s.shaft.period = none ∧ s.gov.applied ≠ 0 ∧ p = 60000000 / s.gov.applied)) : burstPeriod s = (p, s) := by
  rcases h with measured | ⟨unmeasured, applied, rfl⟩
  · simp only [burstPeriod, measured]
  · simp only [burstPeriod, unmeasured, if_neg applied]

theorem turningForwardInside_iff {h : Shaft} : h.turningForwardInside = true ↔
    (h.window.inProgress = true ∧ forwardCounts h.window.openAt h.angle
      < forwardCounts h.window.openAt h.window.closeAt) ∧ (h.stopped = false ∧ h.lastCount = some .forward) := by
  simp only [Shaft.turningForwardInside, Shaft.insideCurrent, Bool.and_eq_true, Bool.not_eq_true', decide_eq_true_eq,
    and_assoc]

theorem testResume_resumes {b : Burst} (at_b : s.motion.burst = some b) (frozen : b.frozen = true)
    (granted : s.line.permission = true) (turning : s.shaft.turningForwardInside = true) :
    testResume s = emitBurst (forwardCounts s.shaft.angle s.shaft.window.closeAt) b s := by
  simp only [testResume, at_b, frozen, granted, turning, and_self, if_true]

theorem testResume_stays (h : s.motion.burstFrozen = false ∨ s.line.permission = false
    ∨ s.shaft.turningForwardInside = false) : testResume s = s := by
  unfold testResume
  split
  · rfl
  · rename_i b at_b
    rw [if_neg]
    rintro ⟨frozen, granted, turning⟩
    simp [Motion.burstFrozen, at_b, frozen, granted, turning] at h

end

/-- What follows a count of the unit's own (R151), however the Line Controller takes it. -/
theorem exec_count_events {s : State} {d : Direction} {a b : Bool} {h : Shaft} (running : s.resetAsserted = false)
    (edge : countDirection (quadrature s.pins.sha s.pins.shb) (quadrature a b) = some d)
    (kept : s.encoderDue d = false) (count : s.shaft.count d s.line.effective = h) :
    let rest : State → State := fun t => emitWaiting (testResume (if d = .forward then reachAngle t else t))
    let u : State := { s with pins := { s.pins with sha := a, shb := b }, shaft := h }
    let answers : State → Prop := fun t => exec (.encoderCount a b) s = .next (transmit t)
    let due := s.line.parkHanded = false ∧ (s.line.parkedCount + d.step).natAbs = 17
    (s.line.effective ≠ .feeding → answers (rest u))
    ∧ (s.line.effective = .feeding → ¬ due → answers (rest { u with line := s.line.counted d }))
    ∧ (s.line.effective = .feeding → due → answers (rest (lineCount d { u with draws := s.draws + 1 }))
      ∨ answers (lineCount d (rest { u with draws := s.draws + 1 }))) := by
  subst count
  intro rest u answers due
  let v : State := setPins { s.pins with sha := a, shb := b } s
  have answered : ∀ t, takeCount d v = t → answers t := fun t e => by
    rw [← e]; exact exec_count running edge
  have quiet : v.encoderDue d = false := kept
  refine ⟨fun elsewhere => answered _ ?_, fun feeding early => answered _ ?_, fun feeding now => ?_⟩
  · rw [takeCount_elsewhere (s := v) elsewhere, quiet]
    rfl
  · rw [takeCount_plain (s := v) feeding early, quiet]
    rfl
  · refine (takeCount_due (s := v) feeding now.1 now.2).imp (fun e => answered _ ?_) fun e => answered _ ?_ <;>
    · rw [e, quiet]
      rfl

/-! ## The obligation -/

/-- Settles O41: the counts, the events each angle gives and the frozen burst. -/
theorem windowEventsByAngle : Obligations.WindowEventsByAngle := by
  refine ⟨fun s running => ⟨fun high low => ?_, fun low high run => ?_⟩, fun s => reachAngle_unknown,
    fun s valid => ⟨fun window away => reachAngle_quiet (eventHere_closed window away), fun window here => ?_,
      fun window here first => ?_, fun window here stop => ?_,
      fun window close stop => reachAngle_quiet (eventHere_between close window stop)⟩, fun s => ⟨?_, ?_⟩⟩
  · obtain ⟨kept, count⟩ := Shaft.count_forward (m := s.line.effective) high low
    exact exec_count_events running (countDirection_forward ..) (State.encoderDue_forward kept) count
  · obtain ⟨kept, count⟩ := Shaft.count_reverse (m := s.line.effective) low high
    exact exec_count_events running (countDirection_reverse ..) (State.encoderDue_reverse kept run) count
  · rw [reachAngle_open valid window here]
    exact ⟨fun none => deliverOpen_of_noBreak (s := s.opened) none,
      fun broken => deliverOpen_of_break (s := s.opened) broken,
      fun refused unformed => deliverOpen_of_idle (s := s.opened) refused unformed⟩
  · rw [reachAngle_stop valid window here first]
    exact ⟨fun parking armed braked => stopAngleGov_armed parking armed braked, fun other => stopAngleGov_other other⟩
  · rw [reachAngle_close valid window here stop]
    refine ⟨fun idle => ?_, fun b at_b emitting => ?_⟩
    · rw [deliverClose, motionClose_of_idle (s := s.closed) idle]
      exact monitorClose_eq s.closed
    · obtain ⟨burst, has, idle, stops⟩ := overrunLatched_deliverClose (s := s.closed)
        (by simp [Motion.emitting, State.closed, at_b, emitting])
      refine ⟨?_, has, deliverClose_shaft s.closed, idle, stops⟩
      rw [burst, State.closed, at_b]
      simp [Burst.freeze, emitting, AxisMove.held, AxisMove.timed]
  · intro b p at_b frozen granted inside turning period
    rw [testResume_resumes at_b frozen granted (turningForwardInside_iff.2 ⟨inside, turning⟩), emitBurst,
      burstPeriod_eq period]
    rfl
  · intro idle
    refine testResume_stays (idle.imp_right (Or.imp_right fun away => ?_))
    rw [Bool.eq_false_iff]
    intro turns
    exact away.elim (fun h => h (turningForwardInside_iff.1 turns).1) fun h => h (turningForwardInside_iff.1 turns).2

end Sys2Proof.Machine
end

section
/-! PROOFS. The index pulse (R67 to R69, R71, R72, R76, R80): what is measured, what the jump gives, and what the
Governor makes of it (R92, R95). -/

namespace Sys2Proof.Machine

/-! ## The Travel Audit beside the window events (R171) -/

theorem SameButGov.audit {s t : State} : SameButGov s t → t.audit = s.audit := by
  rintro ⟨_, rfl⟩; rfl
theorem SameButStop.audit {s t : State} : SameButStop s t → t.audit = s.audit := by
  rintro ⟨_, _, _, _, rfl⟩; rfl
theorem SameButLine.audit {s t : State} : SameButLine s t → t.audit = s.audit := by
  rintro ⟨_, _, _, _, _, _, _, _, rfl⟩; rfl

@[simp] theorem latch_audit (src : FaultSource) (ref : Option Ref) (s : State) : (latch src ref s).audit = s.audit :=
  (latch_stop ..).audit
@[simp] theorem stitchStop_audit (why : Reason) (s : State) : (stitchStop why s).audit = s.audit :=
  (stitchStop_stop ..).audit
@[simp] theorem endStep_audit (e : Bool) (s : State) : (endStep e s).audit = s.audit := (endStep_line ..).audit
@[simp] theorem watch_audit (e : Bool) (s : State) : (watch e s).audit = s.audit := (watch_line ..).audit
@[simp] theorem stopForRecord_audit (p : StopPurpose) (s : State) : (stopForRecord p s).audit = s.audit :=
  (stopForRecord_line ..).audit
@[simp] theorem replayFormed_audit (s : State) : (replayFormed s).audit = s.audit := (replayFormed_gov ..).audit
@[simp] theorem stopAngleGov_audit (s : State) : (stopAngleGov s).audit = s.audit := (stopAngleGov_gov ..).audit
@[simp] theorem indexGov_audit (b : Bool) (s : State) : (indexGov b s).audit = s.audit := (indexGov_gov ..).audit
@[simp] theorem countStitch_audit (s : State) : (countStitch s).audit = s.audit := rfl
@[simp] theorem appendHistory_audit (st : Stitch) (s : State) : (appendHistory st s).audit = s.audit := by
  unfold appendHistory; dsimp only
@[simp] theorem removeHead_audit (s : State) : (removeHead s).audit = s.audit := by
  obtain ⟨_, _, h, -, -⟩ := removeHead_frame s
  rw [h]
@[simp] theorem recordBegun_audit (r : PlanRecord) (s : State) : (recordBegun r s).audit = s.audit := by
  obtain ⟨_, _, _, h⟩ := recordBegun_frame r s
  rw [h]
@[simp] theorem monitorBurst_audit (r : Ref) (src : StitchSource) (s : State) :
    (monitorBurst r src s).audit = s.audit := by
  unfold monitorBurst; split <;> rfl
@[simp] theorem monitorClose_audit (s : State) : (monitorClose s).audit = s.audit := by rw [monitorClose_eq]
@[simp] theorem motionClose_audit (s : State) : (motionClose s).audit = s.audit := by
  unfold motionClose; split <;> simp
@[simp] theorem evaluate_audit (r : Ref) (s : State) : (evaluate r s).audit = s.audit := by
  unfold evaluate; dsimp only; split <;> simp
@[simp] theorem monitorOpen_audit (s : State) : (monitorOpen s).audit = s.audit := by
  unfold monitorOpen; repeat' split
  all_goals simp
@[simp] theorem lineBurstDone_audit (last emptied : Bool) (s : State) :
    (lineBurstDone last emptied s).audit = s.audit := by
  unfold lineBurstDone; dsimp only; repeat' split
  all_goals simp
@[simp] theorem emitBurst_audit (w : Nat) (b : Burst) (s : State) : (emitBurst w b s).audit = s.audit := by
  have drawn : (burstPeriod s).2.audit = s.audit := by
    unfold burstPeriod; repeat' split
    all_goals rfl
  exact drawn

/-- An audit that does not count takes no pulses. -/
theorem addCmd_idle {s : State} (h : s.audit.state ≠ .counting) (n : Nat) : addCmd n s = s :=
  if_neg (by simp [State.auditCounts, h])

theorem auditIndex_idle {s : State} (h : s.audit.state ≠ .counting) : auditIndex s = s :=
  if_neg (by simp [State.auditCounts, h])

section
variable {s : State} (idle : s.audit.state ≠ .counting)
include idle

theorem completeBurst_audit (b : Burst) : (completeBurst b s).audit = s.audit := by
  unfold completeBurst
  split
  · unfold completeHeadBurst
    dsimp only
    rw [addCmd_idle (by simpa using idle)]
    simp
  · unfold completeReplayBurst
    dsimp only
    rw [addCmd_idle (by simpa using idle)]
    simp

theorem openBurst_audit (b : Burst) : (openBurst b s).audit = s.audit := by
  unfold openBurst
  split
  · exact completeBurst_audit (s := { s with motion := { s.motion with burst := some b } }) idle b
  · simp

theorem motionOpen_audit : (motionOpen s).audit = s.audit := by
  unfold motionOpen
  split
  · split
    · exact openBurst_audit idle _
    · split
      · rfl
      · split
        · exact (openBurst_audit (s := recordBegun _ s) (by simpa using idle) _).trans (recordBegun_audit ..)
        · rfl
  · rfl

theorem deliverOpen_audit : (deliverOpen s).audit = s.audit := by
  cases due : s.breakDue with
  | false =>
    rw [deliverOpen_of_noBreak due, motionOpen_audit (by simpa using idle), monitorOpen_audit]
  | true =>
    rcases deliverOpen_of_break due with e | e <;> rw [e]
    · exact (motionOpen_audit (by simpa using idle)).trans (monitorOpen_audit ..)
    · exact (monitorOpen_audit _).trans (motionOpen_audit (s := { s with draws := s.draws + 1 }) idle)

/-- The events of an angle leave an audit that does not count as it is. -/
theorem reachAngle_audit : (reachAngle s).audit = s.audit := by
  unfold reachAngle
  dsimp only
  repeat' split
  case isFalse.isTrue.isTrue => exact deliverOpen_audit (s := setShaft _ s) idle
  all_goals simp [deliverClose]

theorem indexJump_audit : (indexJump s).audit = s.audit := by
  have once : ∀ t : State, t.audit = s.audit → (reachAngle t).audit = s.audit := fun t same =>
    (reachAngle_audit (by rw [same]; exact idle)).trans same
  unfold indexJump
  dsimp only
  split
  · exact once _ (once _ rfl)
  · split
    · exact once _ rfl
    · rfl

/-- The index event then reaches the Governor alone. -/
theorem deliverIndex_idle (measured : Bool) : deliverIndex measured s = indexGov measured s := by
  unfold deliverIndex
  dsimp only
  rw [if_neg fun h => idle h.1]
  exact auditIndex_idle (by simpa using idle)

end

/-! ## The jump (R68, R76) -/

/-- The unit moved to a position. -/
def State.at (s : State) (z : Int) : State := { s with shaft := { s.shaft with position := z } }

section
variable {s : State}

theorem indexJump_two (h : (-s.shaft.position) % 4096 = 2) :
    indexJump s = reachAngle ((reachAngle (s.at (-1))).at 0) := if_pos h

theorem indexJump_one (h : (-s.shaft.position) % 4096 = 1) : indexJump s = reachAngle (s.at 0) := by
  unfold indexJump
  dsimp only
  rw [h]
  rfl

theorem indexJump_other (one : (-s.shaft.position) % 4096 ≠ 1) (two : (-s.shaft.position) % 4096 ≠ 2) :
    indexJump s = s.at 0 := by
  unfold indexJump
  dsimp only
  rw [if_neg two, if_neg one]
  rfl

theorem jumpEvent_iff : s.jumpEvent = true ↔
    ((-s.shaft.position) % 4096 = 2 ∧ (s.at (-1)).shaft.eventHere = true)
      ∨ (((-s.shaft.position) % 4096 = 1 ∨ (-s.shaft.position) % 4096 = 2) ∧ (s.at 0).shaft.eventHere = true) := by
  simp [State.jumpEvent, State.at]

/-- A jump over no event only moves the unit. -/
theorem indexJump_quiet (h : s.jumpEvent = false) : indexJump s = s.at 0 := by
  rw [← Bool.not_eq_true, jumpEvent_iff, not_or] at h
  obtain ⟨passed, reached⟩ := h
  by_cases two : (-s.shaft.position) % 4096 = 2
  · rw [indexJump_two two, reachAngle_quiet (s := s.at (-1)) (Bool.eq_false_iff.2 fun e => passed ⟨two, e⟩)]
    exact reachAngle_quiet (s := s.at 0) (Bool.eq_false_iff.2 fun e => reached ⟨.inr two, e⟩)
  · by_cases one : (-s.shaft.position) % 4096 = 1
    · rw [indexJump_one one]
      exact reachAngle_quiet (Bool.eq_false_iff.2 fun e => reached ⟨.inl one, e⟩)
    · exact indexJump_other one two

/-! ## The pulse taken, class by class -/

/-- A pending set made active in the unit (R80). -/
def State.activated (s : State) : State := setShaft s.shaft.applyAtIndex s

variable {now : Nat}

theorem takeIndex_first (h : s.shaft.angleValid = false) :
    takeIndex now s = emitWaiting (firstIndex now s).activated := by
  simp only [takeIndex, h, Bool.false_eq_true, not_false_eq_true, if_true]
  rfl

theorem takeIndex_forward (valid : s.shaft.angleValid = true) (low : 4094 ≤ s.shaft.position)
    (high : s.shaft.position ≤ 4098) : takeIndex now s = emitWaiting (forwardIndex now s).activated := by
  have forward : indexClass s.shaft.position = .forwardRevolution := if_pos ⟨low, high⟩
  simp only [takeIndex, valid, forward, not_true_eq_false, if_false]
  rfl

theorem takeIndex_back (valid : s.shaft.angleValid = true) (h : (-2 ≤ s.shaft.position ∧ s.shaft.position ≤ 2)
    ∨ (-4098 ≤ s.shaft.position ∧ s.shaft.position ≤ -4094)) :
    takeIndex now s = emitWaiting (backIndex s).activated := by
  have forward : ¬ (4094 ≤ s.shaft.position ∧ s.shaft.position ≤ 4098) := by omega
  have back : indexClass s.shaft.position = .sameIndex ∨ indexClass s.shaft.position = .reverseRevolution := by
    unfold indexClass
    rw [if_neg forward]
    split
    · exact .inl rfl
    · exact .inr (if_pos (h.resolve_left ‹_›))
  rcases back with back | back <;>
  · simp only [takeIndex, valid, back, not_true_eq_false, if_false]
    rfl

/-! ## The forward revolution (R72) -/

/-- What a forward-revolution index makes of a unit with this one's revolution start: whether it measures, and the
figures. -/
def Shaft.Measures (h : Shaft) (now : Nat) (measured : Bool) (figures : Shaft → Shaft) : Prop :=
  ∀ t : State, t.shaft.revStart = h.revStart → t.shaft.clean = h.clean →
    t.shaft.measures = measured ∧ measureRevolution now t = { t with shaft := figures t.shaft }

/-- A clean revolution from a start before the pulse. -/
theorem Shaft.measures_clean {h : Shaft} {start : Nat} (earlier : start < now) (began : h.revStart = some start)
    (clean : h.clean = true) : h.Measures now true fun h => { h with
      revStart := some now, clean := true, period := some (now - start), speed := 60000000 / (now - start) } := by
  intro t start' clean'
  rw [began] at start'
  rw [clean] at clean'
  have lasts : ¬ now - start = 0 := by omega
  refine ⟨by simp [Shaft.measures, start', clean'], ?_⟩
  simp only [measureRevolution, start', clean', if_true, if_neg lasts]
  rfl

/-- A revolution with no start or not clean only starts the next. -/
theorem Shaft.measures_not {h : Shaft} (unclean : h.revStart = none ∨ h.clean = false) :
    h.Measures now false fun h => { h with revStart := some now, clean := true } := by
  intro t start' clean'
  rw [← start', ← clean'] at unclean
  rcases unclean with unstarted | unclean
  · exact ⟨by simp [Shaft.measures, unstarted], by simp only [measureRevolution, unstarted]; rfl⟩
  · refine ⟨by simp [Shaft.measures, unclean], ?_⟩
    unfold measureRevolution
    split
    · rfl
    · rw [unclean]; rfl

/-- The figures delivered to the Governor. -/
def State.delivered (measured : Bool) (figures : Shaft → Shaft) (t : State) : State :=
  indexGov measured { t with shaft := figures t.shaft }

section
variable {measured : Bool} {figures : Shaft → Shaft} (idle : s.audit.state ≠ .counting)
  (closes : s.shaft.Measures now measured figures)
include idle closes

theorem deliverIndex_measured {t : State} (audit : t.audit = s.audit) (start : t.shaft.revStart = s.shaft.revStart)
    (clean : t.shaft.clean = s.shaft.clean) :
    deliverIndex t.shaft.measures (measureRevolution now t) = t.delivered measured figures := by
  obtain ⟨measures, figured⟩ := closes t start clean
  rw [measures, figured]
  exact deliverIndex_idle (by rw [← audit] at idle; exact idle) measured

theorem deliverIndex_indexJump {t : State} (audit : t.audit = s.audit) (shaft : t.shaft = s.shaft) :
    deliverIndex (indexJump t).shaft.measures (measureRevolution now (indexJump t)) =
      (indexJump t).delivered measured figures := by
  obtain ⟨w, jumped⟩ := indexJump_shaft t
  refine deliverIndex_measured idle closes ((indexJump_audit (by rw [audit]; exact idle)).trans audit) ?_ ?_
  · rw [jumped, shaft]
  · rw [jumped, shaft]

theorem forwardIndex_quiet (h : s.jumpEvent = false) :
    forwardIndex now s = (s.at 0).delivered measured figures := by
  have jumped := deliverIndex_indexJump idle closes (t := s) rfl rfl
  rw [indexJump_quiet h] at jumped
  simp only [forwardIndex, h, Bool.false_eq_true, if_false, indexJump_quiet h]
  exact jumped

/-- Where the jump gives an event, the index event is delivered before it or after it (log 11). -/
theorem forwardIndex_event (h : s.jumpEvent = true) :
    forwardIndex now s = (indexJump { s with draws := s.draws + 1 }).delivered measured figures
      ∨ forwardIndex now s = indexJump (State.delivered measured figures { s with draws := s.draws + 1 }) := by
  let drawn : State := { s with draws := s.draws + 1 }
  have after := deliverIndex_indexJump idle closes (t := drawn) rfl rfl
  have before := deliverIndex_measured idle closes (t := drawn) rfl rfl rfl
  simp only [forwardIndex, h, if_true]
  split
  · exact .inr (congrArg indexJump before)
  · exact .inl after

end

end

/-! ## The Governor at a measured revolution of a park (R95) -/

section
variable {s : State}

theorem indexGov_measured (released : s.gov.released = true) :
    indexGov true s = armPark (applyDemand (judgeLock (recompute s))) := if_pos released

/-- A revolution near the applied demand counts, one away from it restarts the counts; a PARKING Governor makes no
lock. -/
theorem judgeLock_parking (parking : s.gov.state = .parking) :
    ∃ n o q c, judgeLock s = { s with gov := { s.gov with inTol := n, outTol := o, settled := q, armCount := c } }
      ∧ (mag ((s.shaft.speed : Int) - s.gov.applied) ≤ s.params.lockTol →
        n = min 3 (s.gov.inTol + 1) ∧ c = min 3 (s.gov.armCount + 1))
      ∧ (¬ mag ((s.shaft.speed : Int) - s.gov.applied) ≤ s.params.lockTol → c = 0) := by
  by_cases near : mag ((s.shaft.speed : Int) - s.gov.applied) ≤ s.params.lockTol
  · refine ⟨min 3 (s.gov.inTol + 1), 0, min 3 (s.gov.settled + 1), min 3 (s.gov.armCount + 1), ?_, fun _ => ⟨rfl, rfl⟩,
      fun far => absurd near far⟩
    simp only [judgeLock, near, if_true, parking, reduceCtorEq, false_and, if_false]
  · refine ⟨0, min 2 (s.gov.outTol + 1), 0, 0, ?_, fun close => absurd close near, fun _ => rfl⟩
    simp only [judgeLock, near, if_false, parking, reduceCtorEq, false_and]

/-- The applied demand takes the demand; a change of more than lock_tol restarts the counts. -/
theorem applyDemand_parking {g : Gov} (parking : g.state = .parking) :
    ∃ n o q c, applyDemand { s with gov := g } =
        { s with gov := { g with applied := g.demand, inTol := n, outTol := o, settled := q, armCount := c } }
      ∧ (¬ s.params.lockTol < mag ((g.demand : Int) - g.applied) → n = g.inTol ∧ c = g.armCount)
      ∧ (s.params.lockTol < mag ((g.demand : Int) - g.applied) ∨ g.armCount = 0 → c = 0) := by
  by_cases moved : s.params.lockTol < mag ((g.demand : Int) - g.applied)
  · refine ⟨0, 0, 0, 0, ?_, fun near => absurd moved near, fun _ => rfl⟩
    simp only [applyDemand, moved, if_true, parking, reduceCtorEq, if_false]
  · exact ⟨g.inTol, g.outTol, if g.demand = g.applied then g.settled else 0, g.armCount, if_neg moved,
      fun _ => ⟨rfl, rfl⟩, fun restarts => restarts.resolve_left moved⟩

end

/-- A park released and not yet armed, at its demand (R95). -/
structure Gov.Awaits (g : Gov) : Prop where
  parking : g.state = .parking
  released : g.released = true
  unarmed : g.armed = false
  applied : g.applied = g.demand

/-- It is armed with both counts at 3. -/
theorem Gov.Awaits.armPark {s : State} {g : Gov} (h : g.Awaits) :
    (armPark { s with gov := g }).gov.armCount = g.armCount
      ∧ (armPark { s with gov := g }).gov.armed = decide (g.inTol = 3 ∧ g.armCount = 3) := by
  obtain ⟨parking, released, unarmed, applied⟩ := h
  unfold Machine.armPark
  by_cases counted : g.inTol = 3 ∧ g.armCount = 3
  · rw [if_pos ⟨parking, released, by simp [unarmed], applied, counted⟩, decide_eq_true counted]
    exact ⟨rfl, rfl⟩
  · rw [if_neg fun ⟨_, _, _, _, both⟩ => counted both, decide_eq_false counted]
    exact ⟨rfl, unarmed⟩

/-- With the park begun and the drive released, a measured revolution counts toward the arming or restarts it. -/
theorem indexGov_parking {s : State} (parking : s.gov.state = .parking) (released : s.gov.released = true)
    (unarmed : s.gov.armed = false) :
    let t := (indexGov true s).gov
    let near := mag ((s.shaft.speed : Int) - s.gov.applied) ≤ s.params.lockTol
    let moved := s.params.lockTol < mag ((demandOf s : Int) - s.gov.applied)
    (¬ moved → near → t.armCount = min 3 (s.gov.armCount + 1)
      ∧ t.armed = decide (2 ≤ s.gov.inTol ∧ 2 ≤ s.gov.armCount))
    ∧ (moved ∨ ¬ near → t.armCount = 0 ∧ t.armed = false) := by
  intro t near moved
  obtain ⟨n, o, q, c, judged, counts, restarts⟩ := judgeLock_parking (s := recompute s) parking
  obtain ⟨n', o', q', c', applied, still, resets⟩ := applyDemand_parking (s := s)
    (g := { (recompute s).gov with inTol := n, outTol := o, settled := q, armCount := c }) parking
  have awaits : Gov.Awaits { (recompute s).gov with
      applied := demandOf s, inTol := n', outTol := o', settled := q', armCount := c' } :=
    ⟨parking, released, unarmed, rfl⟩
  obtain ⟨count, armed⟩ := awaits.armPark (s := s)
  have after : t = (armPark { s with gov := { (recompute s).gov with
      applied := demandOf s, inTol := n', outTol := o', settled := q', armCount := c' } }).gov := by
    show (indexGov true s).gov = _
    rw [indexGov_measured released, judged]
    exact congrArg (fun u => (armPark u).gov) applied
  rw [after, count, armed]
  refine ⟨fun steady close => ?_, fun away => ?_⟩
  · obtain ⟨inTol, armCount⟩ := counts close
    obtain ⟨keptTol, keptCount⟩ := still steady
    have both : n' = 3 ∧ c' = 3 ↔ 2 ≤ s.gov.inTol ∧ 2 ≤ s.gov.armCount := by
      rw [keptTol, keptCount]
      show n = 3 ∧ c = 3 ↔ _
      rw [inTol, armCount]
      show min 3 (s.gov.inTol + 1) = 3 ∧ min 3 (s.gov.armCount + 1) = 3 ↔ _
      omega
    exact ⟨keptCount.trans armCount, decide_eq_decide.2 both⟩
  · have zero : c' = 0 := resets (away.imp_right restarts)
    exact ⟨zero, decide_eq_false fun h => by simp [zero] at h⟩

/-! ## The bands (R68) -/

/-- The bands of R68. -/
def InBand (p : Int) : Prop := (4094 ≤ p ∧ p ≤ 4098) ∨ (-2 ≤ p ∧ p ≤ 2) ∨ (-4098 ≤ p ∧ p ≤ -4094)

theorem InBand.one_iff {p : Int} (h : InBand p) : (p = 4095 ∨ p = -1 ∨ p = -4097) ↔ (-p) % 4096 = 1 := by
  unfold InBand at h; omega

theorem InBand.two_iff {p : Int} (h : InBand p) : (p = 4094 ∨ p = -2 ∨ p = -4098) ↔ (-p) % 4096 = 2 := by
  unfold InBand at h; omega

theorem indexJump_eq {s : State} {one two : Prop} [Decidable one] [Decidable two]
    (h1 : one ↔ (-s.shaft.position) % 4096 = 1) (h2 : two ↔ (-s.shaft.position) % 4096 = 2) :
    (if two then reachAngle ((reachAngle (s.at (-1))).at 0) else if one then reachAngle (s.at 0) else s.at 0) =
      indexJump s := by
  by_cases passes : two
  · rw [if_pos passes, indexJump_two (h2.1 passes)]
  · rw [if_neg passes]
    by_cases reaches : one
    · rw [if_pos reaches, indexJump_one (h1.1 reaches)]
    · rw [if_neg reaches, indexJump_other (fun e => reaches (h1.2 e)) fun e => passes (h2.2 e)]

/-! ## The obligation -/

theorem State.activated_none {s : State} (h : s.shaft.pendingSet = none) : s.activated = s := by
  simp only [State.activated, Shaft.applyAtIndex, h]
  rfl

theorem State.activated_some {s : State} {ts : TimingSet} (h : s.shaft.pendingSet = some ts) :
    s.activated = { s with shaft :=
      let g := { s.shaft with active := ts, pendingSet := none }
      { g with window := if g.window.inProgress then g.window else g.derivedWindow } } := by
  simp only [State.activated, Shaft.applyAtIndex, h]
  split <;> rfl

/-- An index pulse as a command. -/
theorem exec_index {now : Nat} {s t : State} (running : s.resetAsserted = false) (e : takeIndex now s = t) :
    exec (.indexPulse now) s = .next (transmit t) := by
  rw [← e]; exact finish_live running

section
variable {now : Nat} {s : State} (running : s.resetAsserted = false)
include running

theorem exec_index_still {t : State} (e : takeIndex now s = emitWaiting t.activated) (h : t.anyWaiting = false) :
    exec (.indexPulse now) s = .next (transmit t.activated) :=
  exec_index running (e.trans (emitWaiting_of_none h))

variable (valid : s.shaft.angleValid = true) {jump : State → State} {event : Prop}
  (jumps : ∀ t : State, t.shaft.position = s.shaft.position → jump t = indexJump t)
  (events : event ↔ s.jumpEvent = true)
include valid jumps events

/-- A forward-revolution pulse: the figures and the jump. -/
theorem exec_index_forward {measured : Bool} {figures : Shaft → Shaft} (low : 4094 ≤ s.shaft.position)
    (high : s.shaft.position ≤ 4098) (idle : s.audit.state ≠ .counting) (closes : s.shaft.Measures now measured figures)
    (moves : ∀ h, (figures h).position = h.position) :
    (¬ event → s.anyWaiting = false →
      exec (.indexPulse now) s = .next (transmit ((s.at 0).delivered measured figures).activated))
    ∧ (event →
      exec (.indexPulse now) s = .next (transmit (emitWaiting
        ((jump { s with draws := s.draws + 1 }).delivered measured figures).activated))
      ∨ exec (.indexPulse now) s = .next (transmit (emitWaiting
        (jump (State.delivered measured figures { s with draws := s.draws + 1 })).activated))) := by
  have taken := takeIndex_forward (now := now) valid low high
  refine ⟨fun none waiting => ?_, fun event => ?_⟩
  · rw [forwardIndex_quiet idle closes (Bool.eq_false_iff.2 fun e => none (events.2 e))] at taken
    refine exec_index_still running taken ?_
    obtain ⟨g, e⟩ := indexGov_gov measured { s.at 0 with shaft := figures (s.at 0).shaft }
    rw [State.delivered, e]
    exact waiting
  · have positioned : (State.delivered measured figures { s with draws := s.draws + 1 }).shaft.position =
        s.shaft.position := by
      rw [State.delivered, shaft_of_setting (indexGov_setting ..)]
      exact moves _
    rw [jumps { s with draws := s.draws + 1 } rfl, jumps _ positioned]
    refine (forwardIndex_event idle closes (events.1 event)).imp (fun e => ?_) fun e => ?_ <;>
    · rw [e] at taken
      exact exec_index running taken

/-- A same-index or reverse-revolution pulse: the jump, and the revolution start discarded. -/
theorem exec_index_back (back : (-2 ≤ s.shaft.position ∧ s.shaft.position ≤ 2)
    ∨ (-4098 ≤ s.shaft.position ∧ s.shaft.position ≤ -4094)) :
    (¬ event → s.anyWaiting = false → exec (.indexPulse now) s = .next (transmit
      (State.activated { s with shaft := { s.shaft with position := 0, revStart := none } })))
    ∧ (event → exec (.indexPulse now) s = .next (transmit (emitWaiting
      (State.activated { jump s with shaft := { (jump s).shaft with revStart := none } })))) := by
  have taken := takeIndex_back (now := now) valid back
  refine ⟨fun none waiting => ?_, fun _ => ?_⟩
  · rw [backIndex, indexJump_quiet (Bool.eq_false_iff.2 fun e => none (events.2 e))] at taken
    exact exec_index_still running taken waiting
  · rw [jumps s rfl]
    exact exec_index running taken

end

/-- Settles O39: the classes of R68 one by one, then the arming of a park. -/
theorem indexPulseTaken : Obligations.IndexPulseTaken := by
  refine ⟨fun now s running => ?_, fun s parking released unarmed => ?_⟩
  · intro active
    have active_eq : active = State.activated := funext fun t => by
      cases pending : t.shaft.pendingSet with
      | none => rw [State.activated_none pending]; simp only [active, pending]
      | some ts => rw [State.activated_some pending]; simp only [active, pending]
    rw [active_eq]
    refine ⟨fun unknown waiting => exec_index_still running (takeIndex_first unknown) waiting, fun valid => ?_⟩
    intro p one two at' jump event answers
    have jumps : InBand p → ∀ t : State, t.shaft.position = p → jump t = indexJump t := fun band t same =>
      indexJump_eq (by rw [same]; exact band.one_iff) (by rw [same]; exact band.two_iff)
    have events : InBand p → (event ↔ s.jumpEvent = true) := fun band => by
      rw [jumpEvent_iff, ← band.one_iff, ← band.two_iff]
      exact Iff.rfl
    refine ⟨fun low high idle => ⟨fun start earlier began clean => ?_, fun unclean => ?_⟩, fun back => ?_,
      fun forward same reverse => ?_⟩
    · have taken := exec_index_forward running valid (jumps (.inl ⟨low, high⟩))
        (events (.inl ⟨low, high⟩)) low high idle
        (Shaft.measures_clean earlier began clean) fun _ => rfl
      exact taken
    · have taken := exec_index_forward running valid (jumps (.inl ⟨low, high⟩))
        (events (.inl ⟨low, high⟩)) low high idle
        (Shaft.measures_not (now := now) unclean) fun _ => rfl
      exact taken
    · exact exec_index_back running valid (jumps (.inr back)) (events (.inr back)) back
    · exact exec_index running (takeIndex_badSpacing valid (indexClass_badSpacing forward same reverse))
  · obtain ⟨counts, restarts⟩ := indexGov_parking parking released unarmed
    exact ⟨counts, restarts, by rw [parkOrder, if_pos parking]⟩

end Sys2Proof.Machine
end

section
/-! PROOFS. The needle bars as a change begins (R122 to R125): each bar judged on its own, the change complete as
every bar of it is held. -/

namespace Sys2Proof.Machine

/-! ## One bar's record -/

/-- A write of a bar's record and its hand-off keep the change in hand. -/
@[simp] theorem setBar_change (b : Bar) (r : BarRec) (s : State) : (setBar b r s).bars.change = s.bars.change := by
  have h : (setBar b r s).bars = s.bars.put b r := by
    unfold setBar; dsimp only
    repeat' split
    all_goals rfl
  rw [h]; cases b <;> rfl

/-- What a bar at work reads and does not write. -/
theorem SameButBars.pins {s t : State} : SameButBars s t → t.pins = s.pins := by
  rintro ⟨_, _, rfl⟩; rfl
theorem SameButBars.params {s t : State} : SameButBars s t → t.params = s.params := by
  rintro ⟨_, _, rfl⟩; rfl

/-- Some operation writes one bar's record and no other. -/
structure WritesBar (b : Bar) (r : BarRec) (s t : State) : Prop where
  get : ∀ b', t.bars.get b' = if b' = b then r else s.bars.get b'
  change : t.bars.change = s.bars.change
  rest : SameButBars s t

theorem writesBar_setBar (b : Bar) (r : BarRec) (s : State) : WritesBar b r s (setBar b r s) :=
  ⟨fun b' => setBar_get b b' r s, setBar_change b r s, setBar_bars b r s⟩

theorem writesBar_self (b : Bar) (s : State) : WritesBar b (s.bars.get b) s s := by
  refine ⟨fun b' => ?_, rfl, .rfl' s⟩
  split
  · rename_i same; rw [same]
  · rfl

/-- The later write of the same bar stands. -/
theorem WritesBar.again {b : Bar} {q r : BarRec} {s t u : State} (h : WritesBar b q s t) (h' : WritesBar b r t u) :
    WritesBar b r s u := by
  obtain ⟨get, change, rest⟩ := h
  obtain ⟨get', change', rest'⟩ := h'
  refine ⟨fun b' => ?_, change'.trans change, rest.trans rest'⟩
  rw [get', get]
  split
  · rfl
  · rfl

theorem WritesBar.read {b : Bar} {r : BarRec} {s t : State} (h : WritesBar b r s t) : t.bars.get b = r := by
  rw [h.get, if_pos rfl]

/-! ## A sequence started (R124, R125) -/

/-- A moving bar with its target valve energized is confirmed by its inputs (R125). -/
theorem writesBar_confirmBar {b : Bar} {down : Bool} {s : State} (moving : (s.bars.get b).state = movingState down)
    (valve : (s.bars.get b).targetValve down = true) :
    WritesBar b (if confirmed down (s.pins.bup.mem b) (s.pins.bdn.mem b)
      then { s.bars.get b with state := targetState down, timer := .idle, timedOut := false }
      else s.bars.get b) s (confirmBar b s) := by
  have tries : confirmBar b s = if confirmed down (s.pins.bup.mem b) (s.pins.bdn.mem b) then
      setBar b { s.bars.get b with state := targetState down, timer := .idle, timedOut := false } s else s := by
    cases down <;> simp only [movingState, Bool.false_eq_true, if_true, if_false] at moving <;>
      simp only [confirmBar, moving, valve, true_and]
  rw [tries]
  split
  · exact writesBar_setBar ..
  · exact writesBar_self b s

/-- The record of a bar with its target valve energized (R124 step 3). -/
def BarRec.energized (r : BarRec) (down : Bool) (timeout : Nat) : BarRec :=
  { r with vlo := down || r.vlo, vra := !down || r.vra, timer := .confirm timeout }

theorem writesBar_energizeBar {b : Bar} {down : Bool} {s : State} (moving : (s.bars.get b).state = movingState down) :
    WritesBar b (if confirmed down (s.pins.bup.mem b) (s.pins.bdn.mem b)
      then { (s.bars.get b).energized down s.params.barTimeout with
        state := targetState down, timer := .idle, timedOut := false }
      else (s.bars.get b).energized down s.params.barTimeout) s (energizeBar b s) := by
  let on : BarRec := (s.bars.get b).energized down s.params.barTimeout
  have energizes : energizeBar b s = confirmBar b (setBar b on s) := by
    cases down <;> simp only [movingState, Bool.false_eq_true, if_true, if_false] at moving <;>
      simp [energizeBar, moving, on, BarRec.energized]
  have wrote := writesBar_setBar b on s
  have read : (setBar b on s).bars.get b = on := wrote.read
  have pins : (setBar b on s).pins = s.pins := wrote.rest.pins
  have judged := writesBar_confirmBar (b := b) (down := down) (s := setBar b on s) (by rw [read]; exact moving)
    (by rw [read]; cases down <;> simp [on, BarRec.energized, BarRec.targetValve])
  rw [read, pins] at judged
  rw [energizes]
  exact wrote.again judged

/-- The record a bar's sequence starts with (R124 step 1). -/
def BarRec.started (r : BarRec) (down : Bool) (deadTime : Nat) : BarRec :=
  ⟨movingState down, down && r.vlo, !down && r.vra, false, false, .deadTime deadTime⟩

theorem startBarSequence_eq (b : Bar) (down : Bool) (s : State) : startBarSequence b down s =
    if s.params.deadTime = 0 then energizeBar b (setBar b ((s.bars.get b).started down s.params.deadTime) s)
    else setBar b ((s.bars.get b).started down s.params.deadTime) s := by
  cases down <;> rfl

/-! ## A bar judged as a change begins (R124) -/

section
variable {s : State} {b : Bar} {down : Bool}

theorem judgedBar_held (h : (s.bars.get b).heldAt down = true) : s.judgedBar b down = s.bars.get b := if_pos h

/-- A bar not held whose sequence starts, with a dead time (R124). -/
theorem judgedBar_started (held : ¬ (s.bars.get b).heldAt down = true)
    (valve : ¬ ((s.bars.get b).state = movingState down ∧ (s.bars.get b).targetValve down = true))
    (dead : ¬ ((s.bars.get b).state = movingState down ∧ (s.bars.get b).timer.isDead = true))
    (lasts : 1 ≤ s.params.deadTime) : s.judgedBar b down = (s.bars.get b).started down s.params.deadTime := by
  unfold State.judgedBar
  dsimp only
  rw [if_neg held]
  refine (if_neg valve).trans ((if_neg dead).trans (if_pos lasts))

/-- With a dead time of 0 its target valve is energized at once and its inputs are judged (R125). -/
theorem judgedBar_energized (held : ¬ (s.bars.get b).heldAt down = true)
    (valve : ¬ ((s.bars.get b).state = movingState down ∧ (s.bars.get b).targetValve down = true))
    (dead : ¬ ((s.bars.get b).state = movingState down ∧ (s.bars.get b).timer.isDead = true))
    (zero : s.params.deadTime = 0) : s.judgedBar b down =
      let on := ((s.bars.get b).started down s.params.deadTime).energized down s.params.barTimeout
      if confirmed down (s.pins.bup.mem b) (s.pins.bdn.mem b)
      then { on with state := targetState down, timer := .idle, timedOut := false } else on := by
  unfold State.judgedBar
  dsimp only
  rw [if_neg held]
  refine (if_neg valve).trans ((if_neg dead).trans ((if_neg (by omega)).trans ?_))
  cases down <;> rfl

end

/-- The model's judgement of a bar writes the record the spec gives. -/
theorem writesBar_beginBar (b : Bar) (down : Bool) (s : State) :
    WritesBar b (s.judgedBar b down) s (beginBar b down s) := by
  unfold beginBar
  dsimp only
  split
  · rename_i held
    rw [judgedBar_held held]
    exact writesBar_self b s
  rename_i held
  split
  · rename_i valve
    have judged : s.judgedBar b down = { s.bars.get b with timer := .confirm s.params.barTimeout, timedOut := false } :=
      (if_neg held).trans (if_pos valve)
    rw [judged]
    exact writesBar_setBar ..
  rename_i valve
  split
  · rename_i dead
    have judged : s.judgedBar b down = s.bars.get b := (if_neg held).trans ((if_neg valve).trans (if_pos dead))
    rw [judged]
    exact writesBar_self b s
  rename_i dead
  rw [startBarSequence_eq]
  have wrote := writesBar_setBar b ((s.bars.get b).started down s.params.deadTime) s
  split
  · rename_i zero
    have moves := writesBar_energizeBar (b := b) (down := down)
      (s := setBar b ((s.bars.get b).started down s.params.deadTime) s) (by rw [wrote.read]; rfl)
    rw [wrote.read, wrote.rest.pins, wrote.rest.params] at moves
    rw [judgedBar_energized held valve dead zero]
    exact wrote.again moves
  · rename_i lasts
    rw [judgedBar_started held valve dead (by omega)]
    exact wrote

/-- A bar's judgement reads its own record, the inputs and the parameters. -/
theorem judgedBar_congr {s t : State} {b : Bar} (get : t.bars.get b = s.bars.get b) (rest : SameButBars s t)
    (down : Bool) :
    t.judgedBar b down = s.judgedBar b down := by
  simp only [State.judgedBar, get, rest.pins, rest.params]

/-- With a dead time, judging a bar neither completes it nor undoes it. -/
theorem judgedBar_heldAt {s : State} {b : Bar} {down : Bool} (lasts : 1 ≤ s.params.deadTime) :
    (s.judgedBar b down).heldAt down = (s.bars.get b).heldAt down := by
  have moving : movingState down ≠ targetState down := by cases down <;> decide
  by_cases held : (s.bars.get b).heldAt down = true
  · rw [judgedBar_held held]
  · have away : ∀ r : BarRec, r.state = movingState down → r.heldAt down = (s.bars.get b).heldAt down := fun r e => by
      rw [Bool.eq_false_iff.2 held, BarRec.heldAt, e, decide_eq_false moving, Bool.false_and]
    by_cases valve : (s.bars.get b).state = movingState down ∧ (s.bars.get b).targetValve down = true
    · rw [show s.judgedBar b down = { s.bars.get b with timer := .confirm s.params.barTimeout, timedOut := false } from
        (if_neg held).trans (if_pos valve)]
      exact away _ valve.1
    · by_cases dead : (s.bars.get b).state = movingState down ∧ (s.bars.get b).timer.isDead = true
      · rw [show s.judgedBar b down = s.bars.get b from (if_neg held).trans ((if_neg valve).trans (if_pos dead))]
      · rw [judgedBar_started held valve dead lasts]
        exact away _ rfl

/-! ## The bars of a change (R124, R129) -/

theorem beginBars_writes (target : BarSet) (bs : List Bar) (distinct : bs.Nodup) (s : State) :
    let t := bs.foldl (fun s b => beginBar b (target.mem b) s) s
    (∀ b, t.bars.get b = if b ∈ bs then s.judgedBar b (target.mem b) else s.bars.get b)
      ∧ t.bars.change = s.bars.change := by
  induction bs generalizing s with
  | nil => exact ⟨fun b => by simp, rfl⟩
  | cons c bs ih =>
    obtain ⟨fresh, distinct⟩ := List.nodup_cons.1 distinct
    obtain ⟨get, change, rest⟩ := writesBar_beginBar c (target.mem c) s
    obtain ⟨gets, changes⟩ := ih distinct (beginBar c (target.mem c) s)
    refine ⟨fun b => ?_, changes.trans change⟩
    refine (gets b).trans ?_
    by_cases same : b = c
    · subst same
      rw [if_neg fresh, get, if_pos rfl, if_pos List.mem_cons_self]
    · have own : (beginBar c (target.mem c) s).bars.get b = s.bars.get b := by rw [get, if_neg same]
      rw [judgedBar_congr own rest, own]
      simp [same]

theorem ChangeKind.bars_nodup (kind : ChangeKind) : kind.bars.Nodup := by
  cases kind <;> simp [ChangeKind.bars, Bar.all]

/-- The bars' records as a change begins with the shaft stopped. -/
def State.judgedFor (s : State) (kind : ChangeKind) (target : BarSet) (b : Bar) : BarRec :=
  if b ∈ kind.bars then s.judgedBar b (target.mem b) else s.bars.get b

/-- Bars with these records and this change in hand. -/
def Bars.of (judged : Bar → BarRec) (change : Option Change) : Bars := ⟨judged .b0, judged .b1, judged .b2, change⟩

@[simp] theorem Bars.of_get (judged : Bar → BarRec) (change : Option Change) (b : Bar) :
    (Bars.of judged change).get b = judged b := by cases b <;> rfl

theorem Bars.eq_of_get {u : Bars} {judged : Bar → BarRec} (h : ∀ b, u.get b = judged b) :
    u = Bars.of judged u.change := by
  have b0 : u.b0 = judged .b0 := h .b0
  have b1 : u.b1 = judged .b1 := h .b1
  have b2 : u.b2 = judged .b2 := h .b2
  rw [Bars.of, ← b0, ← b1, ← b2]

/-- A change begun with the shaft stopped: every bar of it judged, the change in hand. -/
theorem beginChange_stopped {s : State} (stopped : s.shaft.stopped = true) (kind : ChangeKind) (target : BarSet) :
    (beginChange kind target s).bars = Bars.of (s.judgedFor kind target) (some ⟨kind, target, false⟩) := by
  obtain ⟨gets, change⟩ := beginBars_writes target kind.bars kind.bars_nodup
    { s with bars := { s.bars with change := some ⟨kind, target, false⟩ } }
  rw [beginChange, if_pos stopped, beginBars, Bars.eq_of_get gets, change]
  rfl

/-- A change just begun is done as its bars are held. -/
theorem changeDone_of {s : State} {judged : Bar → BarRec} {kind : ChangeKind} {target : BarSet}
    (h : s.bars = Bars.of judged (some ⟨kind, target, false⟩)) :
    s.changeDone = true ↔ ∀ b ∈ kind.bars, (judged b).heldAt (target.mem b) = true := by
  have change : s.bars.change = some ⟨kind, target, false⟩ := by rw [h]; rfl
  simp only [State.changeDone, change, Bool.not_false, Bool.true_and, changeComplete, List.all_eq_true]
  rw [h]
  simp only [Bars.of_get]

end Sys2Proof.Machine
end

section
/-! PROOFS. The resume sequence taken up in FEEDING with no record change in hand (R128, R148, R164): what RUNNING
entered writes, and what no step of the sequence touches. -/

namespace Sys2Proof.Machine

/-! ## Frames -/

theorem SameButGov.motion_eq {s t : State} : SameButGov s t → t.motion = s.motion := by
  rintro ⟨_, rfl⟩; rfl
theorem SameButGov.line_eq {s t : State} : SameButGov s t → t.line = s.line := by
  rintro ⟨_, rfl⟩; rfl

/-- What a stop and a start order leave of the blocks beside the line. -/
structure SameBeside (s t : State) : Prop where
  bars : t.bars = s.bars
  planner : t.planner = s.planner
  monitor : t.monitor = s.monitor
  store : t.store = s.store

theorem SameBeside.trans {s t u : State} (h : SameBeside s t) (h' : SameBeside t u) : SameBeside s u := by
  obtain ⟨bars, planner, monitor, store⟩ := h
  obtain ⟨bars', planner', monitor', store'⟩ := h'
  exact ⟨bars'.trans bars, planner'.trans planner, monitor'.trans monitor, store'.trans store⟩

theorem SameButStop.beside {s t : State} : SameButStop s t → SameBeside s t := by
  rintro ⟨_, _, _, _, rfl⟩; exact ⟨rfl, rfl, rfl, rfl⟩

theorem testResume_beside (s : State) : SameBeside s (testResume s) := by
  obtain ⟨_, _, e⟩ := testResume_frame s
  rw [e]; exact ⟨rfl, rfl, rfl, rfl⟩

theorem testResume_gov (s : State) : (testResume s).gov = s.gov := by
  obtain ⟨_, _, e⟩ := testResume_frame s
  rw [e]

/-! ## A start order (R90, R97) -/

theorem startOrder_steady {s : State} (h : s.gov.state ≠ .parking) (p : Purpose) (c : List Nat) :
    (startOrder p c s).gov.state ≠ .parking := by
  unfold startOrder
  split
  · exact h
  · split
    · simp [releaseDrive, recompute]
    · simp [recompute]
    · simp [recompute]
    · contradiction

theorem startOrder_halted {s : State} (halted : s.gov.state = .halted) (h : s.line.faults.atOnce = false) (p : Purpose)
    (c : List Nat) : (startOrder p c s).gov.state = .ramping ∧ (startOrder p c s).gov.released = true
      ∧ (startOrder p c s).gov.purpose = some p ∧ (startOrder p c s).gov.replayCeilings = c := by
  simp [startOrder, h, halted, releaseDrive, recompute]

/-! ## RUNNING entered (R148, R164) -/

/-- The line runs from FEEDING with a start order. -/
structure StartsRunning (p : Purpose) (ceilings : List Nat) (s t : State) : Prop where
  line : t.line = s.line.inMode .running none none
  beside : SameBeside s t
  waiting : s.anyWaiting = false → t.anyWaiting = false
  steady : s.gov.state ≠ .parking → t.gov.state ≠ .parking
  gov : s.gov.state = .halted → s.line.faults.atOnce = false →
    t.gov.state = .ramping ∧ t.gov.released = true ∧ t.gov.purpose = some p ∧ t.gov.replayCeilings = ceilings

theorem enterRunning_starts {s : State} (feeding : s.line.effective = .feeding) (why : Reason) (p : Purpose)
    (c : List Nat) : StartsRunning p c s (enterRunning why p c s) := by
  let moded : State := setMode .running none none why s
  have gov : moded.gov = s.gov := setMode_gov (.inl (by simp [feeding])) ..
  have line : moded.line = s.line.inMode .running none none := setMode_line ..
  have motion : moded.motion = s.motion := setMode_motion (by decide) ..
  have ordered := startOrder_gov p c moded
  have resumed : (enterRunning why p c s).gov = (startOrder p c moded).gov := testResume_gov _
  refine ⟨?_, ?_, fun quiet => ?_, fun steady => ?_, fun halted free => ?_⟩
  · exact (testResume_line_eq _).trans (ordered.line_eq.trans line)
  · exact ((setMode_stop ..).beside.trans ordered.stop.beside).trans (testResume_beside _)
  · exact testResume_anyWaiting ((anyWaiting_of_motion (ordered.motion_eq.trans motion)).trans quiet)
  · rw [resumed]
    exact startOrder_steady (by rw [gov]; exact steady) p c
  · rw [resumed]
    exact startOrder_halted (by rw [gov]; exact halted) (by rw [line]; exact free) p c

/-! ## A step of the sequence (R148) -/

/-- In FEEDING with no record change in hand. -/
structure Resumes (s : State) : Prop where
  feeding : s.line.effective = .feeding
  unchanged : s.recordChangeInHand = false

/-- What the sequence leaves: the Plan Queue and the store, no pulse held back, no park, the line not STOPPING. -/
structure StepTaken (s t : State) : Prop where
  planner : t.planner = s.planner
  store : t.store = s.store
  waiting : s.anyWaiting = false → t.anyWaiting = false
  steady : s.gov.state ≠ .parking → t.gov.state ≠ .parking
  mode : t.line.effective ≠ .stopping

section
variable {s t u : State}

theorem StepTaken.refl (h : s.line.effective = .feeding) : StepTaken s s := ⟨rfl, rfl, id, id, by simp [h]⟩

theorem StartsRunning.stepTaken {p : Purpose} {c : List Nat} (h : StartsRunning p c s t) : StepTaken s t := by
  obtain ⟨line, beside, waiting, steady, -⟩ := h
  exact ⟨beside.planner, beside.store, waiting, steady, by rw [line]; simp⟩

/-- The bars at work leave the rest of a step as it is. -/
theorem SameButBars.stepTaken (bars : SameButBars s t) (h : StepTaken t u) : StepTaken s u := by
  obtain ⟨_, _, rfl⟩ := bars
  obtain ⟨planner, store, waiting, steady, mode⟩ := h
  exact ⟨planner, store, waiting, steady, mode⟩

theorem StepTaken.setStep {r : ResumeStep} (h : StepTaken (setStep r s) u) : StepTaken s u := by
  obtain ⟨planner, store, waiting, steady, mode⟩ := h
  exact ⟨planner, store, waiting, steady, mode⟩

theorem askRestore_done {target : BarSet} (h : (askRestore target s).2 = true) :
    (askRestore target s).1.recordChangeInHand = false := by
  unfold askRestore at h ⊢
  split
  · rfl
  · dsimp only
    split
    · rfl
    · simp_all

theorem SameButBars.feeding (bars : SameButBars s t) (h : s.line.effective = .feeding) :
    t.line.effective = .feeding := by
  obtain ⟨_, _, rfl⟩ := bars
  exact h

/-- A step that asks for its restore, and goes on where that is done at once. -/
theorem stepTaken_askRestore {next : State → State} (h : ∀ t, Resumes t → StepTaken t (next t))
    (feeding : s.line.effective = .feeding) (r : ResumeStep) (target : BarSet) :
    StepTaken s (if (askRestore target (Machine.setStep r s)).2 then next (askRestore target (Machine.setStep r s)).1
      else (askRestore target (Machine.setStep r s)).1) := by
  have asked := askRestore_bars target (Machine.setStep r s)
  have still := asked.feeding (s := Machine.setStep r s) feeding
  refine (asked.stepTaken ?_).setStep
  split
  · rename_i done
    exact h _ ⟨still, askRestore_done done⟩
  · exact .refl still

/-! ### Each step -/

theorem headStepBase_taken (feeding : s.line.effective = .feeding) : StepTaken s (headStepBase s) := by
  unfold headStepBase
  dsimp only
  split
  · exact (enterRunning_starts (s := Machine.setStep .none s) feeding ..).stepTaken.setStep
  · exact StepTaken.setStep (.refl (s := Machine.setStep .none s) feeding)

/-- With no record change in hand the head is looked at as it stands (R127). -/
theorem headStep_unchanged (h : s.recordChangeInHand = false) : headStep s = headStepBase s := by
  unfold headStep
  split
  · rw [if_neg (by simp [h])]
  · rfl

theorem headStep_taken (h : Resumes s) : StepTaken s (headStep s) := by
  rw [headStep_unchanged h.unchanged]
  exact headStepBase_taken h.feeding

theorem restoreStep_taken (h : Resumes s) : StepTaken s (restoreStep s) := by
  unfold restoreStep
  split
  · exact headStep_taken h
  · exact stepTaken_askRestore (fun t => headStep_taken) h.feeding ..

theorem startReplay_taken (feeding : s.line.effective = .feeding) : StepTaken s (startReplay s) := by
  obtain ⟨planner, store, waiting, steady, mode⟩ :=
    (enterRunning_starts (s := replayBegin s) feeding .record .replay s.replayCeilings).stepTaken
  exact ⟨planner, store, waiting, steady, mode⟩

theorem replayStep_taken (h : Resumes s) : StepTaken s (replayStep s) := by
  unfold replayStep
  split
  · exact restoreStep_taken h
  · exact stepTaken_askRestore (fun t h => startReplay_taken h.feeding) h.feeding ..

theorem backMoveStep_taken (h : Resumes s) : StepTaken s (backMoveStep s) := by
  obtain ⟨feeding, unchanged⟩ := h
  unfold backMoveStep
  split
  · split
    · exact StepTaken.setStep (.refl (s := Machine.setStep .backMove s) feeding)
    · split
      · obtain ⟨planner, store, waiting, steady, mode⟩ := replayStep_taken (s := { s with
          motion := { s.motion with backMove := none }
          line := { s.line with overlapPending := false, replay := [] } }) ⟨feeding, unchanged⟩
        exact ⟨planner, store, waiting, steady, mode⟩
      · exact ⟨rfl, rfl, id, id, by simp [feeding]⟩
  · exact replayStep_taken ⟨feeding, unchanged⟩

theorem startFrozen_taken (feeding : s.line.effective = .feeding) : StepTaken s (startFrozen s) := by
  unfold startFrozen
  split
  · exact .refl feeding
  · split
    · exact (enterRunning_starts feeding ..).stepTaken
    · exact startReplay_taken feeding

theorem frozenStep_taken (h : Resumes s) : StepTaken s (frozenStep s) := by
  unfold frozenStep
  split
  · exact backMoveStep_taken h
  · exact stepTaken_askRestore (fun t h => startFrozen_taken h.feeding) h.feeding ..

/-- The step the line stands at, taken up with no record change in hand. -/
theorem takeStep_taken (h : Resumes s) : StepTaken s (takeStep s) := by
  unfold takeStep
  split
  · exact frozenStep_taken h
  · exact frozenStep_taken h
  · exact backMoveStep_taken h
  · exact replayStep_taken h
  all_goals exact restoreStep_taken h

theorem restoreDone_taken (h : Resumes s) : StepTaken s (restoreDone s) := by
  unfold restoreDone
  rw [if_pos h.feeding]
  split
  · exact startFrozen_taken h.feeding
  · exact startReplay_taken h.feeding
  · exact headStep_taken h
  · exact .refl h.feeding

end

end Sys2Proof.Machine
end

section
/-! PROOFS. The stopped shaft at the Governor and the Line Controller (R73, R93, R96, R153, R159). -/

namespace Sys2Proof.Machine

/-! ## The unit as its timer runs out (R73) -/

@[simp] theorem Shaft.stop_stopped (h : Shaft) : h.stop.stopped = true := by
  unfold Shaft.stop
  dsimp only
  split <;> rfl

/-- The set in force is the one accepted last (R73, R80). -/
theorem Shaft.stop_active (h : Shaft) : h.stop.active = h.accepted := by
  unfold Shaft.stop Shaft.accepted
  dsimp only
  split <;> (rename_i e; rw [e]; rfl)

/-- The figures go, a pending set becomes active. -/
theorem Shaft.stop_figures (h : Shaft) : h.stop.period = none ∧ h.stop.speed = 0 ∧ h.stop.revStart = none
    ∧ h.stop.clean = false ∧ h.stop.position = h.position ∧ h.stop.angleValid = h.angleValid
    ∧ h.stop.pendingSet = none := by
  unfold Shaft.stop
  dsimp only
  split
  · rename_i none
    exact ⟨rfl, rfl, rfl, rfl, rfl, rfl, none⟩
  · exact ⟨rfl, rfl, rfl, rfl, rfl, rfl, rfl⟩

theorem Shaft.stop_window {h : Shaft} (none : h.pendingSet = none) : h.stop.window = h.window := by
  simp only [Shaft.stop, none]

/-! ## The Governor (R93, R96) -/

/-- A steady Governor as the shaft stops: a RAMPING or LOCKED one loses its lock. -/
def Gov.stopped (g : Gov) : Gov :=
  if g.state = .halted then g
  else { g with state := .ramping, inTol := 0, outTol := 0, settled := 0, armCount := 0 }

section
variable {s : State}

theorem governorStopped_steady (steady : s.gov.state ≠ .parking) :
    governorStopped s = lineStopped { s with gov := s.gov.stopped } := by
  unfold governorStopped stoppedGov Gov.stopped
  cases state : s.gov.state with
  | parking => exact absurd state steady
  | halted => rfl
  | ramping => rfl
  | locked => rfl

/-- A park that finds the shaft in place is done (R96). -/
theorem governorStopped_parked (parking : s.gov.state = .parking) (valid : s.shaft.angleValid = true)
    (inside : s.shaft.insideActive = true) : governorStopped s = lineStopped (parkDone (haltGov s)) := by
  simp only [governorStopped, stoppedGov, parking, valid, inside, and_self, if_true]

/-- The drive of a park tried again (R96). -/
def State.retried (s : State) : State :=
  releaseDrive { s with gov := { s.gov with attempts := s.gov.attempts + 1, armed := true, braked := false } }

theorem governorStopped_retries (parking : s.gov.state = .parking)
    (missed : s.shaft.angleValid = false ∨ s.shaft.insideActive = false) (attempts : s.gov.attempts < 3) :
    governorStopped s = lineStopped s.retried := by
  have away : ¬ (s.shaft.angleValid = true ∧ s.shaft.insideActive = true) := by
    rintro ⟨valid, inside⟩
    simp [valid, inside] at missed
  simp only [governorStopped, stoppedGov, State.retried, parking, if_neg away, if_pos attempts]

/-- The third miss (R96). -/
theorem governorStopped_faults (parking : s.gov.state = .parking)
    (missed : s.shaft.angleValid = false ∨ s.shaft.insideActive = false) (attempts : 3 ≤ s.gov.attempts) :
    governorStopped s = lineStopped (latch .park none (haltGov s)) := by
  have away : ¬ (s.shaft.angleValid = true ∧ s.shaft.insideActive = true) := by
    rintro ⟨valid, inside⟩
    simp [valid, inside] at missed
  simp only [governorStopped, stoppedGov, parking, if_neg away, if_neg (Nat.not_lt.2 attempts)]

/-! ## The Line Controller (R153, R159) -/

theorem lineStopped_elsewhere (h : ¬ (s.line.effective = .stopping ∧ s.line.stopKind = some .atOnce)) :
    lineStopped s = s := if_neg h

theorem lineStopped_atOnce (stopping : s.line.effective = .stopping) (kind : s.line.stopKind = some .atOnce) :
    lineStopped s = reachStop .stopDone s := if_pos ⟨stopping, kind⟩

theorem lineStopped_stop (s : State) : SameButStop s (lineStopped s) := by
  unfold lineStopped
  split
  · exact reachStop_stop ..
  · exact .rfl' s

theorem lineStopped_gov (s : State) : (lineStopped s).gov = s.gov := by
  unfold lineStopped
  split
  · exact reachStop_gov ..
  · rfl

/-- What the line makes of a stop that is reached or not. -/
structure LineAfter (l : Line) (reaches : Prop) (t : State) : Prop where
  stands : ¬ reaches → t.line = l
  holds : reaches → l.stopPurpose = some .hold → t.line.effective = .holding
  faults : reaches → l.stopPurpose = some .fault →
    t.line.effective = .faulted ∧ t.line.overlapPending = (l.overlapPending || l.faults.threadStop)

theorem lineAfter_reachStop (stopping : s.line.effective = .stopping) {reaches : Prop} (h : reaches) (why : Reason) :
    LineAfter s.line reaches (reachStop why s) := by
  refine ⟨fun away => absurd h away, fun _ hold => ?_, fun _ fault => ?_⟩
  · rw [reachStop_hold stopping hold, setMode_line]; rfl
  · rw [reachStop_fault stopping fault, enterFaulted_line]; exact ⟨rfl, rfl⟩

theorem lineAfter_lineStopped (s : State) :
    LineAfter s.line (s.line.effective = .stopping ∧ s.line.stopKind = some .atOnce) (lineStopped s) := by
  by_cases atOnce : s.line.effective = .stopping ∧ s.line.stopKind = some .atOnce
  · rw [lineStopped_atOnce atOnce.1 atOnce.2]
    exact lineAfter_reachStop atOnce.1 atOnce _
  · rw [lineStopped_elsewhere atOnce]
    exact ⟨fun _ => rfl, fun h => absurd h atOnce, fun h => absurd h atOnce⟩

theorem lineAfter_governorStopped (steady : s.gov.state ≠ .parking) :
    LineAfter s.line (s.line.effective = .stopping ∧ s.line.stopKind = some .atOnce) (governorStopped s) := by
  rw [governorStopped_steady steady]
  exact lineAfter_lineStopped { s with gov := s.gov.stopped }

/-- Off STOPPING a steady Governor's part is all that is left. -/
theorem governorStopped_elsewhere (steady : s.gov.state ≠ .parking) (h : s.line.effective ≠ .stopping) :
    governorStopped s = { s with gov := s.gov.stopped } := by
  rw [governorStopped_steady steady]
  exact lineStopped_elsewhere (s := { s with gov := s.gov.stopped }) fun stops => h stops.1

theorem parkDone_stop (h : s.line.effective ≠ .stopping ∨ s.line.stopPurpose = some .hold
    ∨ s.line.stopPurpose = some .fault) : SameButStop s (parkDone s) := by
  unfold parkDone
  split
  · rename_i stopping
    rcases h with away | hold | fault
    · exact absurd stopping away
    · rw [hold]; exact reachStop_stop ..
    · rw [fault]; exact reachStop_stop ..
  · exact .rfl' s

/-- With no park for FEED or END to report, the Governor and the Line Controller write what a stop writes. -/
theorem governorStopped_stop (h : s.gov.state ≠ .parking ∨ s.line.effective ≠ .stopping
    ∨ s.line.stopPurpose = some .hold ∨ s.line.stopPurpose = some .fault) : SameButStop s (governorStopped s) := by
  by_cases parking : s.gov.state = .parking
  · by_cases inPlace : s.shaft.angleValid = true ∧ s.shaft.insideActive = true
    · rw [governorStopped_parked parking inPlace.1 inPlace.2]
      exact ((haltGov_gov s).stop.trans (parkDone_stop (s := haltGov s) (h.resolve_left (not_not.2 parking)))).trans
        (lineStopped_stop _)
    · have missed : s.shaft.angleValid = false ∨ s.shaft.insideActive = false := by
        simpa only [not_and_or, Bool.not_eq_true] using inPlace
      by_cases attempts : s.gov.attempts < 3
      · rw [governorStopped_retries parking missed attempts]
        exact (SameButStop.trans ⟨_, _, _, _, rfl⟩ (releaseDrive_gov _).stop).trans (lineStopped_stop _)
      · rw [governorStopped_faults parking missed (by omega)]
        exact ((haltGov_gov s).stop.trans (latch_stop ..)).trans (lineStopped_stop _)
  · rw [governorStopped_steady parking]
    exact SameButStop.trans ⟨_, _, _, _, rfl⟩ (lineStopped_stop _)

/-- A HALTED Governor does nothing. -/
theorem governorStopped_halted (halted : s.gov.state = .halted) : (governorStopped s).gov = s.gov := by
  rw [governorStopped_steady (by simp [halted]), lineStopped_gov]
  exact if_pos halted

/-! ## The stopped event (R73) -/

/-- With no pulse held back the Governor and the Line Controller act on what the waiting change has left. -/
theorem shaftStops_quiet (turning : s.shaft.stopped = false) {a : State}
    (begun : beginWaiting (monitorStopped (setShaft s.shaft.stop s)) = a) (waiting : a.anyWaiting = false) :
    shaftStops s = governorStopped a := by
  subst begun
  simp only [shaftStops, turning, waiting, Bool.false_eq_true, if_false]

theorem exec_stopped (running : s.resetAsserted = false) (turning : s.shaft.stopped = false) {a : State}
    (begun : beginWaiting (monitorStopped (setShaft s.shaft.stop s)) = a) (waiting : a.anyWaiting = false) :
    exec .stopped s = .next (transmit (governorStopped a)) := by
  rw [← shaftStops_quiet turning begun waiting]
  exact finish_live running

end

end Sys2Proof.Machine
end

section
/-! PROOFS. A change that waited for the shaft (R124): begun as the shaft stops, every bar judged, and what a complete
one hands on (R127, R128, R148, R149). -/

namespace Sys2Proof.Machine

/-! ## The change begun -/

/-- The state as the waiting change begins: the unit stopped, the Monitor's flags and the bars. -/
def State.begun (s : State) (m : Monitor) (u : Bars) : State :=
  { s with shaft := s.shaft.stop, monitor := m, bars := u }

/-- The bars with every bar of the change judged and no change in hand. -/
def State.endedBars (s : State) (kind : ChangeKind) (target : BarSet) : Bars := Bars.of (s.judgedFor kind target) none

section
variable {s : State} {kind : ChangeKind} {target : BarSet}

theorem beginChange_begun (s : State) (kind : ChangeKind) (target : BarSet) :
    ∃ m, beginChange kind target (monitorStopped (setShaft s.shaft.stop s)) =
      s.begun m (Bars.of (s.judgedFor kind target) (some ⟨kind, target, false⟩)) := by
  obtain ⟨u, m, e⟩ := beginChange_bars kind target (monitorStopped (setShaft s.shaft.stop s))
  have bars := beginChange_stopped (s := monitorStopped (setShaft s.shaft.stop s)) s.shaft.stop_stopped kind target
  rw [e] at bars
  refine ⟨m, e.trans ?_⟩
  dsimp only at bars
  rw [bars]
  rfl

variable (waits : s.bars.change = some ⟨kind, target, true⟩)
include waits

theorem beginWaiting_begun : ∃ m, beginWaiting (monitorStopped (setShaft s.shaft.stop s)) =
    settleChange (s.begun m (Bars.of (s.judgedFor kind target) (some ⟨kind, target, false⟩))) := by
  obtain ⟨m, e⟩ := beginChange_begun s kind target
  refine ⟨m, ?_⟩
  rw [← e]
  have change : (monitorStopped (setShaft s.shaft.stop s)).bars.change = some ⟨kind, target, true⟩ := waits
  simp only [beginWaiting, change, true_and]
  exact if_pos s.shaft.stop_stopped

end

section
variable {s : State} {kind : ChangeKind} {target : BarSet} {m : Monitor}

/-- A change with a bar still to move goes on. -/
theorem settleChange_incomplete (h : ¬ ∀ b ∈ kind.bars, (s.judgedFor kind target b).heldAt (target.mem b) = true) :
    settleChange (s.begun m (Bars.of (s.judgedFor kind target) (some ⟨kind, target, false⟩))) =
      s.begun m (Bars.of (s.judgedFor kind target) (some ⟨kind, target, false⟩)) := by
  have unfinished : ¬ (s.begun m (Bars.of (s.judgedFor kind target) (some ⟨kind, target, false⟩))).changeDone = true :=
    fun done => h ((changeDone_of rfl).1 done)
  exact if_neg unfinished

/-- A complete one is handed on by its kind. -/
theorem settleChange_complete (h : ∀ b ∈ kind.bars, (s.judgedFor kind target b).heldAt (target.mem b) = true) :
    settleChange (s.begun m (Bars.of (s.judgedFor kind target) (some ⟨kind, target, false⟩))) =
      match kind with
      | .record => lineRecordDone (removeHead (s.begun m (s.endedBars kind target)))
      | .restore => restoreDone (s.begun m (s.endedBars kind target))
      | .force _ => s.begun m (s.endedBars kind target) := by
  have done : (s.begun m (Bars.of (s.judgedFor kind target) (some ⟨kind, target, false⟩))).changeDone = true :=
    (changeDone_of rfl).2 h
  refine (if_pos done).trans ?_
  cases kind <;> rfl

/-! ## The head removed (R37, R127) -/

/-- The record appended reads the Planner, the parameters, the width and the store. -/
theorem appendRecord_planner_congr {s t : State} (context : t.planContext = s.planContext)
    (planner : t.planner = s.planner) : (appendRecord t).planner = (appendRecord s).planner := by
  simp only [appendRecord, planner, planNext_congr context]
  cases s.planner.cursor with
  | none => exact planner
  | some c =>
    by_cases full : Config.queueCapacity ≤ s.planner.queue.length
    · simp only [full, if_true, planner]
    · simp only [full, if_false]
      cases planNext s planFuel c with
      | none => exact planner
      | some next => rfl

theorem removeHead_begun (s : State) (m : Monitor) (u : Bars) : ∃ g, removeHead (s.begun m u) =
    { s.begun m u with planner := (removeHead s).planner, gov := { s.gov with demand := g } } := by
  obtain ⟨p, g, e, -, -⟩ := removeHead_frame (s.begun m u)
  have context : (s.begun m u).planContext = s.planContext := by
    funext c
    simp only [State.planContext, State.begun, Shaft.stop_accepted]
  have planner : (removeHead (s.begun m u)).planner = (removeHead s).planner :=
    appendRecord_planner_congr (s := { s with
      planner := { s.planner with queue := s.planner.queue.tail, headBegun := false } }) context rfl
  refine ⟨g, ?_⟩
  rw [e] at planner ⊢
  dsimp only at planner
  rw [planner]
  rfl

end

/-! ## What the change hands on -/

/-- The state handed on by a complete change: the bars at their targets, with the Planner and the demand it leaves. -/
def State.handed (s : State) (m : Monitor) (u : Bars) (p : Planner) (demand : Nat) : State :=
  { s.begun m u with planner := p, gov := { s.gov with demand := demand } }

section
variable {x : State}

theorem lineRecordDone_elsewhere (h : x.line.effective ≠ .stopping) (feeding : x.line.effective ≠ .feeding) :
    lineRecordDone x = x := by
  have off : x.stitchStopOn = false := by simp [State.stitchStopOn, h]
  simp only [lineRecordDone, off, Bool.false_eq_true, if_false, feeding]

theorem lineRecordDone_feeding (h : x.line.effective = .feeding) : lineRecordDone x = takeStep x := by
  have off : x.stitchStopOn = false := by simp [State.stitchStopOn, h]
  simp only [lineRecordDone, off, Bool.false_eq_true, if_false, h, if_true]

/-- STOPPING with the shaft stopped, a stop that waits for nothing else is reached (R153). -/
theorem lineRecordDone_reaches (stopped : x.shaft.stopped = true) (h : x.stitchStopOn = true)
    (burst : x.motion.emitting = false) (feed : x.motion.feedRunning = false) :
    lineRecordDone x = reachStop .stopDone x := by
  simp only [lineRecordDone, h, if_true, stitchStop, burst, feed, Bool.false_eq_true, if_false, stopped]

theorem lineRecordDone_waits (stopping : x.line.effective = .stopping)
    (h : ¬ (x.stitchStopOn = true ∧ x.motion.emitting = false ∧ x.motion.feedRunning = false)) :
      lineRecordDone x = x := by
  unfold lineRecordDone
  rw [if_neg (c := x.line.effective = .feeding) (by simp [stopping])]
  split
  · rename_i on
    unfold stitchStop
    split
    · rfl
    · split
      · rfl
      · rename_i burst feed
        exact absurd ⟨on, Bool.eq_false_iff.2 burst, Bool.eq_false_iff.2 feed⟩ h
  · rfl

theorem stitchStopOn_purpose (h : x.stitchStopOn = true) : x.line.effective = .stopping
    ∧ (x.line.stopPurpose = some .hold ∨ x.line.stopPurpose = some .fault) := by
  simp only [State.stitchStopOn, Bool.and_eq_true, Bool.or_eq_true, decide_eq_true_eq] at h
  obtain ⟨⟨stopping, purpose⟩, -⟩ := h
  exact ⟨stopping, purpose⟩

/-- A hold or fault stop reached leaves STOPPING. -/
theorem reachStop_leaves (stopping : x.line.effective = .stopping)
    (h : x.line.stopPurpose = some .hold ∨ x.line.stopPurpose = some .fault) (why : Reason) :
    (reachStop why x).line.effective ≠ .stopping := by
  rcases h with hold | fault
  · rw [reachStop_hold stopping hold, setMode_line]; simp
  · rw [reachStop_fault stopping fault, enterFaulted_line]; simp

/-! ## The resume sequence from where it stands (R148) -/

theorem restoreStep_bare (h : Resumes x) (bare : x.planner.headStitch = none) : restoreStep x = setStep .none x := by
  simp only [restoreStep, bare, headStep_unchanged h.unchanged, headStepBase, setStep_planner]

theorem headStepBase_stitch {st : Stitch × Bool} (h : x.planner.headStitch = some st) :
    headStepBase x = enterRunning .record .stitching [] (setStep .none x) := by
  simp only [headStepBase, setStep_planner, h]

theorem headStepBase_bare (h : x.planner.headStitch = none) : headStepBase x = setStep .none x := by
  simp only [headStepBase, setStep_planner, h]

/-- Every bar stands held for the head's stitch: the line runs (R148 steps 5 and 6). -/
theorem restoreStep_held {st : Stitch} {last : Bool} (h : x.planner.headStitch = some (st, last))
    (held : ∀ b, (x.bars.get b).heldAt (st.bars.mem b) = true) :
    restoreStep x = enterRunning .record .stitching [] (setStep .none (dropChange (setStep .restore x))) := by
  have complete : changeComplete ⟨.restore, st.bars, false⟩ (setStep .restore x).bars = true :=
    List.all_eq_true.2 fun b _ => held b
  have asked : askRestore st.bars (setStep .restore x) = (dropChange (setStep .restore x), true) := if_pos complete
  simp only [restoreStep, h, asked, if_true]
  rw [headStep_unchanged rfl, headStepBase_stitch (x := dropChange (setStep .restore x)) h]

/-- A bar to move for it is asked for (R128). -/
theorem restoreStep_asks {st : Stitch} {last : Bool} (stopped : x.shaft.stopped = true) (lasts : 1 ≤ x.params.deadTime)
    (h : x.planner.headStitch = some (st, last)) (away : ¬ ∀ b, (x.bars.get b).heldAt (st.bars.mem b) = true) :
    restoreStep x = beginChange .restore st.bars (setStep .restore x) := by
  have every : ∀ b : Bar, b ∈ ChangeKind.restore.bars := fun b => by cases b <;> decide
  have incomplete : ¬ changeComplete ⟨.restore, st.bars, false⟩ (setStep .restore x).bars = true := fun complete =>
    away fun b => List.all_eq_true.1 complete b (every b)
  have bars := beginChange_stopped (s := setStep .restore x) stopped .restore st.bars
  have moving : ¬ (beginChange .restore st.bars (setStep .restore x)).changeDone = true := by
    rw [changeDone_of bars]
    refine fun done => away fun b => ?_
    have judged := done b (every b)
    rw [State.judgedFor, if_pos (every b), judgedBar_heldAt (s := setStep .restore x) lasts] at judged
    exact judged
  have asked : askRestore st.bars (setStep .restore x) = (beginChange .restore st.bars (setStep .restore x), false) :=
    (if_neg incomplete).trans (if_neg moving)
  simp only [restoreStep, h, asked, Bool.false_eq_true, if_false]

/-! ## The end of the stopped event off STOPPING -/

/-- The state after the Governor's part. -/
def State.settled (a : State) : State := transmit { a with gov := a.gov.stopped }

theorem Gov.stopped_ramping {g : Gov} (h : g.state = .ramping) : g.stopped.state = .ramping := by
  simp [Gov.stopped, h]

theorem Gov.stopped_orders (g : Gov) : g.stopped.released = g.released ∧ g.stopped.purpose = g.purpose
    ∧ g.stopped.replayCeilings = g.replayCeilings := by
  unfold Gov.stopped
  split <;> exact ⟨rfl, rfl, rfl⟩

/-- The line runs, the Governor having its order (R148). -/
structure LineRuns (y : State) (p : Purpose) (c : List Nat) (t : State) : Prop where
  mode : t.line.effective = .running
  permission : t.line.permission = true
  step : t.line.resumeStep = y.line.resumeStep
  bars : t.bars = y.bars
  monitor : t.monitor = y.monitor
  gov : y.gov.state = .halted → y.line.faults.atOnce = false →
    t.gov.state = .ramping ∧ t.gov.released = true ∧ t.gov.purpose = some p ∧ t.gov.replayCeilings = c

theorem StartsRunning.lineRuns {y a : State} {p : Purpose} {c : List Nat} (h : StartsRunning p c y a) :
    LineRuns y p c a.settled := by
  obtain ⟨line, beside, -, -, gov⟩ := h
  have settled : a.settled.line = y.line.inMode .running none none := line
  refine ⟨by rw [settled]; rfl, by rw [settled]; rfl, by rw [settled]; rfl, beside.bars, beside.monitor,
    fun halted free => ?_⟩
  obtain ⟨ramping, released, purpose, ceilings⟩ := gov halted free
  obtain ⟨released', purpose', ceilings'⟩ := a.gov.stopped_orders
  exact ⟨Gov.stopped_ramping ramping, released'.trans released, purpose'.trans purpose, ceilings'.trans ceilings⟩

end

end Sys2Proof.Machine
end

section
/-! PROOFS. The stopped event with a change that waited for it, clause by clause (R124, R127 to R129, R148, R149,
R153). -/

namespace Sys2Proof.Machine

theorem LineAfter.congr {l : Line} {p q : Prop} {t u : State} (h : LineAfter l p t) (same : p ↔ q)
    (line : u.line = t.line := by rfl) : LineAfter l q u := by
  obtain ⟨stands, holds, faults⟩ := h
  rw [← line] at stands holds faults
  exact ⟨fun e => stands (mt same.1 e), fun e => holds (same.2 e), fun e => faults (same.2 e)⟩

theorem governorStopped_shaft (a : State) : (governorStopped a).shaft = a.shaft :=
  shaft_of_setting (governorStopped_setting a)

section
variable {s : State} {kind : ChangeKind} {target : BarSet} (running : s.resetAsserted = false)
  (turning : s.shaft.stopped = false) (waits : s.bars.change = some ⟨kind, target, true⟩) (quiet : s.anyWaiting = false)
include running turning waits

/-- The stopped event once the waiting change has begun and what it hands on is known. -/
theorem exec_stopped_begun : ∃ m, ∀ a,
    settleChange (s.begun m (Bars.of (s.judgedFor kind target) (some ⟨kind, target, false⟩))) = a →
    a.anyWaiting = false → exec .stopped s = .next (transmit (governorStopped a)) := by
  obtain ⟨m, e⟩ := beginWaiting_begun waits
  exact ⟨m, fun a settled waiting => exec_stopped running turning (e.trans settled) waiting⟩

include quiet

/-- A change with a bar still to move: the Governor and the Line Controller find it in hand. -/
theorem exec_stopped_incomplete (h : ¬ ∀ b ∈ kind.bars, (s.judgedFor kind target b).heldAt (target.mem b) = true)
    (parks : s.gov.state ≠ .parking ∨ s.line.effective ≠ .stopping ∨ s.line.stopPurpose = some .hold
      ∨ s.line.stopPurpose = some .fault) :
    ∃ t, exec .stopped s = .next t ∧ (∀ b, t.bars.get b = s.judgedFor kind target b)
      ∧ t.bars.change = some ⟨kind, target, false⟩ ∧ t.planner = s.planner ∧ t.shaft = s.shaft.stop
      ∧ (s.gov.state = .halted → t.gov = s.gov)
      ∧ (s.gov.state ≠ .parking →
        LineAfter s.line (s.line.effective = .stopping ∧ s.line.stopKind = some .atOnce) t) := by
  obtain ⟨m, after⟩ := exec_stopped_begun running turning waits
  let a : State := s.begun m (Bars.of (s.judgedFor kind target) (some ⟨kind, target, false⟩))
  obtain ⟨bars, planner, -, -⟩ := (governorStopped_stop (s := a) parks).beside
  refine ⟨_, after a (settleChange_incomplete h) quiet, fun b => ?_, ?_, planner, ?_, fun halted => ?_,
    fun steady => ?_⟩
  · rw [transmit_bars, bars]; exact Bars.of_get ..
  · rw [transmit_bars, bars]; rfl
  · rw [transmit_shaft, governorStopped_shaft]; rfl
  · exact governorStopped_halted (s := a) halted
  · exact (lineAfter_governorStopped (s := a) steady).congr Iff.rfl

/-- Complete with the line STOPPING: any change but a record only ends. -/
theorem exec_stopped_ends (h : ∀ b ∈ kind.bars, (s.judgedFor kind target b).heldAt (target.mem b) = true)
    (steady : s.gov.state ≠ .parking) (stopping : s.line.effective = .stopping) (other : kind ≠ .record) :
    ∃ t, exec .stopped s = .next t ∧ t.bars = s.endedBars kind target ∧ t.shaft = s.shaft.stop ∧ t.planner = s.planner
      ∧ LineAfter s.line (s.line.effective = .stopping ∧ s.line.stopKind = some .atOnce) t := by
  obtain ⟨m, after⟩ := exec_stopped_begun running turning waits
  let a : State := s.begun m (s.endedBars kind target)
  have settled : settleChange (s.begun m (Bars.of (s.judgedFor kind target) (some ⟨kind, target, false⟩))) = a := by
    rw [settleChange_complete h]
    cases kind with
    | record => exact absurd rfl other
    | restore => exact if_neg (by simp [State.begun, stopping])
    | force b => rfl
  obtain ⟨bars, planner, -, -⟩ := (governorStopped_stop (s := a) (.inl steady)).beside
  refine ⟨_, after a settled quiet, bars, ?_, planner, (lineAfter_governorStopped (s := a) steady).congr Iff.rfl⟩
  rw [transmit_shaft, governorStopped_shaft]; rfl

/-- A record change takes its record off the queue and, STOPPING, ends a stop that awaited nothing else. -/
theorem exec_stopped_record_stopping (record : kind = .record)
    (h : ∀ b ∈ kind.bars, (s.judgedFor kind target b).heldAt (target.mem b) = true)
    (steady : s.gov.state ≠ .parking) (stopping : s.line.effective = .stopping) :
    ∃ t, exec .stopped s = .next t ∧ t.bars = s.endedBars kind target ∧ t.shaft = s.shaft.stop
      ∧ t.planner = (removeHead s).planner
      ∧ LineAfter s.line ((s.line.effective = .stopping ∧ s.line.stopKind = some .atOnce)
        ∨ (s.stitchStopOn = true ∧ s.motion.emitting = false ∧ s.motion.feedRunning = false)) t := by
  subst record
  obtain ⟨m, after⟩ := exec_stopped_begun running turning waits
  obtain ⟨g, removed⟩ := removeHead_begun s m (s.endedBars .record target)
  let x : State := s.handed m (s.endedBars .record target) (removeHead s).planner g
  have settled := (settleChange_complete (m := m) h).trans (congrArg lineRecordDone removed)
  have ends : ∀ a, lineRecordDone x = a → SameButStop x a → a.motion = s.motion → a.gov.state ≠ .parking →
      exec .stopped s = .next (transmit (governorStopped a)) ∧ (governorStopped a).bars = s.endedBars .record target
        ∧ (governorStopped a).shaft = s.shaft.stop ∧ (governorStopped a).planner = (removeHead s).planner := by
    intro a e stop motion steady
    obtain ⟨bars, planner, -, -⟩ := (stop.trans (governorStopped_stop (.inl steady))).beside
    refine ⟨after a (settled.trans e) ((anyWaiting_of_motion motion).trans quiet), bars, ?_, planner⟩
    rw [governorStopped_shaft, shaft_of_setting stop.setting]
    rfl
  by_cases reaches : s.stitchStopOn = true ∧ s.motion.emitting = false ∧ s.motion.feedRunning = false
  · obtain ⟨on, burst, feed⟩ := reaches
    obtain ⟨-, purpose⟩ := stitchStopOn_purpose on
    obtain ⟨e, bars, shaft, planner⟩ := ends (reachStop .stopDone x)
      (lineRecordDone_reaches (x := x) s.shaft.stop_stopped on burst feed) (reachStop_stop ..)
      (reachStop_motion ..) (by rw [reachStop_gov]; exact steady)
    refine ⟨_, e, bars, shaft, planner, ?_⟩
    have left := reachStop_leaves (x := x) stopping purpose .stopDone
    have line : (governorStopped (reachStop .stopDone x)).line = (reachStop .stopDone x).line := by
      rw [governorStopped_elsewhere (by rw [reachStop_gov]; exact steady) left]
    exact (lineAfter_reachStop (s := x) stopping trivial .stopDone).congr
      (by simp [on, burst, feed]) ((transmit_line _).trans line)
  · obtain ⟨e, bars, shaft, planner⟩ := ends x (lineRecordDone_waits (x := x) stopping reaches) (.rfl' x) rfl steady
    refine ⟨_, e, bars, shaft, planner, (lineAfter_governorStopped (s := x) steady).congr ?_⟩
    show _ ↔ _ ∨ _
    rw [or_iff_left reaches]
    exact Iff.rfl

end

/-! ## Off STOPPING -/

/-- What the stopped event leaves off STOPPING, whatever the change hands on. -/
structure SettlesOff (s t : State) : Prop where
  shaft : t.shaft = s.shaft.stop
  store : t.store = s.store
  halted : s.gov.state = .halted → s.line.effective ≠ .feeding → t.gov.state = .halted

theorem Gov.stopped_halted {g : Gov} (h : g.state = .halted) : g.stopped = g := if_pos h

/-- What a complete change hands on to the line, and the line's part of it. -/
structure HandsOn (s : State) (p : Planner) (a : State) : Prop where
  taken : ∃ m u g, StepTaken (s.handed m u p g) a ∧ a.setting = (s.handed m u p g).setting
    ∧ (s.line.effective ≠ .feeding → a = s.handed m u p g)

section
variable {s : State} {p : Planner} {a : State} (h : HandsOn s p a)
include h

theorem HandsOn.quiet (quiet : s.anyWaiting = false) : a.anyWaiting = false := by
  obtain ⟨m, u, g, taken, -, -⟩ := h
  exact taken.waiting quiet

theorem HandsOn.settled (steady : s.gov.state ≠ .parking) : transmit (governorStopped a) = a.settled
    ∧ SettlesOff s a.settled ∧ a.settled.planner = p := by
  obtain ⟨m, u, g, ⟨planner, store, -, steady', mode⟩, setting, rests⟩ := h
  refine ⟨by rw [governorStopped_elsewhere (steady' steady) mode]; rfl,
    ⟨shaft_of_setting setting, store, fun halted away => ?_⟩, planner⟩
  rw [rests away]
  exact (congrArg Gov.state (Gov.stopped_halted (g := (s.handed m u p g).gov) halted)).trans halted

end

section
variable {s : State} {kind : ChangeKind} {target : BarSet} (running : s.resetAsserted = false)
  (turning : s.shaft.stopped = false) (waits : s.bars.change = some ⟨kind, target, true⟩) (quiet : s.anyWaiting = false)
  (complete : ∀ b ∈ kind.bars, (s.judgedFor kind target b).heldAt (target.mem b) = true)
  (steady : s.gov.state ≠ .parking) (off : s.line.effective ≠ .stopping)
include running turning waits quiet complete steady off

/-- A forced move only ends (R129). -/
theorem exec_stopped_force {b : Bar} (force : kind = .force b) :
    ∃ t, exec .stopped s = .next t ∧ SettlesOff s t ∧ t.planner = s.planner ∧ t.bars = s.endedBars kind target
      ∧ t.line = s.line ∧ t.motion = s.motion := by
  subst force
  obtain ⟨m, after⟩ := exec_stopped_begun running turning waits
  let a : State := s.begun m (s.endedBars (.force b) target)
  have hands : HandsOn s s.planner a :=
    ⟨m, s.endedBars (.force b) target, s.gov.demand, ⟨rfl, rfl, id, id, off⟩, rfl, fun _ => rfl⟩
  obtain ⟨whole, settles, planner⟩ := hands.settled steady
  exact ⟨a.settled, (after a (settleChange_complete complete) (hands.quiet quiet)).trans (congrArg _ whole), settles,
    planner, rfl, rfl, rfl⟩

/-- A restore is reported done: the resume sequence goes on from its step in FEEDING (R128, R148). -/
theorem exec_stopped_restore (restore : kind = .restore) :
    ∃ t, exec .stopped s = .next t ∧ SettlesOff s t ∧ t.planner = s.planner
      ∧ (s.line.effective ≠ .feeding → t.bars = s.endedBars kind target ∧ t.line = s.line ∧ t.motion = s.motion)
      ∧ ∃ m, s.line.effective = .feeding →
        t = (restoreDone (s.handed m (s.endedBars kind target) s.planner s.gov.demand)).settled := by
  subst restore
  obtain ⟨m, after⟩ := exec_stopped_begun running turning waits
  let x : State := s.handed m (s.endedBars .restore target) s.planner s.gov.demand
  have rests : s.line.effective ≠ .feeding → restoreDone x = x := fun away => if_neg away
  have hands : HandsOn s s.planner (restoreDone x) := by
    refine ⟨m, s.endedBars .restore target, s.gov.demand, ?_, restoreDone_setting _, rests⟩
    by_cases feeding : s.line.effective = .feeding
    · exact restoreDone_taken ⟨feeding, rfl⟩
    · rw [rests feeding]
      exact ⟨rfl, rfl, id, id, off⟩
  obtain ⟨whole, settles, planner⟩ := hands.settled steady
  refine ⟨(restoreDone x).settled, (after _ (settleChange_complete complete)
    (hands.quiet quiet)).trans (congrArg _ whole), settles, planner, fun away => ?_, m, fun _ => rfl⟩
  rw [rests away]
  exact ⟨rfl, rfl, rfl⟩

/-- A record change takes its record off the queue; in FEEDING the line looks at what comes next (R127, R149). -/
theorem exec_stopped_record (record : kind = .record) :
    ∃ t, exec .stopped s = .next t ∧ SettlesOff s t ∧ t.planner = (removeHead s).planner
      ∧ (s.line.effective ≠ .feeding → t.bars = s.endedBars kind target ∧ t.line = s.line ∧ t.motion = s.motion)
      ∧ ∃ m g, s.line.effective = .feeding →
        t = (takeStep (s.handed m (s.endedBars kind target) (removeHead s).planner g)).settled := by
  subst record
  obtain ⟨m, after⟩ := exec_stopped_begun running turning waits
  obtain ⟨g, removed⟩ := removeHead_begun s m (s.endedBars .record target)
  let x : State := s.handed m (s.endedBars .record target) (removeHead s).planner g
  have settled := (settleChange_complete (m := m) complete).trans (congrArg lineRecordDone removed)
  have rests : s.line.effective ≠ .feeding → lineRecordDone x = x := lineRecordDone_elsewhere (x := x) off
  have steps : s.line.effective = .feeding → lineRecordDone x = takeStep x := lineRecordDone_feeding (x := x)
  have hands : HandsOn s (removeHead s).planner (lineRecordDone x) := by
    refine ⟨m, s.endedBars .record target, g, ?_, lineRecordDone_setting _, rests⟩
    by_cases feeding : s.line.effective = .feeding
    · rw [steps feeding]
      exact takeStep_taken ⟨feeding, rfl⟩
    · rw [rests feeding]
      exact ⟨rfl, rfl, id, id, off⟩
  obtain ⟨whole, settles, planner⟩ := hands.settled steady
  refine ⟨(lineRecordDone x).settled, (after _ settled (hands.quiet quiet)).trans (congrArg _ whole),
    settles, planner, fun away => ?_, m, g, fun feeding => by rw [steps feeding]⟩
  rw [rests away]
  exact ⟨rfl, rfl, rfl⟩

end

end Sys2Proof.Machine
end

section
/-! PROOFS. The sequence taken up by a change that ends in FEEDING (R127, R128, R148, R149), and the stopped event
with no change waiting (R93, R96, R149, R153, R159). -/

namespace Sys2Proof.Machine

section
variable {x : State}

theorem takeStep_none (h : x.line.resumeStep = .none) : takeStep x = restoreStep x := by simp only [takeStep, h]

/-- After a record change with no step under way the head is looked at (R149). -/
theorem takeStep_afterRecord_bare (h : Resumes x) (step : x.line.resumeStep = .none)
    (bare : x.planner.headStitch = none) :
    (takeStep x).settled.bars = x.bars ∧ (takeStep x).settled.line = x.line
      ∧ (takeStep x).settled.motion = x.motion := by
  rw [takeStep_none step, restoreStep_bare h bare]
  refine ⟨rfl, ?_, rfl⟩
  show { x.line with resumeStep := .none } = x.line
  rw [← step]

theorem takeStep_afterRecord_held (feeding : x.line.effective = .feeding) (step : x.line.resumeStep = .none)
    {st : Stitch}
    {last : Bool} (head : x.planner.headStitch = some (st, last))
    (held : ∀ b, (x.bars.get b).heldAt (st.bars.mem b) = true) :
    LineRuns (setStep .none (dropChange x)) .stitching [] (takeStep x).settled := by
  have starts := (enterRunning_starts (s := setStep .none (dropChange (setStep .restore x))) feeding .record .stitching
    []).lineRuns
  rw [takeStep_none step, restoreStep_held head held]
  obtain ⟨mode, permission, step, bars, monitor, gov⟩ := starts
  exact ⟨mode, permission, step, bars, monitor, gov⟩

theorem takeStep_afterRecord_asks (stopped : x.shaft.stopped = true) (lasts : 1 ≤ x.params.deadTime)
    (step : x.line.resumeStep = .none) {st : Stitch} {last : Bool} (head : x.planner.headStitch = some (st, last))
    (away : ¬ ∀ b, (x.bars.get b).heldAt (st.bars.mem b) = true) :
    (takeStep x).settled.line = { x.line with resumeStep := .restore }
      ∧ (takeStep x).settled.bars.change = some ⟨.restore, st.bars, false⟩
      ∧ (takeStep x).settled.motion = x.motion := by
  rw [takeStep_none step, restoreStep_asks stopped lasts head away]
  have bars := beginChange_stopped (s := setStep .restore x) stopped .restore st.bars
  obtain ⟨u, m, e⟩ := beginChange_bars .restore st.bars (setStep .restore x)
  refine ⟨?_, (congrArg Bars.change bars).trans rfl, ?_⟩
  · show (beginChange .restore st.bars (setStep .restore x)).line = _
    rw [e]; rfl
  · show (beginChange .restore st.bars (setStep .restore x)).motion = _
    rw [e]; rfl

/-! ## A restore reported done -/

variable (feeding : x.line.effective = .feeding)
include feeding

theorem restoreDone_frozen {u : Burst} (step : x.line.resumeStep = .frozen) (burst : x.motion.burst = some u) :
    (u.source = .head → LineRuns x .stitching [] (restoreDone x).settled)
    ∧ (u.source = .replay → LineRuns (replayBegin x) .replay x.replayCeilings (restoreDone x).settled) := by
  refine ⟨fun source => ?_, fun source => ?_⟩
  · simp only [restoreDone, feeding, if_true, step, startFrozen, burst, source]
    exact (enterRunning_starts feeding ..).lineRuns
  · simp only [restoreDone, feeding, if_true, step, startFrozen, burst, source]
    exact (enterRunning_starts (s := replayBegin x) feeding ..).lineRuns

theorem restoreDone_replay (step : x.line.resumeStep = .replay) :
    LineRuns (replayBegin x) .replay x.replayCeilings (restoreDone x).settled := by
  simp only [restoreDone, feeding, if_true, step]
  exact (enterRunning_starts (s := replayBegin x) feeding ..).lineRuns

theorem restoreDone_restore (step : x.line.resumeStep = .restore) (unchanged : x.recordChangeInHand = false) :
    (x.planner.headStitch ≠ none → LineRuns (setStep .none x) .stitching [] (restoreDone x).settled)
    ∧ (x.planner.headStitch = none → (restoreDone x).settled.bars = x.bars
      ∧ (restoreDone x).settled.line = { x.line with resumeStep := .none }) := by
  have heads : restoreDone x = headStepBase x := by
    simp only [restoreDone, feeding, if_true, step, headStep_unchanged unchanged]
  rw [heads]
  refine ⟨fun head => ?_, fun bare => ?_⟩
  · obtain ⟨st, head⟩ := Option.ne_none_iff_exists'.1 head
    rw [headStepBase_stitch head]
    exact (enterRunning_starts (s := setStep .none x) feeding ..).lineRuns
  · rw [headStepBase_bare bare]
    exact ⟨rfl, rfl⟩

/-- No other step waits for a restore. -/
theorem restoreDone_other (step : x.line.resumeStep = .none ∨ x.line.resumeStep = .backMove) : restoreDone x = x := by
  rcases step with step | step <;> simp only [restoreDone, feeding, if_true, step]

end

end Sys2Proof.Machine
end

section
/-! PROOFS. The stopped event with no change waiting for it (R73, R93, R96, R149, R153, R159). -/

namespace Sys2Proof.Machine

/-! ## The state at rest -/

/-- The unit stopped and the Monitor's flags gone (R73, R135, R139). -/
def State.atRest (s : State) : State := monitorStopped (setShaft s.shaft.stop s)

theorem beginWaiting_idle {s : State} (h : s.bars.change.map (fun c => c.waiting) ≠ some true) :
    beginWaiting s = s := by
  unfold beginWaiting
  split
  · rfl
  · rename_i c in_hand
    rw [if_neg]
    rintro ⟨waiting, -⟩
    exact h (by rw [in_hand, Option.map_some, waiting])

/-- A notice raised reads and writes the link and the reset level alone. -/
theorem raiseNotice_line_comm (n : Notice) (l : Line) (s : State) :
    raiseNotice n { s with line := l } = { raiseNotice n s with line := l } := rfl

/-! ## A stop reached, whole (R146, R153, R159) -/

/-- The line where a stop has ended. -/
def Line.ended (l : Line) (m : Mode) (overlap : Bool) : Line :=
  { l with
    effective := m, stopPurpose := none, stopKind := none, holdOrigin := none, resumeStep := .none
    permission := false, overlapPending := l.overlapPending || overlap }

/-- The state where it has, the notice raised. -/
def State.reached (s : State) (m : Mode) (overlap : Bool) (why : Reason) : State :=
  raiseNotice (.modeChanged m none none s.line.requested why) { s with line := s.line.ended m overlap }

section
variable {s : State} (stopping : s.line.effective = .stopping)
include stopping

theorem setMode_ended {m : Mode} (rests : m.endsResume = true)
    (permits : permissionIn m none none s.line.permission = false)
    (why : Reason) : setMode m none none why s = s.reached m false why := by
  have feeding : m ≠ .feeding := by rintro rfl; cases rests
  have changes : s.line.effective ≠ m := by rw [stopping]; rintro rfl; cases rests
  have line : s.line.inMode m none none = s.line.ended m false := by
    simp [Line.inMode, Line.ended, rests, permits, feeding]
  rw [setMode_eq feeding (by simp [stopping]) (.inl changes), line]
  rfl

theorem reachStop_hold_reached (h : s.line.stopPurpose = some .hold) (why : Reason) :
    reachStop why s = s.reached .holding false .stopDone := by
  rw [reachStop_hold stopping h, setMode_ended stopping rfl rfl]

theorem reachStop_fault_reached (h : s.line.stopPurpose = some .fault) (why : Reason) :
    reachStop why s = s.reached .faulted s.line.faults.threadStop why := by
  rw [reachStop_fault stopping h, enterFaulted, setMode_ended stopping rfl rfl]
  have faults : (s.reached .faulted false why).line.faults = s.line.faults := by simp [State.reached, Line.ended]
  dsimp only
  rw [faults]
  cases s.line.faults.threadStop with
  | false => rfl
  | true =>
    simp only [if_true, State.reached, raiseNotice_line, ← raiseNotice_line_comm]
    simp [Line.ended]

end

/-- FEEDING entered from STOPPING with no step of the sequence left (R149, R151). -/
theorem parkFeeds_state {s : State} (stopping : s.line.effective = .stopping) :
    let t := setStep .none (setMode .feeding none none .stopDone s)
    t.gov = s.gov ∧ (t.line.effective = .feeding ∧ t.line.stopPurpose = none ∧ t.line.stopKind = none
      ∧ t.line.permission = false ∧ t.line.resumeStep = .none ∧ t.line.parkedCount = 0 ∧ t.line.parkHanded = false)
    ∧ t.shaft = s.shaft ∧ t.planner = s.planner ∧ t.bars = s.bars := by
  intro t
  have line : t.line = { s.line.inMode .feeding none none with resumeStep := .none } :=
    congrArg (fun l : Line => { l with resumeStep := .none }) (setMode_line ..)
  obtain ⟨bars, planner, -, -⟩ := (setMode_stop .feeding none none .stopDone s).beside
  refine ⟨setMode_gov (.inl (by simp [stopping])) .., ?_, shaft_of_setting (setMode_setting ..), planner, bars⟩
  rw [line]
  simp [Line.inMode, permissionIn, stopping]

/-! ## The third miss (R96, R159) -/

/-- With the shaft stopped, AT_ONCE finds a stop already at once or begins one, and the line ends FAULTED. -/
theorem faultAction_faulted {y : State} (stopped : y.shaft.stopped = true) (stopping : y.line.effective = .stopping) :
    (lineStopped (faultAction .atOnce y)).line.effective = .faulted
      ∧ (lineStopped (faultAction .atOnce y)).line.overlapPending =
        (y.line.overlapPending || y.line.faults.threadStop) := by
  have begins : ∀ z, z = faultStop .atOnce (stopAtOnce (freeze y)) → (lineStopped z).line.effective = .faulted
      ∧ (lineStopped z).line.overlapPending = (y.line.overlapPending || y.line.faults.threadStop) := by
    rintro z rfl
    obtain ⟨faulted, overlap⟩ := faultStop_stopped (t := stopAtOnce (freeze y)) stopped
    rw [lineStopped_elsewhere (by simp [faulted])]
    exact ⟨faulted, overlap⟩
  rw [faultAction_atOnce, stopping]
  by_cases fault : y.line.stopPurpose = some .fault
  · rw [fault]
    dsimp only
    split
    · rename_i once
      rw [lineStopped_atOnce (s := stopAtOnce (freeze y)) stopping once,
        reachStop_fault (s := stopAtOnce (freeze y)) stopping fault, enterFaulted_line]
      exact ⟨rfl, rfl⟩
    · exact begins _ rfl
  · refine begins _ ?_
    rcases purpose : y.line.stopPurpose with _ | (_ | _ | _ | _)
    case some.fault => exact absurd purpose fault
    all_goals rfl

/-- A source latched anew with action AT_ONCE ends a stop in FAULTED, as the shaft stands. -/
theorem latch_faulted {x : State} {src : FaultSource} (new : x.line.faults.has src = false)
    (once : actionOf x.params src = .atOnce) (other : src ≠ .thread) (stopped : x.shaft.stopped = true)
    (stopping : x.line.effective = .stopping) :
    (lineStopped (latch src none x)).gov.idle ∧ (lineStopped (latch src none x)).line.faults.has src = true
      ∧ (lineStopped (latch src none x)).line.effective = .faulted
      ∧ (lineStopped (latch src none x)).line.overlapPending =
        (x.line.overlapPending || x.line.faults.threadStop) := by
  have has : (lineStopped (latch src none x)).line.faults.has src = true := by
    unfold lineStopped
    split
    · rw [reachStop_faults]; exact latch_has once none
    · exact latch_has once none
  obtain ⟨_, gov, -, -, -, -⟩ := haltedAtOnce_latch new once none
  rw [lineStopped_gov]
  refine ⟨gov, has, ?_⟩
  obtain ⟨ref, g, k, e⟩ := latch_atOnce new once none
  rw [e, ← x.line.faults.threadStop_add other .atOnce ref]
  exact faultAction_faulted (y := { x with
    line := { x.line with faults := x.line.faults.add src .atOnce ref }, gov := g, link := k }) stopped stopping

/-! ## The stopped event (R73) -/

theorem missed_atRest {s : State} (missed : s.shaft.angleValid = false ∨ s.shaft.stop.insideActive = false) :
    s.atRest.shaft.angleValid = false ∨ s.atRest.shaft.insideActive = false := by
  obtain ⟨-, -, -, -, -, same, -⟩ := s.shaft.stop_figures
  exact missed.imp_left same.trans

section
variable {s : State} (running : s.resetAsserted = false) (turning : s.shaft.stopped = false)
  (idle : s.bars.change.map (fun c => c.waiting) ≠ some true) (quiet : s.anyWaiting = false)
include running turning idle quiet

theorem exec_stopped_atRest : exec .stopped s = .next (transmit (governorStopped s.atRest)) :=
  exec_stopped running turning (beginWaiting_idle (s := s.atRest) idle) quiet

/-- Off STOPPING a Governor with no park only loses its lock (R93). -/
theorem exec_stopped_steady (off : s.line.effective ≠ .stopping) (steady : s.gov.state ≠ .parking) :
    exec .stopped s = .next (transmit { s.atRest with gov := s.gov.stopped }) := by
  rw [exec_stopped_atRest running turning idle quiet, governorStopped_elsewhere (s := s.atRest) steady off]
  rfl

/-- An AT_ONCE stop with the drive held is reached (R153, R159). -/
theorem exec_stopped_atOnce (halted : s.gov.state = .halted) (stopping : s.line.effective = .stopping)
    (atOnce : s.line.stopKind = some .atOnce) :
    exec .stopped s = .next (transmit (reachStop .stopDone s.atRest)) := by
  have held : s.atRest.gov.state = .halted := halted
  rw [exec_stopped_atRest running turning idle quiet, governorStopped_steady (by simp [held]), Gov.stopped_halted held,
    lineStopped_atOnce (s := s.atRest) stopping atOnce]

variable (parking : s.gov.state = .parking)
include parking

section
variable (valid : s.shaft.angleValid = true) (inside : s.shaft.stop.insideActive = true)
include valid inside

theorem exec_stopped_parked :
    exec .stopped s = .next (transmit (lineStopped (parkDone (haltGov s.atRest)))) := by
  obtain ⟨-, -, -, -, -, same, -⟩ := s.shaft.stop_figures
  rw [exec_stopped_atRest running turning idle quiet,
    governorStopped_parked (s := s.atRest) parking (same.trans valid) inside]

/-- A park done off STOPPING is reported to nobody (R154; log 20). -/
theorem exec_stopped_parked_off (off : s.line.effective ≠ .stopping) :
    exec .stopped s = .next (transmit (haltGov s.atRest)) := by
  have ignored : parkDone (haltGov s.atRest) = haltGov s.atRest := if_neg off
  rw [exec_stopped_parked running turning idle quiet parking valid inside, ignored,
    lineStopped_elsewhere (s := haltGov s.atRest) fun h => off h.1]

/-- A park done ends the hold or fault stop it was for (R153, R159). -/
theorem exec_stopped_parked_ends (stopping : s.line.effective = .stopping)
    (purpose : s.line.stopPurpose = some .hold ∨ s.line.stopPurpose = some .fault) :
    exec .stopped s = .next (transmit (reachStop .stopDone (haltGov s.atRest))) := by
  have reported : parkDone (haltGov s.atRest) = reachStop .stopDone (haltGov s.atRest) := by
    refine (if_pos stopping).trans ?_
    rcases purpose with hold | fault
    · simp only [haltGov_line, State.atRest, monitorStopped_line, setShaft_line, hold]
    · simp only [haltGov_line, State.atRest, monitorStopped_line, setShaft_line, fault]
  have left := reachStop_leaves (x := haltGov s.atRest) stopping purpose .stopDone
  rw [exec_stopped_parked running turning idle quiet parking valid inside, reported,
    lineStopped_elsewhere fun h => left h.1]

/-- A park done for the stitch stream takes the line into FEEDING (R149). -/
theorem exec_stopped_parked_feeds (stopping : s.line.effective = .stopping)
    (purpose : s.line.stopPurpose = some .feed ∨ s.line.stopPurpose = some .endOfPanel)
    (step : s.line.resumeStep = .none) (bare : s.planner.headStitch = none)
    (unchanged : ∀ set ref, s.planner.head = some (.barChange set ref) → s.recordChangeInHand = false) :
    exec .stopped s = .next (transmit (setStep .none (setMode .feeding none none .stopDone (haltGov s.atRest)))) := by
  let y : State := setMode .feeding none none .stopDone (haltGov s.atRest)
  have line : y.line = s.line.inMode .feeding none none := setMode_line ..
  obtain ⟨bars, planner, -, -⟩ := (setMode_stop .feeding none none .stopDone (haltGov s.atRest)).beside
  have noStep : y.line.resumeStep = .none := by rw [line]; exact step
  have noStitch : y.planner.headStitch = none := by rw [planner]; exact bare
  have heads : takeStep y = setStep .none y := by
    rw [takeStep_none noStep, restoreStep, noStitch]
    have base : headStep y = headStepBase y := by
      unfold headStep
      split
      · rename_i set ref head
        have none : y.recordChangeInHand = false := by
          unfold State.recordChangeInHand
          rw [bars]
          exact unchanged set ref (by rw [← head, planner]; rfl)
        rw [if_neg (by simp [none])]
      · rfl
    exact base.trans (headStepBase_bare noStitch)
  have reported : parkDone (haltGov s.atRest) = setStep .none y := by
    rw [← heads]
    refine (if_pos stopping).trans ?_
    rcases purpose with feed | last
    · simp only [haltGov_line, State.atRest, monitorStopped_line, setShaft_line, feed]; rfl
    · simp only [haltGov_line, State.atRest, monitorStopped_line, setShaft_line, last]; rfl
  rw [exec_stopped_parked running turning idle quiet parking valid inside, reported, lineStopped_elsewhere]
  rw [setStep_line_effective, line]
  simp

end

variable (missed : s.shaft.angleValid = false ∨ s.shaft.stop.insideActive = false)
include missed

/-- A park that misses is tried again (R96). -/
theorem exec_stopped_retries (attempts : s.gov.attempts < 3) (kind : s.line.stopKind ≠ some .atOnce) :
    exec .stopped s = .next (transmit s.atRest.retried) := by
  rw [exec_stopped_atRest running turning idle quiet, governorStopped_retries (s := s.atRest) parking
    (missed_atRest missed) attempts]
  exact congrArg (fun t => Host.Outcome.next (transmit t))
    (lineStopped_elsewhere (s := s.atRest.retried) fun h => kind h.2)

/-- The third miss latches PARK, and the line ends FAULTED. -/
theorem exec_stopped_faults (attempts : 3 ≤ s.gov.attempts) :
    exec .stopped s = .next (transmit (lineStopped (latch .park none (haltGov s.atRest)))) := by
  rw [exec_stopped_atRest running turning idle quiet, governorStopped_faults (s := s.atRest) parking
    (missed_atRest missed) attempts]

end

end Sys2Proof.Machine
end

section
/-! PROOFS. The stopped shaft, settled (R73, R93, R96, R124, R127 to R129, R148, R149, R153, R159). -/

namespace Sys2Proof.Machine

theorem LineAfter.clauses {l : Line} {reaches : Prop} {t : State} (h : LineAfter l reaches t) :
    (¬ reaches → t.line = l) ∧ (reaches → l.stopPurpose = some .hold → t.line.effective = .holding)
      ∧ (reaches → l.stopPurpose = some .fault →
        t.line.effective = .faulted ∧ t.line.overlapPending = (l.overlapPending || l.faults.threadStop)) := by
  obtain ⟨stands, holds, faults⟩ := h
  exact ⟨stands, holds, faults⟩

/-- The line runs after the stopped event, the sequence at a step, as the order and the change leave it. -/
structure RunsAfter (s : State) (u : Bars) (p : Purpose) (c : List Nat) (r : ResumeStep) (t : State) : Prop where
  mode : t.line.effective = .running
  permission : t.line.permission = true
  bars : t.bars = u
  gov : s.gov.state = .halted → s.line.faults.atOnce = false → t.gov.state = .ramping ∧ t.gov.released = true
    ∧ t.gov.purpose = some p ∧ t.gov.replayCeilings = c
  step : t.line.resumeStep = r

theorem LineRuns.after {s y t : State} {p : Purpose} {c : List Nat} (h : LineRuns y p c t)
    (gov : y.gov.state = s.gov.state := by rfl) (faults : y.line.faults = s.line.faults := by rfl) :
    RunsAfter s y.bars p c y.line.resumeStep t := by
  obtain ⟨mode, permission, step, bars, -, orders⟩ := h
  rw [gov, faults] at orders
  exact ⟨mode, permission, bars, orders, step⟩

theorem RunsAfter.clauses {s t : State} {u : Bars} {p : Purpose} {c : List Nat} {r : ResumeStep}
    (h : RunsAfter s u p c r t) :
    (t.line.effective = .running ∧ t.line.permission = true ∧ t.bars = u
      ∧ (s.gov.state = .halted → s.line.faults.atOnce = false → t.gov.state = .ramping ∧ t.gov.released = true
        ∧ t.gov.purpose = some p ∧ t.gov.replayCeilings = c)) ∧ t.line.resumeStep = r := by
  obtain ⟨mode, permission, bars, gov, step⟩ := h
  exact ⟨⟨mode, permission, bars, gov⟩, step⟩

section
variable {s t : State} {m : Monitor} {g : Nat} {target : BarSet} (feeding : s.line.effective = .feeding)
include feeding

/-- What a record change ending in FEEDING makes of the head, with no step under way (R149). -/
theorem afterRecord_clauses (step : s.line.resumeStep = .none) (planner : t.planner = (removeHead s).planner)
    (next : t = (takeStep (s.handed m (s.endedBars .record target) (removeHead s).planner g)).settled) :
    (t.planner.headStitch = none → t.bars = s.endedBars .record target ∧ t.line = s.line ∧ t.motion = s.motion)
    ∧ ∀ (st : Stitch) (last : Bool), t.planner.headStitch = some (st, last) →
      ((∀ b, (s.judgedFor .record target b).heldAt (st.bars.mem b) = true) →
        RunsAfter s (s.endedBars .record target) .stitching [] .none t)
      ∧ ((¬ ∀ b, (s.judgedFor .record target b).heldAt (st.bars.mem b) = true) → 1 ≤ s.params.deadTime →
        t.line = { s.line with resumeStep := .restore } ∧ t.bars.change = some ⟨.restore, st.bars, false⟩
          ∧ t.motion = s.motion) := by
  let x : State := s.handed m (s.endedBars .record target) (removeHead s).planner g
  have bars : ∀ b, x.bars.get b = s.judgedFor .record target b := Bars.of_get _ _
  rw [planner, next]
  refine ⟨fun bare => takeStep_afterRecord_bare (x := x) ⟨feeding, rfl⟩ step bare, fun st last head => ⟨fun held => ?_,
    fun away lasts => ?_⟩⟩
  · exact (takeStep_afterRecord_held (x := x) feeding step head fun b => by rw [bars]; exact held b).after
  · exact takeStep_afterRecord_asks (x := x) s.shaft.stop_stopped lasts step head fun held => away fun b => by
      rw [← bars]; exact held b

/-- What a restore done in FEEDING makes of the step the sequence stands at (R128, R148). -/
theorem afterRestore_clauses
    (back : t = (restoreDone (s.handed m (s.endedBars .restore target) s.planner s.gov.demand)).settled) :
    (s.line.resumeStep = .none ∨ s.line.resumeStep = .backMove → t.bars = s.endedBars .restore target ∧ t.line = s.line)
    ∧ (∀ u : Burst, s.line.resumeStep = .frozen → s.motion.burst = some u →
      (u.source = .head → RunsAfter s (s.endedBars .restore target) .stitching [] .frozen t)
      ∧ (u.source = .replay → RunsAfter s (s.endedBars .restore target) .replay s.replayCeilings .frozen t
        ∧ t.monitor.suppress = s.params.grace))
    ∧ (s.line.resumeStep = .replay → RunsAfter s (s.endedBars .restore target) .replay s.replayCeilings .replay t
      ∧ t.monitor.suppress = s.params.grace)
    ∧ (s.line.resumeStep = .restore →
      (s.planner.headStitch ≠ none → RunsAfter s (s.endedBars .restore target) .stitching [] .none t)
      ∧ (s.planner.headStitch = none →
        t.bars = s.endedBars .restore target ∧ t.line = { s.line with resumeStep := .none })) := by
  let x : State := s.handed m (s.endedBars .restore target) s.planner s.gov.demand
  rw [back]
  refine ⟨fun step => ?_, fun u step burst => ?_, fun step => ?_, fun step => ?_⟩
  · rw [restoreDone_other (x := x) feeding step]
    exact ⟨rfl, rfl⟩
  · obtain ⟨head, replay⟩ := restoreDone_frozen (x := x) feeding step burst
    refine ⟨fun source => ?_, fun source => ⟨?_, ?_⟩⟩
    · rw [← step]; exact (head source).after
    · rw [← step]; exact (replay source).after
    · rw [(replay source).monitor]; rfl
  · have runs := restoreDone_replay (x := x) feeding step
    refine ⟨?_, by rw [runs.monitor]; rfl⟩
    rw [← step]; exact runs.after
  · obtain ⟨head, bare⟩ := restoreDone_restore (x := x) feeding step rfl
    exact ⟨fun stitch => (head stitch).after, bare⟩

end

/-- Settles O42: the stopped event with a change waiting for it, by what the change hands on, then without one, by the
Governor's state and the stop under way. -/
theorem stoppedShaftSettles : Obligations.StoppedShaftSettles := by
  refine ⟨fun s kind target running turning waits quiet => ?_, ?_⟩
  · intro judged complete ended held feeding stopping steady lineAfter atOnce runs
    refine ⟨fun moving parks => ?_, fun done steady stopping => ?_, fun done steady off => ?_⟩
    · obtain ⟨t, e, bars, change, planner, shaft, gov, line⟩ :=
        exec_stopped_incomplete running turning waits quiet moving parks
      exact ⟨t, e, bars, change, planner, shaft, gov, fun steady => (line steady).clauses⟩
    · by_cases record : kind = .record
      · obtain ⟨t, e, bars, shaft, planner, line⟩ :=
          exec_stopped_record_stopping running turning waits quiet record done steady stopping
        exact ⟨t, e, bars, shaft, fun other => absurd record other, fun _ => ⟨planner, line.clauses⟩⟩
      · obtain ⟨t, e, bars, shaft, planner, line⟩ :=
          exec_stopped_ends running turning waits quiet done steady stopping record
        exact ⟨t, e, bars, shaft, fun _ => ⟨planner, line.clauses⟩, fun same => absurd same record⟩
    · cases kind with
      | force b =>
        obtain ⟨t, e, ⟨shaft, store, halted⟩, planner, rest⟩ :=
          exec_stopped_force running turning waits quiet done steady off rfl
        exact ⟨t, e, shaft, store, halted, fun _ => rest, fun _ => planner, nofun, nofun⟩
      | restore =>
        obtain ⟨t, e, ⟨shaft, store, halted⟩, planner, away, m, back⟩ :=
          exec_stopped_restore running turning waits quiet done steady off rfl
        refine ⟨t, e, shaft, store, halted, ?_, fun _ => planner, nofun, fun _ feeding => ?_⟩
        · rintro (elsewhere | ⟨b, force⟩)
          · exact away elsewhere
          · cases force
        · obtain ⟨stays, frozen, replay, restore⟩ := afterRestore_clauses feeding (back feeding)
          refine ⟨stays, fun u step burst => ?_, fun step => ?_, fun step => ?_⟩
          · obtain ⟨head, again⟩ := frozen u step burst
            refine ⟨fun source => (head source).clauses, fun source => ?_⟩
            obtain ⟨runs, suppress⟩ := again source
            exact ⟨runs.clauses.1, runs.clauses.2, suppress⟩
          · obtain ⟨runs, suppress⟩ := replay step
            exact ⟨runs.clauses.1, runs.clauses.2, suppress⟩
          · obtain ⟨head, bare⟩ := restore step
            exact ⟨fun stitch => (head stitch).clauses, bare⟩
      | record =>
        obtain ⟨t, e, ⟨shaft, store, halted⟩, planner, away, m, g, next⟩ :=
          exec_stopped_record running turning waits quiet done steady off rfl
        refine ⟨t, e, shaft, store, halted, ?_, fun other => absurd rfl other, fun _ => ⟨planner, ?_⟩, nofun⟩
        · rintro (elsewhere | ⟨b, force⟩)
          · exact away elsewhere
          · cases force
        · intro feeding step _
          obtain ⟨bare, stitch⟩ := afterRecord_clauses feeding step planner (next feeding)
          refine ⟨bare, fun st last head => ?_⟩
          obtain ⟨held, asks⟩ := stitch st last head
          exact ⟨fun stands => (held stands).clauses, asks⟩
  · intro s running turning idle quiet h m inPlace
    obtain ⟨period, speed, revStart, clean, position, -, pending⟩ := s.shaft.stop_figures
    refine ⟨⟨s.shaft.stop_stopped, period, speed, revStart, clean, position, s.shaft.stop_active, pending,
      Shaft.stop_window⟩, fun off halted => ?_, fun off turns => ?_, fun inside off => ?_,
        fun inside stopping kind => ?_,
      fun inside stopping purpose _ step bare unchanged => ?_, fun halted stopping atOnce => ?_,
      fun parking missed attempts _ _ kind => ?_, fun parking missed attempts new stopping => ?_⟩
    · rw [exec_stopped_steady running turning idle quiet off (by simp [halted]), Gov.stopped_halted halted]
      rfl
    · have steady : s.gov.state ≠ .parking ∧ s.gov.state ≠ .halted := by rcases turns with e | e <;> simp [e]
      rw [exec_stopped_steady running turning idle quiet off steady.1, Gov.stopped, if_neg steady.2]
      rfl
    · obtain ⟨parking, valid, inside⟩ := inside
      exact ⟨_, exec_stopped_parked_off running turning idle quiet parking valid inside off, ⟨rfl, rfl, rfl, rfl, rfl⟩,
        rfl, rfl, rfl, rfl, rfl⟩
    · obtain ⟨parking, valid, inside⟩ := inside
      intro ended
      have ends := exec_stopped_parked_ends running turning idle quiet parking valid inside stopping
      refine ⟨fun hold => ?_, fun fault => ?_⟩
      · rw [reachStop_hold_reached (s := haltGov s.atRest) stopping hold] at ends
        exact ⟨_, ends (.inl hold), ⟨rfl, rfl, rfl, rfl, rfl⟩, rfl, rfl, (raiseNotice_notified ..).transmit, rfl, rfl,
          rfl, rfl⟩
      · rw [reachStop_fault_reached (s := haltGov s.atRest) stopping fault] at ends
        exact ⟨_, ends (.inr fault), ⟨rfl, rfl, rfl, rfl, rfl⟩, rfl, rfl, (raiseNotice_notified ..).transmit, rfl, rfl,
          rfl, rfl⟩
    · obtain ⟨parking, valid, inside⟩ := inside
      obtain ⟨gov, ⟨mode, stop, kind, permission, step', count, handed⟩, shaft, planner, bars⟩ :=
        parkFeeds_state (s := haltGov s.atRest) stopping
      have feeds := exec_stopped_parked_feeds running turning idle quiet parking valid inside stopping purpose step bare
        unchanged
      exact ⟨_, feeds,
        by rw [transmit_gov, gov]; exact ⟨rfl, rfl, rfl, rfl, rfl⟩, mode, stop, kind, permission, step', count, handed,
          shaft, planner, bars⟩
    · intro reached
      have ends := exec_stopped_atOnce running turning idle quiet halted stopping atOnce
      refine ⟨fun hold => ?_, fun fault => ?_⟩
      · rw [ends, reachStop_hold_reached (s := s.atRest) stopping hold, State.reached, transmit_raiseNotice]
        rfl
      · rw [ends, reachStop_fault_reached (s := s.atRest) stopping fault, State.reached, transmit_raiseNotice]
        rfl
    · exact ⟨_, exec_stopped_retries running turning idle quiet parking missed attempts kind, parking, rfl, rfl, rfl,
        rfl, rfl, rfl, rfl, rfl⟩
    · obtain ⟨gov, has, faulted, overlap⟩ := latch_faulted (x := haltGov s.atRest) (src := .park) new rfl (by decide)
        s.shaft.stop_stopped stopping
      exact ⟨_, exec_stopped_faults running turning idle quiet parking missed attempts, gov, has, faulted, overlap⟩

end Sys2Proof.Machine
end

section
/-! PROOFS. The demand (R86 to R90) and the lock (R92, R93): the demand is the greatest speed that no term forbids, and an
index judges the closing revolution before the applied demand takes the new one. -/

namespace Sys2Proof.Machine

/-! ## The duty (R84) -/

/-- The quotient of R84 is the nearest one, a half rounded up. -/
theorem dutyOf_nearest {applied lineMax d : Nat} (le : applied ≤ lineMax)
    (low : 2 * lineMax * d ≤ 2000 * applied + lineMax) (high : 2000 * applied < 2 * lineMax * d + lineMax) :
    dutyOf applied lineMax = d := by
  have quotient : (2 * applied * 1000 + lineMax) / (2 * lineMax) = d := by
    refine Nat.div_eq_of_lt_le ?_ ?_
    · calc d * (2 * lineMax) = 2 * lineMax * d := by ring
        _ ≤ 2 * applied * 1000 + lineMax := by omega
    · calc 2 * applied * 1000 + lineMax < 2 * lineMax * d + 2 * lineMax := by omega
        _ = (d + 1) * (2 * lineMax) := by ring
  have clamped : d ≤ 1000 := by
    by_contra above
    have : 2 * lineMax * 1001 ≤ 2 * lineMax * d := Nat.mul_le_mul_left _ (by omega)
    omega
  rw [dutyOf, quotient, min_eq_right clamped]

theorem dutyOf_clamped {applied lineMax : Nat} (positive : 1 ≤ lineMax) (ge : lineMax ≤ applied) :
    dutyOf applied lineMax = 1000 := by
  refine min_eq_left ((Nat.le_div_iff_mul_le (by omega)).2 ?_)
  omega

/-- Settles O43, by the uniqueness of the nearest quotient. -/
theorem dutyIsNearestPerMille : Obligations.DutyIsNearestPerMille := by
  intro s d running positive
  have period : exec .demandPwmPeriod s =
      .next (transmit { s with gov := { s.gov with pwmDuty := dutyOf s.gov.applied s.params.lineMax } }) := by
    simp only [exec, execDemandPwmPeriod, finish_eq, live_running _ s running]
  refine ⟨fun le low high => ?_, fun ge => ?_⟩
  · rw [period, dutyOf_nearest le low high]
  · rw [period, dutyOf_clamped positive ge]

/-! ## The limit (R87) -/

theorem le_leastOf_iff {v base : Nat} {xs : List Nat} : v ≤ leastOf base xs ↔ v ≤ base ∧ ∀ x ∈ xs, v ≤ x := by
  unfold leastOf
  induction xs generalizing base with
  | nil => simp
  | cons x xs ih => simp [ih, and_assoc]

/-- The stitch records are the ones that are not stop-type (R39). -/
theorem PlanRecord.stitch?_eq_none {r : PlanRecord} : r.stitch? = none ↔ r.isStop = true := by
  cases r <;> simp [PlanRecord.stitch?, PlanRecord.isStop]

/-- The ceilings R87 speaks of: those of the stitch records with no stop-type record before them. -/
theorem mem_ceilingsAhead {q : List PlanRecord} {c : Nat} :
    c ∈ ceilingsAhead q ↔ ∃ (i : Nat) (r : PlanRecord) (t : Stitch) (last : Bool), q[i]? = some r
      ∧ r.stitch? = some (t, last) ∧ (∀ j < i, ∀ p, q[j]? = some p → p.isStop = false) ∧ c = t.ceiling := by
  induction q with
  | nil => simp [ceilingsAhead]
  | cons r q ih =>
    cases e : r.stitch? with
    | none =>
      have stop := PlanRecord.stitch?_eq_none.1 e
      simp only [ceilingsAhead, e, List.not_mem_nil, false_iff]
      rintro ⟨i, p, t, last, at_i, stitch, ahead, -⟩
      cases i with
      | zero => simp_all
      | succ i => simpa [stop] using ahead 0 (by omega) r rfl
    | some st =>
      obtain ⟨t, last⟩ := st
      have going : r.isStop = false := by
        rw [← Bool.not_eq_true, ← PlanRecord.stitch?_eq_none, e]; simp
      simp only [ceilingsAhead, e, List.mem_cons, ih]
      constructor
      · rintro (rfl | ⟨i, p, u, l, at_i, stitch, ahead, rfl⟩)
        · exact ⟨0, r, t, last, rfl, e, by simp, rfl⟩
        · refine ⟨i + 1, p, u, l, at_i, stitch, fun j hj x hx => ?_, rfl⟩
          cases j with
          | zero => cases hx; exact going
          | succ j => exact ahead j (by omega) x hx
      · rintro ⟨i, p, u, l, at_i, stitch, ahead, rfl⟩
        cases i with
        | zero => cases at_i; rw [e] at stitch; cases stitch; exact .inl rfl
        | succ i => exact .inr ⟨i, p, u, l, at_i, stitch, fun j hj x hx => ahead (j + 1) (by omega) x hx, rfl⟩

/-- A speed that exceeds no term of the limit (R87). -/
def State.limited (s : State) (v : Nat) : Prop :=
  v ≤ s.params.lineMax
    ∧ (∀ o, s.schedule.activeOrder = some o → v ≤ o.spec.speedLimit)
    ∧ (∀ c, s.planner.cursor = some c → c.cap ≠ 0 → v ≤ c.cap)
    ∧ ∀ (i : Nat) (r : PlanRecord) (t : Stitch) (last : Bool), s.planner.queue[i]? = some r →
        r.stitch? = some (t, last) → (∀ j < i, ∀ q, s.planner.queue[j]? = some q → q.isStop = false) → v ≤ t.ceiling

theorem le_limitOf_iff {s : State} {v : Nat} : v ≤ limitOf s ↔ s.limited v := by
  rw [limitOf, le_leastOf_iff, List.forall_mem_append, List.forall_mem_append, and_assoc]
  refine and_congr .rfl (and_congr ?order (and_congr ?cap ?ceilings))
  case order => cases s.schedule.activeOrder <;> simp
  case cap =>
    cases s.planner.cursor with
    | none => simp
    | some c => by_cases zero : c.cap = 0 <;> simp [zero]
  case ceilings =>
    refine ⟨fun h i r t last at_i stitch ahead => h _ (mem_ceilingsAhead.2 ⟨i, r, t, last, at_i, stitch, ahead, rfl⟩),
      fun h x hx => ?_⟩
    obtain ⟨i, r, t, last, at_i, stitch, ahead, rfl⟩ := mem_ceilingsAhead.1 hx
    exact h i r t last at_i stitch ahead

/-! ## The stop ahead (R88) -/

/-- One of the first decel_depth positions ahead of the needles is empty or holds a stop-type record (R88). -/
def State.stopComing (s : State) : Prop :=
  ∃ i < s.params.decelDepth, s.gov.replayCeilings.length ≤ i
    ∧ ∀ r, s.planner.queue[i - s.gov.replayCeilings.length]? = some r → r.isStop = true

theorem stopAhead_iff {s : State} : stopAhead s = true ↔ s.stopComing := by
  have position : ∀ o : Option PlanRecord, (o.map PlanRecord.isStop).getD true = true ↔ ∀ r, o = some r → r.isStop = true :=
    fun o => by cases o <;> simp
  simp [stopAhead, State.stopComing, position]

/-! ## The demand (R86 to R88) -/

theorem demandOf_zero {s : State} (h : s.gov.state = .halted ∨ s.line.faults.atOnce = true) : demandOf s = 0 :=
  if_pos h

/-- A base slowed for a coming stop (R88). -/
theorem le_slowed_iff {s : State} {v base : Nat} :
    v ≤ (if stopAhead s then min (min base (limitOf s)) s.params.creep else min base (limitOf s)) ↔
      v ≤ base ∧ s.limited v ∧ (s.stopComing → v ≤ s.params.creep) := by
  rw [← le_limitOf_iff, ← stopAhead_iff]
  split <;> simp [*]

section
variable {s : State} {v : Nat} (driven : s.gov.state ≠ .halted) (free : s.line.faults.atOnce = false)
include driven free

theorem le_demandOf_stitching (h : s.gov.purpose = some .stitching) :
    v ≤ demandOf s ↔ s.limited v ∧ (s.stopComing → v ≤ s.params.creep) := by
  have demand : demandOf s = _ := if_neg (by simp [driven, free])
  simp only [demand, h, le_slowed_iff, le_limitOf_iff]
  tauto

theorem le_demandOf_replay (h : s.gov.purpose = some .replay) :
    v ≤ demandOf s ↔ s.limited v ∧ (s.stopComing → v ≤ s.params.creep) ∧ v ≤ s.params.resumeSpeed
      ∧ ∀ c ∈ s.gov.replayCeilings, v ≤ c := by
  have demand : demandOf s = _ := if_neg (by simp [driven, free])
  simp only [demand, h, le_slowed_iff, le_leastOf_iff]
  tauto

theorem le_demandOf_creeping (h : s.gov.purpose = some .jog ∨ s.gov.purpose = some .park) :
    v ≤ demandOf s ↔ s.limited v ∧ v ≤ s.params.creep := by
  have demand : demandOf s = _ := if_neg (by simp [driven, free])
  rcases h with h | h <;> simp only [demand, h, le_min_iff, le_limitOf_iff, and_comm]

end

/-- What R86 to R88 compute never exceeds the limit. -/
theorem demandOf_le_limitOf (s : State) : demandOf s ≤ limitOf s := by
  unfold demandOf
  extract_lets limit slowed
  have le : ∀ base, slowed base ≤ limitOf s := fun base => by
    unfold slowed
    split <;> simp [limit]
  split
  · exact Nat.zero_le _
  · split
    · exact le _
    · exact le _
    · exact min_le_right _ _
    · exact min_le_right _ _
    · exact Nat.zero_le _

/-- The demand does not depend on the figure held before. -/
@[simp] theorem demandOf_recompute (s : State) : demandOf (recompute s) = demandOf s := rfl

/-! ## Computed anew (R89, R90) -/

theorem removeHead_gov (s : State) : (removeHead s).gov = { s.gov with demand := demandOf (removeHead s) } := by
  obtain ⟨more, c, appended, -, -⟩ :=
    appendRecord_frame { s with planner := { s.planner with queue := s.planner.queue.tail, headBegun := false } }
  rw [removeHead, demandOf_recompute]
  simp only [recompute, appended]

theorem handToPlanner_gov (o : OrderSpec) (s : State) :
    (handToPlanner o s).gov = { s.gov with demand := demandOf (handToPlanner o s) } := by
  obtain ⟨p, appended⟩ := appendRecords_frame Config.queueCapacity
    { s with planner := { s.planner with cursor := some (Cursor.start o (s.store.slot o.slot)), headBegun := false } }
  rw [handToPlanner, demandOf_recompute]
  simp only [recompute, appended]

section
variable (p : Purpose) (ceilings : List Nat) {s : State} (free : s.line.faults.atOnce = false)
include free

/-- A start order to a drive that is HALTED, or held by the brake of a park (R90, R97): released at once. -/
theorem startOrder_released (held : s.gov.state = .halted ∨ s.gov.state = .parking ∧ s.gov.released = false) :
    startOrder p ceilings s = releaseDrive { s with gov := { s.gov with
      state := .ramping, purpose := some p, replayCeilings := ceilings, armed := false, braked := false } } := by
  rcases held with h | ⟨h, held⟩ <;> simp [startOrder, *]

/-- A start order to a drive that turns (R90, R97): RAMPING and LOCKED stand, a park is cancelled. -/
theorem startOrder_turning (turning : s.gov.state = .ramping ∨ s.gov.state = .locked
      ∨ s.gov.state = .parking ∧ s.gov.released = true) :
    startOrder p ceilings s = recompute { s with gov := { s.gov with
      state := if s.gov.state = .parking then .ramping else s.gov.state
      purpose := some p, replayCeilings := ceilings, armed := false, braked := false } } := by
  rcases turning with h | h | ⟨h, turning⟩ <;> simp [startOrder, *]

end

/-- The demand of a start order is that of the purpose it gives (R90, R97). -/
theorem startOrder_computed (p : Purpose) (ceilings : List Nat) {s : State} (free : s.line.faults.atOnce = false) :
    let t := startOrder p ceilings s
    t.gov.purpose = some p ∧ t.gov.replayCeilings = ceilings ∧ t.gov.demand = demandOf t ∧ t.gov.armed = false := by
  intro t
  by_cases held : s.gov.state = .halted ∨ s.gov.state = .parking ∧ s.gov.released = false
  · simp only [t, startOrder_released p ceilings free held]
    exact ⟨rfl, rfl, rfl, rfl⟩
  · have turning : s.gov.state = .ramping ∨ s.gov.state = .locked ∨ s.gov.state = .parking ∧ s.gov.released = true := by
      cases e : s.gov.state <;> simp_all
    simp only [t, startOrder_turning p ceilings free turning]
    exact ⟨rfl, rfl, rfl, rfl⟩

/-! ## The lock (R92, R93) -/

/-- Arming a park attempt (R95) writes the armed flag alone. -/
theorem armPark_armed (s : State) : ∃ a, (armPark s).gov = { s.gov with armed := a } := by
  unfold armPark
  split
  · exact ⟨_, rfl⟩
  · exact ⟨s.gov.armed, rfl⟩

section
variable {s : State}

theorem judgeLock_near (near : mag ((s.shaft.speed : Int) - s.gov.applied) ≤ s.params.lockTol) :
    judgeLock s = { s with gov := { s.gov with
      inTol := min 3 (s.gov.inTol + 1), outTol := 0, settled := min 3 (s.gov.settled + 1)
      armCount := min 3 (s.gov.armCount + 1)
      state := if s.gov.state = .ramping ∧ 2 ≤ s.gov.inTol then .locked else s.gov.state } } := by
  have third : min 3 (s.gov.inTol + 1) = 3 ↔ 2 ≤ s.gov.inTol := by omega
  simp only [judgeLock, near, if_true, third]

theorem judgeLock_far (far : ¬ mag ((s.shaft.speed : Int) - s.gov.applied) ≤ s.params.lockTol) :
    judgeLock s = { s with gov := { s.gov with
      inTol := 0, outTol := min 2 (s.gov.outTol + 1), settled := 0, armCount := 0
      state := if s.gov.state = .locked ∧ 1 ≤ s.gov.outTol then .ramping else s.gov.state } } := by
  have second : min 2 (s.gov.outTol + 1) = 2 ↔ 1 ≤ s.gov.outTol := by omega
  simp only [judgeLock, far, if_false, second]

@[simp] theorem judgeLock_released (s : State) : (judgeLock s).gov.released = s.gov.released := by
  unfold judgeLock; dsimp only; split <;> rfl

theorem applyDemand_moved (moved : s.params.lockTol < mag ((s.gov.demand : Int) - s.gov.applied)) :
    applyDemand s = { s with gov := { s.gov with
      applied := s.gov.demand, inTol := 0, outTol := 0, settled := 0, armCount := 0
      state := if s.gov.state = .locked then .ramping else s.gov.state } } := by
  simp only [applyDemand, moved, if_true]

theorem applyDemand_steady (steady : ¬ s.params.lockTol < mag ((s.gov.demand : Int) - s.gov.applied)) :
    applyDemand s = { s with gov := { s.gov with
      applied := s.gov.demand, settled := if s.gov.demand = s.gov.applied then s.gov.settled else 0 } } := by
  simp only [applyDemand, steady, if_false]

theorem indexGov_held (measured : Bool) (held : s.gov.released = false) : indexGov measured s = recompute s := by
  simp [indexGov, recompute, held]

variable (released : s.gov.released = true)
include released

/-- An index at a released drive, in its order: the judgement, the demand applied, the arming of a park (R92, R93, R95). -/
theorem indexGov_released (measured : Bool) : ∃ a, (indexGov measured s).gov =
    { (applyDemand (if measured then judgeLock (recompute s) else recompute s)).gov with armed := a } := by
  rw [show indexGov measured s = armPark _ from if_pos released]
  exact armPark_armed _

/-- A demand moved by more than lock_tol restarts the lock, whatever the revolution was (R93). -/
theorem indexGov_moved (moved : s.params.lockTol < mag ((demandOf s : Int) - s.gov.applied)) :
    ∃ a, (indexGov true s).gov = { s.gov with
      demand := demandOf s, applied := demandOf s, inTol := 0, outTol := 0, settled := 0, armCount := 0, armed := a
      state := if s.gov.state = .locked then .ramping else s.gov.state } := by
  obtain ⟨a, gov⟩ := indexGov_released released true
  refine ⟨a, gov.trans ?_⟩
  rw [if_pos rfl]
  by_cases near : mag ((s.shaft.speed : Int) - s.gov.applied) ≤ s.params.lockTol
  · rw [judgeLock_near (s := recompute s) near, applyDemand_moved]
    · cases e : s.gov.state <;> simp [recompute, e]
    · exact moved
  · rw [judgeLock_far (s := recompute s) near, applyDemand_moved]
    · cases e : s.gov.state <;> simp [recompute, e]
    · exact moved

section
variable (steady : ¬ s.params.lockTol < mag ((demandOf s : Int) - s.gov.applied))
include steady

/-- A revolution in tolerance, the third of which locks (R92). -/
theorem indexGov_near (near : mag ((s.shaft.speed : Int) - s.gov.applied) ≤ s.params.lockTol) :
    ∃ a n, (indexGov true s).gov = { s.gov with
      demand := demandOf s, applied := demandOf s, inTol := min 3 (s.gov.inTol + 1), outTol := 0, settled := n
      armCount := min 3 (s.gov.armCount + 1), armed := a
      state := if s.gov.state = .ramping ∧ 2 ≤ s.gov.inTol then .locked else s.gov.state } := by
  obtain ⟨a, gov⟩ := indexGov_released released true
  rw [if_pos rfl, judgeLock_near (s := recompute s) near, applyDemand_steady] at gov
  · exact ⟨a, _, gov⟩
  · exact steady

/-- A revolution out of tolerance, the second of which unlocks (R92). -/
theorem indexGov_far (far : ¬ mag ((s.shaft.speed : Int) - s.gov.applied) ≤ s.params.lockTol) :
    ∃ a n, (indexGov true s).gov = { s.gov with
      demand := demandOf s, applied := demandOf s, inTol := 0, outTol := min 2 (s.gov.outTol + 1), settled := n
      armCount := 0, armed := a
      state := if s.gov.state = .locked ∧ 1 ≤ s.gov.outTol then .ramping else s.gov.state } := by
  obtain ⟨a, gov⟩ := indexGov_released released true
  rw [if_pos rfl, judgeLock_far (s := recompute s) far, applyDemand_steady] at gov
  · exact ⟨a, _, gov⟩
  · exact steady

/-- An index with no new period judges nothing (R92). -/
theorem indexGov_unmeasured : ∃ a n, (indexGov false s).gov = { s.gov with
    demand := demandOf s, applied := demandOf s, settled := n, armed := a } := by
  obtain ⟨a, gov⟩ := indexGov_released released false
  rw [if_neg Bool.false_ne_true, applyDemand_steady] at gov
  · exact ⟨a, _, gov⟩
  · exact steady

end

end

/-- Settles O45: the index judges the revolution against the applied demand it had, then the change of that demand. -/
theorem lockJudgedByRevolutions : Obligations.LockJudgedByRevolutions := by
  intro s t near moved
  refine ⟨indexGov_held true, fun released => ?_, fun steady => ?_⟩
  · by_cases change : moved
    · obtain ⟨a, gov⟩ := indexGov_moved released change
      rw [gov]
      refine ⟨rfl, rfl, released, fun _ => ⟨rfl, rfl, ?_⟩, fun h => absurd change h, fun h => absurd change h, ?_⟩
      · rintro (h | h) <;> simp [h]
      · intro h; simp [h]
    by_cases close : near
    · obtain ⟨a, n, gov⟩ := indexGov_near released change close
      rw [gov]
      refine ⟨rfl, rfl, released, fun h => absurd h change, fun _ _ => ⟨rfl, rfl, ?_, ?_⟩,
        fun _ h => absurd close h, ?_⟩ <;> intro h <;> simp [h]
    · obtain ⟨a, n, gov⟩ := indexGov_far released change close
      rw [gov]
      refine ⟨rfl, rfl, released, fun h => absurd h change, fun _ h => absurd h close, fun _ _ => ⟨rfl, rfl, ?_, ?_⟩,
        ?_⟩ <;> intro h <;> simp [h]
  · cases held : s.gov.released with
    | false => rw [indexGov_held false held]; exact ⟨rfl, rfl, rfl⟩
    | true =>
      obtain ⟨a, n, gov⟩ := indexGov_unmeasured held steady
      rw [gov]
      exact ⟨rfl, rfl, rfl⟩

end Sys2Proof.Machine
end

section
/-! PROOFS. What every operation of the part keeps of the Speed Governor: its shape (R84 to R86, R92, R96) and the bound
on the demand it holds (R87, R98). Here the Governor's own operations, the schedule's, and a stop. -/

namespace Sys2Proof.Machine

/- One proof is checked at a time: of a long chain of lemmas that cite each other, those that wait for the one before hold
more threads than the memory limit gives. -/
set_option Elab.async false

/-! ## What is kept -/

/-- The Governor's shape and the bound on its demand go over from one state to a later one. -/
structure Governs (s t : State) : Prop where
  shape : GovShape s.gov → GovShape t.gov
  bound : DemandShape s → DemandShape t

/-- What the two invariants read of a state. -/
def State.driveView (s : State) : Gov × Nat × Bool := (s.gov, limitOf s, s.line.faults.atOnce)

theorem Governs.refl (s : State) : Governs s s := ⟨id, id⟩

theorem Governs.trans {s t u : State} (h : Governs s t) (k : Governs t u) : Governs s u :=
  ⟨k.shape ∘ h.shape, k.bound ∘ h.bound⟩

/-- A change of nothing the invariants read. -/
theorem Governs.same {s t u : State} (h : Governs s t) (view : u.driveView = t.driveView := by rfl) : Governs s u := by
  obtain ⟨gov, rest⟩ := Prod.mk.inj view
  obtain ⟨limit, atOnce⟩ := Prod.mk.inj rest
  refine h.trans ⟨fun shape => by rw [gov]; exact shape, fun bound => ?_⟩
  obtain ⟨le, zero⟩ := bound
  exact ⟨by rw [gov, limit]; exact le, by rw [gov, atOnce]; exact zero⟩

/-- A demand computed as things stand is within its bound whatever has changed (R87, R98). -/
theorem demandShape_of_computed {t : State} (h : t.gov.demand = demandOf t) : DemandShape t :=
  ⟨h ▸ demandOf_le_limitOf t, fun atOnce => h ▸ demandOf_zero (.inr atOnce)⟩

theorem demandShape_of_zero {t : State} (h : t.gov.demand = 0) : DemandShape t :=
  ⟨h ▸ Nat.zero_le _, fun _ => h⟩

/-- Changes beside the Governor that end in a computed demand (R89). -/
theorem Governs.computed {s t : State} (gov : t.gov = { s.gov with demand := demandOf t }) : Governs s t := by
  refine ⟨fun shape => ?_, fun _ => demandShape_of_computed (by rw [gov])⟩
  have halted : s.gov.state = .halted → demandOf t = 0 := fun h => demandOf_zero (.inl (by rw [gov]; exact h))
  rw [gov]
  obtain ⟨held, rests, shape⟩ := shape
  exact ⟨held, fun h => ⟨(rests h).1, (rests h).2.1, halted h⟩, shape⟩

/-! ## The Governor's own operations -/

/-- An operation of the Governor alone that leaves its demand, computes it, or makes it 0. -/
theorem SameButGov.governs {s t : State} (h : SameButGov s t) (shape : GovShape s.gov → GovShape t.gov)
    (demand : t.gov.demand = s.gov.demand ∨ t.gov.demand = demandOf t ∨ t.gov.demand = 0) : Governs s t := by
  obtain ⟨g, rfl⟩ := h
  refine ⟨shape, fun bound => ?_⟩
  rcases demand with kept | computed | zero
  · obtain ⟨le, atOnce⟩ := bound
    exact ⟨kept.trans_le le, fun h => kept.trans (atOnce h)⟩
  · exact demandShape_of_computed computed
  · exact demandShape_of_zero zero

section
variable {s t : State} (h : Governs s t)
include h

theorem Governs.recompute : Governs s (recompute t) := h.trans (.computed rfl)

theorem Governs.haltGov : Governs s (haltGov t) := by
  refine h.trans ((haltGov_gov t).governs ?_ (.inr (.inr rfl)))
  simp [GovShape]

theorem Governs.stopAtOnce : Governs s (stopAtOnce t) := by
  refine h.trans ((stopAtOnce_gov t).governs ?_ (.inr (.inr rfl)))
  simp [GovShape]

/-- A start order carries ceilings for a replay only (R90, R99). -/
theorem Governs.startOrder {p : Purpose} {c : List Nat} (turns : p = .stitching ∧ c = [] ∨ p = .replay) :
    Governs s (startOrder p c t) := by
  refine h.trans ?_
  by_cases free : t.line.faults.atOnce = false
  · refine (startOrder_gov p c t).governs (fun shape => ?_) (.inr (.inl (startOrder_computed p c free).2.2.1))
    by_cases held : t.gov.state = .halted ∨ t.gov.state = .parking ∧ t.gov.released = false
    · rw [startOrder_released p c free held]
      grind -ring -linarith [releaseDrive, Machine.recompute]
    · rw [startOrder_turning p c free (by cases e : t.gov.state <;> simp_all)]
      grind -ring -linarith [Machine.recompute]
  · rw [show Machine.startOrder p c t = t from if_pos (by simpa using free)]
    exact .refl t

theorem Governs.jogBegin : Governs s (jogBegin t) := by
  refine h.trans ((jogBegin_gov t).governs ?_ ?_)
  · unfold Machine.jogBegin
    split
    · exact id
    · grind -ring -linarith [releaseDrive, Machine.recompute]
  · unfold Machine.jogBegin
    split
    · exact .inl rfl
    · exact .inr (.inl rfl)

theorem Governs.jogEnd : Governs s (jogEnd t) := by
  unfold Machine.jogEnd
  split
  · exact h.haltGov
  · exact h

theorem Governs.parkOrder : Governs s (parkOrder t).1 := by
  refine h.trans ((parkOrder_gov t).governs (fun shape => ?_) ?_) <;> unfold Machine.parkOrder
  · split
    · exact shape
    split
    · exact shape
    split
    · split
      · grind -ring -linarith
      · grind -ring -linarith [releaseDrive, Machine.recompute]
    · have turning : t.gov.state = .ramping ∨ t.gov.state = .locked := by cases e : t.gov.state <;> simp_all
      grind -ring -linarith [Machine.recompute]
  · split
    · exact .inl rfl
    split
    · exact .inl rfl
    split
    · split
      · exact .inl rfl
      · exact .inr (.inl rfl)
    · exact .inr (.inl rfl)

theorem Governs.stopAngleGov : Governs s (stopAngleGov t) := by
  unfold Machine.stopAngleGov
  split
  · refine h.trans (SameButGov.governs ⟨_, rfl⟩ (fun shape => ?_) (.inl rfl))
    grind -ring -linarith
  · exact h

theorem Governs.stoppedGov : Governs s (stoppedGov t).1 := by
  unfold Machine.stoppedGov
  split
  · exact h
  · split
    · exact h.haltGov
    · split
      · refine h.trans (SameButGov.governs ⟨_, rfl⟩ (fun shape => ?_) (.inr (.inl rfl)))
        grind -ring -linarith [releaseDrive, Machine.recompute]
      · exact h.haltGov
  · have turning : t.gov.state = .ramping ∨ t.gov.state = .locked := by cases e : t.gov.state <;> simp_all
    refine h.trans (SameButGov.governs ⟨_, rfl⟩ (fun shape => ?_) (.inl rfl))
    grind -ring -linarith

/-- Ceilings are left only where some were before, and with the last one REPLAY gives way (R99). -/
theorem Governs.replayFormed : Governs s (replayFormed t) := by
  refine Governs.recompute (h.trans (SameButGov.governs ⟨_, rfl⟩ (fun shape => ?_) (.inl rfl)))
  have left : t.gov.replayCeilings.tail ≠ [] → t.gov.replayCeilings ≠ [] := fun h e => h (by rw [e]; rfl)
  grind -ring -linarith

/-! ### An index (R92, R93, R95) -/

theorem Governs.judgeLock : Governs s (judgeLock t) := by
  by_cases near : mag ((t.shaft.speed : Int) - t.gov.applied) ≤ t.params.lockTol
  · rw [judgeLock_near near]
    refine h.trans (SameButGov.governs ⟨_, rfl⟩ (fun shape => ?_) (.inl rfl))
    grind -ring -linarith
  · rw [judgeLock_far near]
    refine h.trans (SameButGov.governs ⟨_, rfl⟩ (fun shape => ?_) (.inl rfl))
    grind -ring -linarith

/-- Only a released drive takes an applied demand (R84, R89). -/
theorem Governs.applyDemand (released : t.gov.released = true) : Governs s (applyDemand t) := by
  by_cases moved : t.params.lockTol < mag ((t.gov.demand : Int) - t.gov.applied)
  · rw [applyDemand_moved moved]
    refine h.trans (SameButGov.governs ⟨_, rfl⟩ (fun shape => ?_) (.inl rfl))
    grind -ring -linarith
  · rw [applyDemand_steady moved]
    refine h.trans (SameButGov.governs ⟨_, rfl⟩ (fun shape => ?_) (.inl rfl))
    grind -ring -linarith

theorem Governs.armPark : Governs s (armPark t) := by
  unfold Machine.armPark
  split
  · refine h.trans (SameButGov.governs ⟨_, rfl⟩ (fun shape => ?_) (.inl rfl))
    grind -ring -linarith
  · exact h

theorem Governs.indexGov {measured : Bool} : Governs s (indexGov measured t) := by
  cases released : t.gov.released with
  | false => rw [indexGov_held measured released]; exact h.recompute
  | true =>
    rw [show Machine.indexGov measured t = Machine.armPark _ from if_pos released]
    split
    · have judged : (Machine.judgeLock (Machine.recompute t)).gov.released = true := by
        rw [judgeLock_released]; exact released
      exact (h.recompute.judgeLock.applyDemand judged).armPark
    · exact (h.recompute.applyDemand released).armPark

end

/-! ## The schedule and the Plan Queue -/

theorem SameButBars.driveView {s t : State} : SameButBars s t → t.driveView = s.driveView := by
  rintro ⟨_, _, rfl⟩; rfl

/-- The limit reads line_max, the ACTIVE order's speed limit, the cursor and the queue (R87). -/
theorem limitOf_congr {s t : State} (params : t.params = s.params) (planner : t.planner = s.planner)
    (order : t.schedule.activeOrder.map Order.spec = s.schedule.activeOrder.map Order.spec) :
    limitOf t = limitOf s := by
  unfold limitOf
  rw [params, planner]
  cases a : t.schedule.activeOrder <;> cases b : s.schedule.activeOrder <;> simp_all

/-- New figures for the ACTIVE order leave its speed limit. -/
theorem setActive_driveView {f : Order → Order} (keeps : ∀ o, (f o).spec = o.spec ∧ (f o).state = o.state) (s : State) :
    (setActive f s).driveView = s.driveView := by
  have figures : ∀ o : Order, (if o.state = .active then f o else o).spec = o.spec
      ∧ (if o.state = .active then f o else o).state = o.state := fun o => by
    split
    · exact keeps o
    · exact ⟨rfl, rfl⟩
  have limit : limitOf (setActive f s) = limitOf s := by
    refine limitOf_congr rfl rfl ?_
    simp only [Schedule.activeOrder, setActive_schedule_orders, List.find?_map, Option.map_map, Function.comp_def,
      (figures _).1, (figures _).2]
  rw [State.driveView, limit]
  rfl

section
variable {s t : State} (h : Governs s t)
include h

theorem Governs.bars {u : State} (bars : SameButBars t u) : Governs s u := h.same bars.driveView

theorem Governs.recordBegun {r : PlanRecord} : Governs s (recordBegun r t) := by
  have figures := setActive_driveView
    (f := fun o => { o with phase := r.phase, currentRepeat := r.ref.repeatNo, started := true })
    (fun _ => ⟨rfl, rfl⟩) { t with planner := { t.planner with headBegun := true } }
  unfold Machine.recordBegun
  split
  · exact h
  · dsimp only
    split
    · exact h.same
    · split
      · exact h.same figures
      · exact (h.same figures).same

theorem Governs.countStitch : Governs s (countStitch t) :=
  h.same (setActive_driveView (f := fun o => { o with stitchesExecuted := min 65535 (o.stitchesExecuted + 1) })
    (fun _ => ⟨rfl, rfl⟩) t)

theorem Governs.removeHead : Governs s (removeHead t) := h.trans (.computed (removeHead_gov t))

theorem Governs.judgeQueue {before : Nat} : Governs s (judgeQueue before t) := by
  unfold Machine.judgeQueue
  dsimp only
  split
  · split
    · exact h.same
    · exact h
  · split
    · exact h.same
    · exact h

/-- The demand is computed after the taken order's limit has come into force (R27, R89). -/
theorem Governs.takeNext : Governs s (takeNext t) := by
  unfold Machine.takeNext
  split
  · exact h
  · split
    · exact h
    · rename_i o rest _
      exact (h.trans (.computed (handToPlanner_gov o.spec
        { t with schedule := { t.schedule with orders := o.taken :: rest } }))).judgeQueue

/-- The end of the ACTIVE order computes the demand, whatever terms of the limit were lifted before it (R32, R40). -/
theorem Governs.orderEnds {u : State} {o : Order} {outcome : PanelOutcome} (gov : u.gov = t.gov)
    (active : u.schedule.activeOrder = some o) : Governs s (endOrder outcome u) := by
  have left : Governs t (orderLeft outcome o u) := .computed (by rw [← gov]; rfl)
  rw [endOrder_active active]
  exact (h.trans left).takeNext

theorem Governs.endOrder {outcome : PanelOutcome} : Governs s (endOrder outcome t) := by
  cases active : t.schedule.activeOrder with
  | none => simp only [Machine.endOrder, active]; exact h
  | some o => exact h.orderEnds rfl active

/-! ## Modes and stops (R145, R146, R153, R159) -/

theorem Governs.setMode {m : Mode} {p : Option StopPurpose} {k : Option StopKind} {why : Reason} :
    Governs s (setMode m p k why t) := by
  have left : Governs s (if t.line.effective = .threading ∧ m ≠ .threading then Machine.jogEnd t else t) := by
    split
    · exact h.jogEnd
    · exact h
  unfold Machine.setMode
  dsimp only
  split <;> exact left.same

theorem Governs.enterFaulted {why : Reason} : Governs s (enterFaulted why t) := by
  unfold Machine.enterFaulted
  dsimp only
  split
  · exact h.setMode.same
  · exact h.setMode

theorem Governs.reachStop {why : Reason} : Governs s (reachStop why t) := by
  unfold Machine.reachStop
  split
  · split
    · exact h.setMode
    · exact h.enterFaulted
    · exact h
  · exact h

theorem Governs.stitchStop {why : Reason} : Governs s (stitchStop why t) := by
  unfold Machine.stitchStop
  split
  · exact h
  split
  · exact h
  split
  · exact h.reachStop
  dsimp only
  split
  · exact h.parkOrder.reachStop
  · exact h.parkOrder

theorem Governs.freezeStop : Governs s (Machine.stopAtOnce (freeze t)) := Governs.stopAtOnce h.same

theorem Governs.stopNow {why : Reason} : Governs s (stopNow why t) := by
  unfold Machine.stopNow
  dsimp only
  split
  · exact h.freezeStop.reachStop
  · exact h.freezeStop

theorem Governs.faultStop {k : StopKind} : Governs s (faultStop k t) := by
  unfold Machine.faultStop
  dsimp only
  split
  · exact h.setMode.stopNow
  · exact h.setMode.stitchStop

theorem Governs.faultAction {act : FaultAction} : Governs s (faultAction act t) := by
  unfold Machine.faultAction
  split
  · exact h
  extract_lets k u
  have stopped : Governs s u := by
    unfold u
    split
    · exact h.freezeStop
    · exact h
  split
  · exact stopped.enterFaulted
  · exact stopped.enterFaulted
  · exact stopped.enterFaulted
  · exact stopped
  · exact stopped.faultStop
  · exact stopped.faultStop
  · split
    · split
      · exact stopped.faultStop
      · exact stopped
    · exact stopped.faultStop
    · exact stopped.faultStop

/-- A source latched with action AT_ONCE makes the demand 0 as it is computed; one with another action leaves the bound
as it is (R89, R98, R157). -/
theorem Governs.latch {src : FaultSource} {ref : Option Ref} : Governs s (latch src ref t) := by
  unfold Machine.latch
  split
  · exact h
  extract_lets act r f first f' u
  refine Governs.faultAction ?_
  split
  · exact h.trans (.computed rfl)
  · rename_i other
    refine h.same ?_
    have atOnce : f'.atOnce = t.line.faults.atOnce := by simp [f', f, FaultRecord.atOnce, other]
    show (t.gov, limitOf t, f'.atOnce) = _
    rw [atOnce]
    rfl

end

end Sys2Proof.Machine
end

section
/-! PROOFS. What the resume sequence, the audit, the monitor and the Line Controller keep of the Speed Governor. -/

namespace Sys2Proof.Machine

/- One proof is checked at a time: of a long chain of lemmas that cite each other, those that wait for the one before hold
more threads than the memory limit gives. -/
set_option Elab.async false

section
variable {s t : State} (h : Governs s t)
include h

/-! ## The resume sequence (R148) -/

theorem Governs.testResume : Governs s (testResume t) := by
  unfold Machine.testResume emitBurst burstPeriod
  dsimp only
  repeat' split
  all_goals exact h.same

theorem Governs.enterRunning {why : Reason} {p : Purpose} {c : List Nat} (turns : p = .stitching ∧ c = [] ∨ p = .replay) :
    Governs s (enterRunning why p c t) :=
  (h.setMode.startOrder turns).testResume

/-- A step that asks for its restore, and goes on where that is done at once (R128, R148). -/
theorem Governs.askRestore {next : State → State} (goes : ∀ {u}, Governs s u → Governs s (next u)) {r : ResumeStep}
    {target : BarSet} : Governs s (if (askRestore target (setStep r t)).2 then next (askRestore target (setStep r t)).1
      else (askRestore target (setStep r t)).1) := by
  have stepped : Governs s (setStep r t) := h.same
  have asked := stepped.bars (askRestore_bars target _)
  split
  · exact goes asked
  · exact asked

theorem Governs.headStepBase : Governs s (headStepBase t) := by
  unfold Machine.headStepBase
  dsimp only
  split
  · exact Governs.enterRunning h.same (.inl ⟨rfl, rfl⟩)
  · exact h.same

theorem Governs.restoreStepBase : Governs s (restoreStepBase t) := by
  unfold Machine.restoreStepBase
  split
  · exact h.headStepBase
  · exact h.askRestore Governs.headStepBase

theorem Governs.completeRecordChange : Governs s (completeRecordChange t) := Governs.removeHead h.same

theorem Governs.beginChange {kind : ChangeKind} {target : BarSet} : Governs s (beginChange kind target t) :=
  h.bars (beginChange_bars kind target t)

theorem Governs.headStep : Governs s (headStep t) := by
  unfold Machine.headStep
  split
  · split
    · rename_i target _ _ _
      have begun : Governs s (Machine.beginChange .record target (setStep .none t)) := Governs.beginChange h.same
      dsimp only
      split
      · exact begun.completeRecordChange.restoreStepBase
      · exact begun
    · exact h.headStepBase
  · exact h.headStepBase

theorem Governs.restoreStep : Governs s (restoreStep t) := by
  unfold Machine.restoreStep
  split
  · exact h.headStep
  · exact h.askRestore Governs.headStep

theorem Governs.startReplay : Governs s (startReplay t) := Governs.enterRunning h.same (.inr rfl)

theorem Governs.replayStep : Governs s (replayStep t) := by
  unfold Machine.replayStep
  split
  · exact h.restoreStep
  · exact h.askRestore Governs.startReplay

theorem Governs.backMoveStep : Governs s (backMoveStep t) := by
  unfold Machine.backMoveStep
  split
  · split
    · exact h.same
    · split
      · exact Governs.replayStep h.same
      · exact h.same
  · exact h.replayStep

theorem Governs.startFrozen : Governs s (startFrozen t) := by
  unfold Machine.startFrozen
  split
  · exact h
  · split
    · exact h.enterRunning (.inl ⟨rfl, rfl⟩)
    · exact h.startReplay

theorem Governs.frozenStep : Governs s (frozenStep t) := by
  unfold Machine.frozenStep
  split
  · exact h.backMoveStep
  · exact h.askRestore Governs.startFrozen

theorem Governs.takeStep : Governs s (takeStep t) := by
  unfold Machine.takeStep
  split
  · exact h.frozenStep
  · exact h.frozenStep
  · exact h.backMoveStep
  · exact h.replayStep
  · exact h.restoreStep
  · exact h.restoreStep
  · exact h.restoreStep

theorem Governs.parkDone : Governs s (parkDone t) := by
  unfold Machine.parkDone
  split
  · split
    · exact h.setMode.takeStep
    · exact h.setMode.takeStep
    · exact h.reachStop
  · exact h

theorem Governs.orderPark : Governs s (orderPark t) := by
  unfold Machine.orderPark
  dsimp only
  split
  · exact h.parkOrder.parkDone
  · exact h.parkOrder

theorem Governs.stopForRecord {p : StopPurpose} : Governs s (stopForRecord p t) := h.setMode.orderPark

theorem Governs.watch {emptied : Bool} : Governs s (watch emptied t) := by
  unfold Machine.watch
  split
  · split
    · exact h
    · split
      · split
        · exact h.stopForRecord
        · exact h
      · exact h.stopForRecord
  · exact h

theorem Governs.beginResume {why : Reason} : Governs s (beginResume why t) := (Governs.setMode h.same).orderPark

/-! ## The Travel Audit and the Thread Monitor -/

theorem Governs.endAudit {cause : EndCause} : Governs s (endAudit cause t) := by
  unfold Machine.endAudit
  extract_lets r _ a b
  have judged : Governs s b := by
    unfold b
    split
    · exact Governs.latch h.same
    · exact h.same
  split
  · exact judged.same
  · exact judged

theorem Governs.endAtLimit {cause : EndCause} {n : Nat} : Governs s (endAtLimit cause n t) := by
  unfold Machine.endAtLimit
  split
  · exact h.endAudit
  · exact h

theorem Governs.addCmd {n : Nat} : Governs s (addCmd n t) := by
  unfold Machine.addCmd
  split
  · exact Governs.endAtLimit h.same
  · exact h

theorem Governs.addRoll : Governs s (addRoll t) := by
  unfold Machine.addRoll
  split
  · exact Governs.endAtLimit h.same
  · exact h

theorem Governs.addWheel : Governs s (addWheel t) := by
  unfold Machine.addWheel
  split
  · exact Governs.endAtLimit h.same
  · exact h

theorem Governs.auditIndex : Governs s (auditIndex t) := by
  unfold Machine.auditIndex
  split <;> exact h.same

theorem Governs.monitorBurst {r : Ref} {src : StitchSource} : Governs s (monitorBurst r src t) := by
  unfold Machine.monitorBurst
  split <;> exact h.same

theorem Governs.monitorClose : Governs s (monitorClose t) := by
  unfold Machine.monitorClose
  split <;> exact h.same

theorem Governs.evaluate {r : Ref} : Governs s (evaluate r t) := by
  unfold Machine.evaluate
  dsimp only
  split
  · exact h.same
  · exact Governs.latch h.same

theorem Governs.monitorOpen : Governs s (monitorOpen t) := by
  unfold Machine.monitorOpen
  extract_lets _ u
  refine Governs.same (t := u) ?_
  unfold u
  split
  · exact h
  · split
    · split
      · exact h.same
      · exact h.evaluate
    · exact h

theorem Governs.scanBegins : Governs s (scanBegins t) := by
  unfold Machine.scanBegins
  split <;> exact h.same

theorem Governs.scanEnds {received : BitVec 104} : Governs s (scanEnds received t) := by
  unfold Machine.scanEnds
  split
  · exact h
  · split
    · exact h.same
    · unfold scanFailed
      dsimp only
      split
      · exact h.same
      · exact Governs.latch h.same

/-! ## The Line Controller -/

/-- A stop that awaited the work in hand, carried on where one is on (R153). -/
theorem Governs.stitchStopIf {why : Reason} : Governs s (if t.stitchStopOn then Machine.stitchStop why t else t) := by
  split
  · exact h.stitchStop
  · exact h

theorem Governs.endStep {emptied : Bool} : Governs s (endStep emptied t) := by
  unfold Machine.endStep
  split <;> exact h.same

theorem Governs.lineBurstDone {last emptied : Bool} : Governs s (lineBurstDone last emptied t) := by
  unfold Machine.lineBurstDone
  have ended : Governs s (Machine.endStep emptied t) := h.endStep
  dsimp only
  split
  · exact ended.stitchStop
  split
  · split
    · exact Governs.stitchStop ended.same
    · exact ended
  split
  · split
    · exact Governs.stopForRecord ended.same
    · exact ended.watch
  · exact ended

theorem Governs.restoreDone : Governs s (restoreDone t) := by
  unfold Machine.restoreDone
  split
  · split
    · exact h.startFrozen
    · exact h.startReplay
    · exact h.headStep
    · exact h
  · exact h

theorem Governs.lineRecordDone : Governs s (lineRecordDone t) := by
  unfold Machine.lineRecordDone
  split
  · exact h.stitchStop
  · split
    · exact h.takeStep
    · exact h

theorem Governs.lineFeedDone : Governs s (lineFeedDone t) := by
  unfold Machine.lineFeedDone
  split
  · exact Governs.setMode h.same
  · exact h.lineRecordDone

theorem Governs.lineBackMoveDone : Governs s (lineBackMoveDone t) := by
  unfold Machine.lineBackMoveDone
  extract_lets _ u
  have moved : Governs s u := h.same
  split
  · exact moved.stitchStop
  · split
    · exact moved.replayStep
    · exact moved

theorem Governs.lineCount {d : Direction} : Governs s (lineCount d t) := by
  unfold Machine.lineCount
  split
  · extract_lets n u
    split
    · exact Governs.latch h.same
    · exact h.same
  · exact h

theorem Governs.lineStopped : Governs s (lineStopped t) := by
  unfold Machine.lineStopped
  split
  · exact h.reachStop
  · exact h

theorem Governs.cancelHold {why : Reason} : Governs s (cancelHold why t) := by
  unfold Machine.cancelHold
  split
  · dsimp only
    split
    · exact h.setMode
    · exact h.setMode.takeStep
  · dsimp only
    split
    · exact h.setMode.orderPark
    · exact h.setMode
  · dsimp only
    split
    · exact h.setMode.orderPark
    · exact h.setMode
  · extract_lets u v
    have running : Governs s u := h.setMode
    have started : Governs s v := by
      unfold v
      split
      · split
        · exact running.startOrder (.inl ⟨rfl, rfl⟩)
        · exact running.startOrder (.inr rfl)
      · exact running
    exact started.testResume.watch

theorem Governs.carryHold {k : StopKind} : Governs s (carryHold k t) := by
  unfold Machine.carryHold
  split
  · exact h.stopNow
  · split
    · exact h
    · exact h.stitchStop
  · exact h.stitchStop

theorem Governs.beginHold {kind : HoldKind} {origin : HoldOrigin} {why : Reason} :
    Governs s (beginHold kind origin why t) :=
  Governs.carryHold (Governs.setMode h.same)

theorem Governs.decideRun {why : Reason} : Governs s (decideRun why t).1 := by
  unfold Machine.decideRun
  dsimp only
  split
  · exact h
  split
  · exact h
  split
  · exact h
  split
  · exact h
  split
  · exact Governs.cancelHold h.same
  · exact Governs.beginResume h.same

theorem Governs.decideHold {kind : HoldKind} {why : Reason} : Governs s (decideHold kind why t).1 := by
  unfold Machine.decideHold
  split
  case h_1 => exact h.beginHold
  case h_2 => exact h.beginHold
  case h_3 =>
    split
    · exact h.beginHold
    · split
      · exact h.setMode.carryHold
      · exact h
    · exact h
    · exact h.beginHold
  all_goals exact h

theorem Governs.decideRest {r : ReqMode} {m : Mode} : Governs s (decideRest r m t).1 := by
  unfold Machine.decideRest
  split
  case h_5 =>
    split
    · exact h
    · exact Governs.setMode h.same
  all_goals exact h

/-- Sources that leave the Fault Record set no new bound (R98, R160). -/
theorem Governs.decideClearFaults : Governs s (decideClearFaults t).1 := by
  unfold Machine.decideClearFaults
  split
  · exact h
  extract_lets kept _ f _ u
  have cleared : Governs s u := by
    have stand : f.latched = kept := by
      unfold f
      split
      · exact ‹kept = []›.symm
      · rfl
    refine h.trans ⟨id, fun ⟨le, zero⟩ => ⟨le, fun atOnce => zero ?_⟩⟩
    obtain ⟨e, he, once⟩ := List.any_eq_true.1 (show f.latched.any _ = true from atOnce)
    rw [stand] at he
    exact List.any_eq_true.2 ⟨e, List.mem_of_mem_filter he, once⟩
  dsimp only
  split
  · unfold leaveFaulted
    split
    · split <;> exact Governs.setMode cleared.same
    · exact cleared
  · exact cleared

/-- The flushed plan lifts terms of the limit, and the order's end computes the demand anew (R40, R165). -/
theorem Governs.decideAbort : Governs s (decideAbort t).1 := by
  unfold Machine.decideAbort
  split
  case h_4 =>
    split
    · exact h
    · rename_i active
      obtain ⟨o, at_o⟩ := Option.isSome_iff_exists.1 (not_not.1 active)
      obtain ⟨u, m, aborted⟩ := abortChange_bars (flushPlan { t with motion := { t.motion with
        burst := none, feed := none, asideFeed := none, backMove := none } })
      dsimp only
      rw [aborted]
      exact h.orderEnds rfl at_o
  all_goals exact h

end

end Sys2Proof.Machine
end

section
/-! PROOFS. What the moves, the needle bars and the shaft keep of the Speed Governor. -/

namespace Sys2Proof.Machine

/- One proof is checked at a time: of a long chain of lemmas that cite each other, those that wait for the one before hold
more threads than the memory limit gives. -/
set_option Elab.async false

section
variable {s t : State} (h : Governs s t)
include h

/-! ## The Motion Output: bursts -/

theorem Governs.appendHistory {st : Stitch} : Governs s (appendHistory st t) := h.same

theorem Governs.dropBurst : Governs s (dropBurst t) := h.same

theorem Governs.completeHeadBurst {b : Burst} : Governs s (completeHeadBurst b t) := by
  unfold Machine.completeHeadBurst
  extract_lets a c
  have appended : Governs s a := h.removeHead.appendHistory
  have counted : Governs s c := appended.addCmd.countStitch
  exact counted.monitorBurst.dropBurst.lineBurstDone

theorem Governs.completeReplayBurst {b : Burst} : Governs s (completeReplayBurst b t) := by
  unfold Machine.completeReplayBurst
  extract_lets _ a c
  have formed : Governs s a := Governs.replayFormed h.same
  have replayed : Governs s c := formed.addCmd.monitorBurst
  exact replayed.dropBurst.lineBurstDone

theorem Governs.completeBurst {b : Burst} : Governs s (completeBurst b t) := by
  unfold Machine.completeBurst
  split
  · exact h.completeHeadBurst
  · exact h.completeReplayBurst

theorem Governs.emitBurst {w : Nat} {b : Burst} : Governs s (emitBurst w b t) := by
  unfold Machine.emitBurst burstPeriod
  dsimp only
  split
  · exact h.same
  · split <;> exact h.same

theorem Governs.openBurst {b : Burst} : Governs s (openBurst b t) := by
  unfold Machine.openBurst
  dsimp only
  split
  · exact Governs.completeBurst h.same
  · exact Governs.emitBurst h.same

theorem Governs.motionOpen : Governs s (motionOpen t) := by
  unfold Machine.motionOpen
  split
  · split
    · exact h.openBurst
    · split
      · exact h
      · split
        · exact h.recordBegun.openBurst
        · exact h
  · exact h

theorem Governs.motionClose : Governs s (motionClose t) := by
  unfold Machine.motionClose
  split
  · exact Governs.latch h.same
  · exact h

/-! ## The Motion Output: feed records -/

theorem Governs.completeFeed : Governs s (completeFeed t) := by
  unfold Machine.completeFeed
  extract_lets gap a _ b
  have record : Governs s b := h.removeHead.same
  have ended : Governs s (if gap then Machine.endOrder .done b else b) := by
    split
    · exact record.endOrder
    · exact record
  exact Governs.lineFeedDone ended.same

theorem Governs.completeMove {f : Feed} : Governs s (completeMove f t) := by
  unfold Machine.completeMove
  split
  · exact h.completeFeed
  · exact Governs.lineBackMoveDone h.same

theorem Governs.feedSpent {f : Feed} : Governs s (feedSpent f t) := by
  unfold Machine.feedSpent
  split
  · exact Governs.stitchStopIf (Governs.latch h.same)
  · split
    · exact h.same
    · exact h.completeMove

theorem Governs.moveFeed {f : Feed} : Governs s (moveFeed f t) := by
  unfold Machine.moveFeed
  dsimp only
  split
  · exact Governs.feedSpent h.same
  · exact h.same

theorem Governs.beginFeed {kind : FeedKind} {x y : Int} : Governs s (beginFeed kind x y t) := by
  unfold Machine.beginFeed
  dsimp only
  split
  · exact h.moveFeed
  · exact h.moveFeed
  · split <;> exact h.moveFeed
  · exact h.moveFeed

theorem Governs.beginHead : Governs s (beginHead t) := by
  unfold Machine.beginHead
  split
  · exact h.recordBegun.removeHead.lineRecordDone
  · refine Governs.beginFeed (Governs.recordBegun ?_)
    split
    · split
      · exact h.same
      · exact h
    · exact h
  · exact h

theorem Governs.resumeFeed {f : Feed} : Governs s (resumeFeed f t) := by
  unfold Machine.resumeFeed
  split
  · exact h.moveFeed
  · split <;> exact h.moveFeed

theorem Governs.setAside : Governs s (setAside t) := by
  unfold Machine.setAside
  split
  · exact h
  · exact h.same

theorem Governs.takeUpHead : Governs s (takeUpHead t) := by
  unfold Machine.takeUpHead
  split
  · split
    · exact h.resumeFeed
    · exact Governs.beginHead h.same
  · split
    · exact Governs.resumeFeed h.same
    · exact h.beginHead

theorem Governs.beginNextFeed : Governs s (beginNextFeed t) := by
  unfold Machine.beginNextFeed
  split
  · exact Governs.moveFeed h.setAside.same
  · split
    · exact h.takeUpHead
    · exact h

theorem Governs.feedBegin : Governs s (feedBegin t) := by
  unfold Machine.feedBegin
  split
  · split
    · exact h.beginNextFeed
    · split
      · exact h.resumeFeed
      · split
        · exact h.beginNextFeed
        · exact h
  · exact h

/-! ## The Motion Output: step pulses -/

theorem Governs.movePulse {axis : Axis} {positive : Bool} : Governs s (movePulse axis positive t) := by
  unfold Machine.movePulse
  split
  · split
    · exact h.same
    · exact h
  · exact h.same

theorem Governs.burstPulse {axis : Axis} {b : Burst} : Governs s (burstPulse axis b t) := by
  unfold Machine.burstPulse
  extract_lets c p _ u
  have pulsed : Governs s u := Governs.movePulse h.same
  split
  · exact pulsed.completeBurst
  · exact pulsed

theorem Governs.feedPulse {axis : Axis} {f : Feed} : Governs s (feedPulse axis f t) := by
  unfold Machine.feedPulse
  extract_lets f' p u v
  have pulsed : Governs s u := Governs.movePulse h.same
  have counted : Governs s v := by
    cases axis with
    | x => exact pulsed
    | y => exact pulsed.addCmd
  split
  · exact counted.feedSpent
  · exact counted

theorem Governs.stepDue {axis : Axis} : Governs s (stepDue axis t) := by
  unfold Machine.stepDue
  split
  · split
    · exact h
    · split
      · exact h.burstPulse
      · exact h.same
  · split
    · split
      · exact h
      · split
        · exact h.feedPulse
        · exact h.same
    · exact h

theorem Governs.emitHeld {axis : Axis} : Governs s (emitHeld axis t) := by
  unfold Machine.emitHeld
  split
  · split
    · exact h.burstPulse
    · exact h
  · split
    · split
      · exact h.feedPulse
      · exact h
    · exact h

theorem Governs.homingPulse {m : Homing} : Governs s (homingPulse m t) := by
  unfold Machine.homingPulse
  dsimp only
  split <;> exact h.same

theorem Governs.homingDue : Governs s (homingDue t) := by
  unfold Machine.homingDue
  split
  · exact h
  · split
    · exact h
    · split
      · exact h.homingPulse
      · exact h.same

theorem Governs.emitHeldHoming : Governs s (emitHeldHoming t) := by
  unfold Machine.emitHeldHoming
  split
  · exact h
  · split
    · exact h.homingPulse
    · exact h

theorem Governs.emitWaiting : Governs s (emitWaiting t) := by
  unfold Machine.emitWaiting
  split
  · exact h.emitHeld.emitHeld.emitHeldHoming
  · exact h

theorem Governs.decideHomeX : Governs s (decideHomeX t).1 := by
  unfold Machine.decideHomeX
  split
  · exact h
  split
  · exact h
  split
  · exact h
  split
  · exact h
  unfold startHoming
  dsimp only
  split <;> exact h.same

theorem Governs.xhomeLevel {level : Bool} : Governs s (xhomeLevel level t) := by
  unfold Machine.xhomeLevel
  split
  · exact h
  · split
    · exact h.same
    · exact h

theorem Governs.markEdge : Governs s (markEdge t) := by
  unfold Machine.markEdge
  split
  · exact h
  · split
    · exact Governs.completeFeed h.same
    · exact h

theorem Governs.cutEnds : Governs s (cutEnds t) := by
  unfold Machine.cutEnds
  dsimp only
  split
  · exact h
  split
  · exact h.same
  · split
    · split
      · exact Governs.stitchStopIf h.same
      · exact Governs.moveFeed h.same
    · exact h.same

theorem Governs.estopMotion : Governs s (estopMotion t) := by
  unfold Machine.estopMotion
  dsimp only
  split <;> exact h.same

/-! ## The needle bars -/

theorem Governs.settleChange : Governs s (settleChange t) := by
  unfold Machine.settleChange
  split
  · exact h
  · split
    · split
      · exact h.completeRecordChange.lineRecordDone
      · exact Governs.restoreDone h.same
      · exact h.same
    · exact h

theorem Governs.beginWaiting : Governs s (beginWaiting t) := by
  unfold Machine.beginWaiting
  split
  · exact h
  · split
    · exact h.beginChange.settleChange
    · exact h

theorem Governs.barChangeBegin : Governs s (barChangeBegin t) := by
  unfold Machine.barChangeBegin
  split
  · exact h.beginWaiting
  · split
    · split
      · exact h.recordBegun.beginChange.settleChange
      · exact h
    · exact h

theorem Governs.deadTimeEnds {b : Bar} : Governs s (deadTimeEnds b t) := by
  unfold Machine.deadTimeEnds
  split
  · split
    · exact h.bars (setBar_bars ..)
    · exact (h.bars (energizeBar_bars ..)).settleChange
  · exact h

theorem Governs.endForce {b : Bar} : Governs s (endForce b t) := by
  unfold Machine.endForce
  split
  · split
    · exact h.same
    · exact h
  · exact h

theorem Governs.barTimesOut {b : Bar} : Governs s (barTimesOut b t) := by
  unfold Machine.barTimesOut
  dsimp only
  split
  · exact (h.bars (setBar_bars ..)).endForce.latch
  · exact h

theorem Governs.barInputs {b : Bar} : Governs s (barInputs b t) := by
  unfold Machine.barInputs
  dsimp only
  split
  · exact h.bars (setBar_bars ..)
  · exact (h.bars (confirmBar_bars ..)).settleChange

theorem Governs.decideForceBar {bar dir : Byte} : Governs s (decideForceBar bar dir t).1 := by
  unfold Machine.decideForceBar
  split
  · exact h
  split
  · exact h
  split
  · exact h
  split
  · exact h
  split
  · exact h
  exact h.beginChange.settleChange

/-! ## The shaft -/

theorem Governs.deliverOpen : Governs s (deliverOpen t) := by
  have drawn : Governs s (drawChoice t).2 := h.same
  unfold Machine.deliverOpen
  dsimp only
  split
  · split
    · exact drawn.motionOpen.monitorOpen
    · exact drawn.monitorOpen.motionOpen
  · exact h.monitorOpen.motionOpen

theorem Governs.deliverClose : Governs s (deliverClose t) := h.motionClose.monitorClose

theorem Governs.reachAngle : Governs s (reachAngle t) := by
  unfold Machine.reachAngle
  dsimp only
  split
  · exact h
  split
  · split
    · exact Governs.deliverOpen h.same
    · exact h
  split
  · exact Governs.stopAngleGov h.same
  split
  · exact Governs.deliverClose h.same
  · exact h

theorem Governs.countEffects {d : Direction} {encoder : Bool} : Governs s (countEffects d encoder t) := by
  unfold Machine.countEffects
  extract_lets a b
  have lost : Governs s a := by
    unfold a
    split
    · exact h.latch
    · exact h
  have reached : Governs s b := by
    unfold b
    split
    · exact lost.reachAngle
    · exact lost
  exact reached.testResume.emitWaiting

theorem Governs.takeCount {d : Direction} : Governs s (takeCount d t) := by
  unfold Machine.takeCount
  extract_lets _ c _ u
  have counted : Governs s u := h.same
  have drawn : Governs s (drawChoice u).2 := counted.same
  split
  · split
    · exact drawn.countEffects.lineCount
    · exact drawn.lineCount.countEffects
  · exact counted.lineCount.countEffects

theorem Governs.measureRevolution {now : Nat} : Governs s (measureRevolution now t) := by
  unfold Machine.measureRevolution
  dsimp only
  split
  · exact h.same
  · split
    · split <;> exact h.same
    · exact h.same

theorem Governs.indexJump : Governs s (indexJump t) := by
  unfold Machine.indexJump
  dsimp only
  split
  · have before : Governs s (Machine.reachAngle (setShaft { t.shaft with position := -1 } t)) :=
      Governs.reachAngle h.same
    exact Governs.reachAngle before.same
  · split
    · exact Governs.reachAngle h.same
    · exact h.same

theorem Governs.deliverIndex {measured : Bool} : Governs s (deliverIndex measured t) := by
  have drawn : Governs s (drawChoice t).2 := h.same
  unfold Machine.deliverIndex
  dsimp only
  split
  · split
    · exact drawn.indexGov.auditIndex
    · exact drawn.auditIndex.indexGov
  · exact h.indexGov.auditIndex

theorem Governs.forwardIndex {now : Nat} : Governs s (forwardIndex now t) := by
  have drawn : Governs s (drawChoice t).2 := h.same
  unfold Machine.forwardIndex
  dsimp only
  split
  · split
    · exact drawn.measureRevolution.deliverIndex.indexJump
    · exact drawn.indexJump.measureRevolution.deliverIndex
  · exact h.indexJump.measureRevolution.deliverIndex

theorem Governs.backIndex : Governs s (backIndex t) := h.indexJump.same

theorem Governs.badIndex {now : Nat} : Governs s (badIndex now t) := Governs.latch h.same

theorem Governs.takeIndex {now : Nat} : Governs s (takeIndex now t) := by
  unfold Machine.takeIndex
  extract_lets u
  have taken : Governs s u := by
    unfold u
    split
    · exact h.same
    · split
      · exact h.forwardIndex
      · exact h.backIndex
      · exact h.backIndex
      · exact h.badIndex
  exact Governs.emitWaiting taken.same

theorem Governs.governorStopped : Governs s (governorStopped t) := by
  unfold Machine.governorStopped
  refine Governs.lineStopped ?_
  split
  · exact h.stoppedGov
  · exact h.stoppedGov.parkDone
  · exact h.stoppedGov.latch

theorem Governs.shaftStops : Governs s (shaftStops t) := by
  unfold Machine.shaftStops
  split
  · exact h
  extract_lets a
  have waited : Governs s a := Governs.beginWaiting h.same
  have drawn : Governs s (drawChoice a).2 := waited.same
  split
  · split
    · exact drawn.governorStopped.emitWaiting
    · exact drawn.emitWaiting.governorStopped
  · exact waited.governorStopped

theorem Governs.decideSetTiming {o c a : BitVec 16} : Governs s (decideSetTiming o c a t).1 := by
  unfold Machine.decideSetTiming
  dsimp only
  repeat' split
  all_goals exact h.same

theorem Governs.decideRephase {a : BitVec 16} : Governs s (decideRephase a t).1 := by
  unfold Machine.decideRephase
  dsimp only
  repeat' split
  all_goals exact h.same

end

end Sys2Proof.Machine
end

section
/-! PROOFS. What the requests and the events keep of the Speed Governor, and the two statements that rest on it. -/

namespace Sys2Proof.Machine

/- One proof is checked at a time: of a long chain of lemmas that cite each other, those that wait for the one before hold
more threads than the memory limit gives. -/
set_option Elab.async false

/-! ## The requests -/

/-- An order taken out that is not ACTIVE leaves the one that is. -/
theorem find?_active_filter {l : List Order} {o : Order} {id : Nat} (head : activeAtHead l = true)
    (found : (l.find? fun x => decide (x.spec.orderId = id)) = some o) (queued : o.state ≠ .active) :
    ((l.filter fun x => decide (x.spec.orderId ≠ id)).find? fun x => decide (x.state = .active))
      = l.find? fun x => decide (x.state = .active) := by
  cases l with
  | nil => rfl
  | cons p rest =>
    obtain ⟨active, -⟩ := (activeAtHead_cons p rest).1 head
    have stays : p.spec.orderId ≠ id := fun named => by
      rw [List.find?_cons_of_pos (by simpa using named), Option.some.injEq] at found
      exact queued (found ▸ active)
    rw [List.filter_cons_of_pos (by simpa using stays), List.find?_cons_of_pos (by simpa using active),
      List.find?_cons_of_pos (by simpa using active)]

section
variable {s t : State} (h : Governs s t)
include h

theorem Governs.decideModeHold {kind : Byte} : Governs s (decideModeHold kind t).1 := by
  unfold Machine.decideModeHold
  split
  · exact h.decideHold
  · exact h

theorem Governs.decideAuditStop : Governs s (decideAuditStop t).1 := by
  unfold Machine.decideAuditStop
  split
  · exact h.endAudit
  · exact h

theorem Governs.decideGetParams {ids : List (BitVec 8)} : Governs s (decideGetParams ids t).1 := by
  unfold Machine.decideGetParams
  split
  · exact h
  · split <;> exact h

theorem Governs.decideHistory {first : Byte} : Governs s (decideHistory first t).1 := by
  unfold Machine.decideHistory
  split <;> exact h

/-! ### The pattern requests write the store alone (R6, R8, R10, R14) -/

theorem Governs.decidePatternBegin {slot n : Byte} {x p : BitVec 16} {bars : Byte} :
    Governs s (decidePatternBegin slot n x p bars t).1 := by
  unfold Machine.decidePatternBegin
  dsimp only
  repeat' split
  all_goals exact h.same

theorem Governs.decidePatternAdd {slot : Byte} {records : List (BitVec 64)} :
    Governs s (decidePatternAdd slot records t).1 := by
  unfold Machine.decidePatternAdd
  dsimp only
  repeat' split
  all_goals exact h.same

theorem Governs.decidePatternEnd {slot : Byte} : Governs s (decidePatternEnd slot t).1 := by
  unfold Machine.decidePatternEnd
  dsimp only
  repeat' split
  all_goals exact h.same

theorem Governs.decidePatternErase {slot : Byte} : Governs s (decidePatternErase slot t).1 := by
  unfold Machine.decidePatternErase
  dsimp only
  repeat' split
  all_goals exact h.same

theorem Governs.decidePatternInfo {slot : Byte} : Governs s (decidePatternInfo slot t).1 := by
  unfold Machine.decidePatternInfo
  dsimp only
  split <;> exact h

/-! ### ORDER_ADD and ORDER_CANCEL (R25, R26) -/

/-- An order that joins behind an ACTIVE one leaves its limit; one taken at once computes the demand (R27, R89). -/
theorem Governs.decideOrderAdd {o : OrderFields} : Governs s (decideOrderAdd o t).1 := by
  unfold Machine.decideOrderAdd
  split
  · exact h
  split
  · exact h
  split
  · exact h
  extract_lets spec r clamped order position reply used
  split
  · exact h
  split
  · exact h
  split
  · exact h
  split
  · exact h
  split
  case isTrue active =>
    obtain ⟨a, at_a⟩ := Option.isSome_iff_exists.1 active
    have joined : Governs s { t with store := used, schedule := { t.schedule with
        orders := t.schedule.orders ++ [order] } } := by
      refine h.same (Prod.ext rfl (Prod.ext (limitOf_congr rfl rfl (congrArg _ ?_)) rfl))
      show List.find? _ (_ ++ _) = _
      rw [List.find?_append, show t.schedule.orders.find? _ = some a from at_a, at_a]
      rfl
    exact joined.judgeQueue
  case isFalse =>
    exact h.trans (.computed (handToPlanner_gov spec
      { t with store := used, schedule := { t.schedule with orders := t.schedule.orders ++ [order.taken] } }))

/-- With the ACTIVE order at the head a QUEUED order taken out is another one (R26). -/
theorem Governs.decideOrderCancel {id : BitVec 16} (head : activeAtHead t.schedule.orders = true) :
    Governs s (decideOrderCancel id t).1 := by
  unfold Machine.decideOrderCancel
  split
  · exact h
  split
  · exact h
  rename_i o found
  split
  · exact h
  rename_i queued
  have left : Governs s { t with
      store := t.store.dropUse o.spec.slot
      schedule := { t.schedule with
        orders := t.schedule.orders.filter fun x => decide (x.spec.orderId ≠ id.toNat) } } :=
    h.same (Prod.ext rfl (Prod.ext
      (limitOf_congr rfl rfl (congrArg _ (find?_active_filter head found queued))) rfl))
  exact left.judgeQueue

/-! ### SET_PARAMS (R182) -/

/-- Where line_max stays, so does the limit; where it changes, the demand is computed anew. -/
theorem Governs.governParams {old : Params} {u : State} (gov : u.gov = t.gov)
    (steady : old.lineMax = u.params.lineMax → u.driveView = t.driveView) : Governs s (governParams old u) := by
  unfold Machine.governParams
  split
  · exact h.trans (.computed (by rw [← gov]; rfl))
  · rename_i unmoved
    exact h.same (steady (not_not.1 (not_or.1 unmoved).1))

theorem Governs.applyParams {values : List (ParamId × Int)} : Governs s (applyParams values t) := by
  unfold Machine.applyParams
  extract_lets old
  have view : ∀ v : State, (auditParams old (refit old (rearm old v))).driveView = v.driveView
      ∧ (auditParams old (refit old (rearm old v))).params = v.params := fun v => by
    unfold auditParams refit rearm
    dsimp only
    repeat' split
    all_goals exact ⟨rfl, rfl⟩
  obtain ⟨acted, params⟩ := view { t with params := t.params.apply values }
  refine h.governParams (Prod.mk.inj acted).1 fun lineMax => acted.trans ?_
  rw [params] at lineMax
  have limit : limitOf { t with params := t.params.apply values } = limitOf t := by
    unfold limitOf
    rw [← lineMax]
  exact Prod.ext rfl (Prod.ext limit rfl)

theorem Governs.decideSetParams {pairs : List (BitVec 8 × BitVec 32)} : Governs s (decideSetParams pairs t).1 := by
  unfold Machine.decideSetParams
  dsimp only
  repeat' split
  case h_2 => exact h.applyParams
  all_goals exact h

end

/-- Every request but ORDER_CANCEL, in any state. -/
theorem decideRequest_governs {c : Instr} {k tag : Byte} {d : State → State × Reply}
    (h : decideRequest c = some (k, tag, d)) (other : ∀ g id, c ≠ .orderCancel g id) (s : State) :
    Governs s (d s).1 := by
  have start := Governs.refl s
  cases c
  case orderCancel g id => exact absurd rfl (other g id)
  case setParams => cases h; exact start.decideSetParams
  case setTiming => cases h; exact start.decideSetTiming
  case rephase => cases h; exact start.decideRephase
  case orderAdd => cases h; exact start.decideOrderAdd
  case patternBegin => cases h; exact start.decidePatternBegin
  case patternAdd => cases h; exact start.decidePatternAdd
  case patternEnd => cases h; exact start.decidePatternEnd
  case patternErase => cases h; exact start.decidePatternErase
  case patternInfo => cases h; exact start.decidePatternInfo
  case getInfo | scheduleList | status | needles | auditResult => cases h; exact start
  case auditStart | reset => cases h; exact start.same
  case history => cases h; exact start.decideHistory
  case getParams => cases h; exact start.decideGetParams
  case modeRun => cases h; exact start.decideRun
  case modeHold => cases h; exact start.decideModeHold
  case modeIdle | modeThread => cases h; exact start.decideRest
  case abortPanel => cases h; exact start.decideAbort
  case homeX => cases h; exact start.decideHomeX
  case forceBar => cases h; exact start.decideForceBar
  case clearFaults => cases h; exact start.decideClearFaults
  case auditStop => cases h; exact start.decideAuditStop
  all_goals cases h

/-- ORDER_CANCEL writes no Governor (R26). -/
theorem decideOrderCancel_gov (id : BitVec 16) (s : State) : (decideOrderCancel id s).1.gov = s.gov := by
  unfold decideOrderCancel judgeQueue
  dsimp only
  repeat' split
  all_goals rfl

theorem decideRequest_govShape {c : Instr} {k tag : Byte} {d : State → State × Reply}
    (h : decideRequest c = some (k, tag, d)) (s : State) (shape : GovShape s.gov) : GovShape (d s).1.gov := by
  by_cases cancel : ∃ g id, c = .orderCancel g id
  · obtain ⟨g, id, rfl⟩ := cancel
    cases h
    rw [decideOrderCancel_gov]
    exact shape
  · exact (decideRequest_governs h (fun g id e => cancel ⟨g, id, e⟩) s).shape shape

theorem decideRequest_demandShape {c : Instr} {k tag : Byte} {d : State → State × Reply}
    (h : decideRequest c = some (k, tag, d)) (s : State) (head : activeAtHead s.schedule.orders = true)
    (bound : DemandShape s) : DemandShape (d s).1 := by
  by_cases cancel : ∃ g id, c = .orderCancel g id
  · obtain ⟨g, id, rfl⟩ := cancel
    cases h
    exact ((Governs.refl s).decideOrderCancel head).bound bound
  · exact (decideRequest_governs h (fun g id e => cancel ⟨g, id, e⟩) s).bound bound

/-! ## The events -/

/-- A reset restores the Governor: HALTED, with demand 0 (R187). -/
theorem Governs.of_reset {s t : State} (h : t.gov = Gov.reset) : Governs s t :=
  ⟨fun _ => by rw [h]; decide, fun _ => demandShape_of_zero (by rw [h]; rfl)⟩

theorem Governs.transmit {s t : State} (h : Governs s t) : Governs s (transmit t) := by
  obtain ⟨tx, q, sent⟩ := transmit_frame t
  rw [sent]
  exact h.same

/-- An event on the levels it finds or sets. -/
theorem governs_of_event {f : State → State} {s u t : State} (h : ∀ v, Governs v (f v))
    (e : finish (live f u) = .next t) (levels : u.driveView = s.driveView := by rfl) : Governs s t := by
  cases e
  have start := (Governs.refl s).same levels
  refine Governs.transmit ?_
  unfold live
  split
  · exact start
  · exact start.trans (h u)

theorem exec_event_governs {c : Instr} {s t : State} (event : decideRequest c = none)
    (frame : ∀ k tag p, c ≠ .frameReceived k tag p) (byte : ∀ b, c ≠ .byteReceived b) (h : exec c s = .next t) :
    Governs s t := by
  have start := Governs.refl
  cases c
  case resetn => cases h; exact .of_reset rfl
  case resetTakesEffect strap =>
    simp only [exec, execResetTakesEffect] at h
    split at h <;> cases h
    · exact .of_reset rfl
    · exact (start s).transmit
  case resetnReleased strap =>
    simp only [exec, execResetnReleased] at h
    split at h <;> cases h
    · exact .of_reset rfl
    · exact (start s).transmit
  case frameReceived k tag p => exact absurd rfl (frame k tag p)
  case byteReceived b => exact absurd rfl (byte b)
  case barInputChange b up dn =>
    cases h
    refine Governs.transmit ?_
    split
    · exact (start s).same
    · exact Governs.barInputs (start s).same
  case estopReleased | drvfltReleased => cases h; exact Governs.transmit (start s).same
  case interByteGap | framingErrorOrBreak => exact governs_of_event (f := setAsm none) (fun v => (start v).same) h
  case frameTransmitted =>
    refine governs_of_event (fun v => ?_) h
    unfold txEnds
    split <;> exact (start v).same
  case indexPulse => exact governs_of_event (fun v => (start v).takeIndex) h
  case stopped => exact governs_of_event (fun v => (start v).shaftStops) h
  case stepPulseDue => exact governs_of_event (fun v => (start v).stepDue) h
  case feedBegin => exact governs_of_event (fun v => (start v).feedBegin) h
  case markEdge => exact governs_of_event (fun v => (start v).markEdge) h
  case cutTimeExpiry => exact governs_of_event (fun v => (start v).cutEnds) h
  case homePulseDue => exact governs_of_event (fun v => (start v).homingDue) h
  case xhomeAsserted => exact governs_of_event (fun v => (start v).xhomeLevel) h
  case barChangeBegin => exact governs_of_event (fun v => (start v).barChangeBegin) h
  case deadTimeExpiry => exact governs_of_event (fun v => (start v).deadTimeEnds) h
  case barTimeout => exact governs_of_event (fun v => (start v).barTimesOut) h
  case drvfltAsserted => exact governs_of_event (fun v => (start v).latch) h
  case startInput => exact governs_of_event (fun v => (start v).decideRun) h
  case jogReleased => exact governs_of_event (fun v => (start v).jogEnd) h
  case scanTimerExpiry => exact governs_of_event (fun v => (start v).scanBegins) h
  case scanComplete => exact governs_of_event (fun v => (start v).scanEnds) h
  case estopAsserted =>
    exact governs_of_event (fun v => ((start v).bars (estopBars_bars v)).estopMotion.latch) h
  case demandPwmPeriod =>
    refine governs_of_event (fun v => ?_) h
    exact SameButGov.governs ⟨_, rfl⟩ id (.inl rfl)
  case encoderCount =>
    refine governs_of_event (fun v => ?_) h
    split
    · exact (start v).takeCount
    · exact start v
  case holdInput =>
    refine governs_of_event (fun v => ?_) h
    split
    · exact (start v).decideHold
    · exact start v
  case jogPressed =>
    refine governs_of_event (fun v => ?_) h
    split
    · exact (start v).jogBegin
    · exact start v
  case feedRollerEdge =>
    refine governs_of_event (fun v => ?_) h
    split
    · exact (start v).addRoll
    · exact start v
  case measuringWheelEdge =>
    refine governs_of_event (fun v => ?_) h
    split
    · exact (start v).addWheel
    · exact start v
  all_goals cases event

/-! ## Every step -/

/-- Settles O7: every operation of a step leaves the Governor's fields in agreement, each by its own branches, and a reset
restores them. -/
theorem governorStatesAgreeKept : Obligations.GovernorStatesAgreeKept :=
  fun _ _ shape next => step_preserves (P := fun s => GovShape s.gov) (fun _ _ => id) decideRequest_govShape
    (fun _ _ => id) (fun event frame byte next => (exec_event_governs event frame byte next).shape) next shape

/-- The bound goes over with the schedule's shape, under which ORDER_CANCEL leaves the ACTIVE order. -/
theorem step_demandShape {s t : State} (schedule : ScheduleShape s) (bound : DemandShape s) (next : step s = .next t) :
    DemandShape t := by
  refine (step_preserves (P := fun s => s.stock.Ordered ∧ DemandShape s) (fun _ _ => id) (fun h s ⟨ordered, bound⟩ => ?_)
    (fun _ _ => id) (fun event frame byte next ⟨ordered, bound⟩ => ?_) next ⟨(scheduleShape_iff s).1 schedule, bound⟩).2
  · exact ⟨ordered.change (decideRequest_change h s), decideRequest_demandShape h s ordered.1 bound⟩
  · exact ⟨ordered.change (exec_event_change event next), (exec_event_governs event frame byte next).bound bound⟩

/-! ### A start order by the state it finds (R90, R97) -/

section
variable (p : Purpose) (ceilings : List Nat) {s : State} (free : s.line.faults.atOnce = false)
include free

/-- RAMPING and LOCKED stand, and only the orders of the drive change. -/
theorem startOrder_of_running (running : s.gov.state = .ramping ∨ s.gov.state = .locked) :
    (startOrder p ceilings s).gov = { s.gov with
      purpose := some p, replayCeilings := ceilings, armed := false, braked := false
      demand := demandOf (startOrder p ceilings s) } := by
  have stays : (if s.gov.state = .parking then GovState.ramping else s.gov.state) = s.gov.state :=
    if_neg (by rcases running with h | h <;> simp [h])
  rw [startOrder_turning p ceilings free (running.imp_right .inl), stays]
  rfl

theorem startOrder_of_halted (halted : s.gov.state = .halted) :
    (startOrder p ceilings s).gov.state = .ramping ∧ (startOrder p ceilings s).gov.released = true
      ∧ (startOrder p ceilings s).gov.applied = (startOrder p ceilings s).gov.demand := by
  rw [startOrder_released p ceilings free (.inl halted)]
  exact ⟨rfl, rfl, rfl⟩

/-- A park is cancelled: a drive that turns goes on at its applied demand, one held by the brake is released. -/
theorem startOrder_of_parking (parking : s.gov.state = .parking) :
    (startOrder p ceilings s).gov.state = .ramping
      ∧ (s.gov.released = true → (startOrder p ceilings s).gov.applied = s.gov.applied
        ∧ (startOrder p ceilings s).gov.inTol = s.gov.inTol)
      ∧ (s.gov.released = false → (startOrder p ceilings s).gov.released = true
        ∧ (startOrder p ceilings s).gov.applied = (startOrder p ceilings s).gov.demand
        ∧ (startOrder p ceilings s).gov.inTol = 0) := by
  cases released : s.gov.released with
  | true =>
    rw [startOrder_turning p ceilings free (.inr (.inr ⟨parking, released⟩)), if_pos parking]
    exact ⟨rfl, fun _ => ⟨rfl, rfl⟩, nofun⟩
  | false =>
    rw [startOrder_released p ceilings free (.inr ⟨parking, released⟩)]
    exact ⟨rfl, nofun, fun _ => ⟨rfl, rfl, rfl⟩⟩

end

/-- Settles O44: the computed demand by its terms, the held one by what every operation of a step keeps. -/
theorem demandIsTheLeastTerm : Obligations.DemandIsTheLeastTerm := by
  refine ⟨fun _ _ => step_demandShape, fun s => ⟨removeHead_gov s, fun o => handToPlanner_gov o s, rfl, ?_⟩, ?_⟩
  · intro p ceilings free t
    obtain ⟨purpose, list, demand, armed⟩ := startOrder_computed p ceilings free
    exact ⟨purpose, list, demand, armed, startOrder_of_running p ceilings free, startOrder_of_halted p ceilings free,
      startOrder_of_parking p ceilings free⟩
  · intro s v limited coming slowed
    exact ⟨demandOf_zero, fun state free => ⟨le_demandOf_stitching state free, le_demandOf_replay state free,
      le_demandOf_creeping state free⟩⟩

end Sys2Proof.Machine
end

section
/-! PROOFS. What can happen to the needle bars and to what the Needle Table has of them (R122 to R131), said once: every
operation of the part but SET_PARAMS and a reset is a run of the moves listed here. -/

namespace Sys2Proof.Machine

/- The lemmas of these chains cite one another, so each is checked as it stands. -/
set_option Elab.async false

/-! ## One bar's record -/

/-- What one write makes of a bar's record (R122 to R126, R130): its sequence starts, its target valve is energized, its
bar_timeout starts afresh, its target input confirms it, its timer is stopped or runs out, it is released, or, released,
it is judged from its inputs. -/
inductive BarMove (r : BarRec) : BarRec → Prop where
  | started (down : Bool) (ms : Nat) (away : r.heldAt down = false)
      (still : ¬ (r.state = movingState down ∧ r.targetValve down = true)) : BarMove r (r.started down ms)
  | energized (down : Bool) (ms : Nat) (moving : r.state = movingState down) : BarMove r (r.energized down ms)
  | timed (down : Bool) (ms : Nat) (moving : r.state = movingState down) (valve : r.targetValve down = true) :
      BarMove r { r with timer := .confirm ms, timedOut := false }
  | confirmed (down : Bool) (moving : r.state = movingState down) (valve : r.targetValve down = true) :
      BarMove r { r with state := targetState down, timer := .idle, timedOut := false }
  | stopped : BarMove r (stopBarTimer r)
  | timedOut (running : r.timer.isConfirm = true) : BarMove r { r with timedOut := true, timer := .idle }
  | released (up dn : Bool) : BarMove r (BarRec.released0 (judgedState up dn))
  | judged (released : r.released = true) (up dn : Bool) : BarMove r { r with state := judgedState up dn }

/-- The state a released bar's inputs show is none of a moving bar (R123). -/
theorem judgedState_cases (up dn : Bool) :
    judgedState up dn = .up ∨ judgedState up dn = .down ∨ judgedState up dn = .unknown := by
  cases up <;> cases dn <;> decide

theorem barShape_released0 (up dn : Bool) : BarShape (BarRec.released0 (judgedState up dn)) := by
  cases up <;> cases dn <;> decide

/-- A bar that is not held and does not move under its target valve has that valve off (R122). -/
theorem targetValve_off {r : BarRec} {down : Bool} (h : BarShape r) (away : r.heldAt down = false)
    (still : ¬ (r.state = movingState down ∧ r.targetValve down = true)) : r.targetValve down = false := by
  refine Bool.eq_false_iff.2 fun valve => ?_
  have elsewhere : r.state ≠ targetState down := by simpa [BarRec.heldAt, valve] using away
  have unmoving : r.state ≠ movingState down := fun moving => still ⟨moving, valve⟩
  obtain ⟨-, lower, raise, unknown, free, -⟩ := h
  cases state : r.state with
  | unknown => cases down <;> simp_all [BarRec.targetValve]
  | _ => cases down <;> simp_all [BarRec.targetValve, targetState, movingState]

/-- So its sequence starts with both valves off (R124 step 1). -/
theorem barShape_started {r : BarRec} {down : Bool} (off : r.targetValve down = false) (ms : Nat) :
    BarShape (r.started down ms) := by
  cases down <;>
    simp_all [BarShape, BarRec.started, BarRec.targetValve, movingState, BarTimer.isDead, BarTimer.isConfirm]

/-- Every write of a bar's record leaves valves, timer and state in agreement (R122 to R125). -/
theorem BarMove.shape {r q : BarRec} (move : BarMove r q) (h : BarShape r) : BarShape q := by
  cases move with
  | started down ms away still => exact barShape_started (targetValve_off h away still) ms
  | released up dn => exact barShape_released0 up dn
  | energized down ms moving =>
    cases down <;> simp_all [BarShape, BarRec.energized, movingState, BarTimer.isDead, BarTimer.isConfirm]
  | timed down ms moving valve =>
    cases down <;> simp_all [BarShape, BarRec.targetValve, movingState, BarTimer.isDead, BarTimer.isConfirm]
  | confirmed down moving valve =>
    cases down <;>
      simp_all [BarShape, BarRec.targetValve, movingState, targetState, BarTimer.isDead, BarTimer.isConfirm]
  | stopped => simp_all [BarShape, stopBarTimer, BarTimer.isDead, BarTimer.isConfirm]
  | timedOut running =>
    have unreleased : r.released ≠ true := fun freed => by
      obtain ⟨-, -, -, -, free, -⟩ := h
      obtain ⟨-, -, idle, -⟩ := free freed
      rw [idle] at running
      cases running
    simp_all [BarShape, BarTimer.isDead, BarTimer.isConfirm]
  | judged freed up dn =>
    rcases judgedState_cases up dn with e | e | e <;> simp_all [BarShape, BarTimer.isDead, BarTimer.isConfirm]

/-! ## Runs of such moves -/

/-- What the invariants of the bars and of the Needle Table read of a state. -/
def State.barView (s : State) : Params × Bars × List NeedleState × Bool :=
  (s.params, s.bars, s.monitor.needles, s.resetAsserted)

/-- A run of work from one state to a later one: moves of single bars with their hand-offs (R131), changes taken in hand
and ended, the needles judged (R140) or cleared (R142), and anything that leaves bars, needles and parameters alone. -/
inductive BarWork (s : State) : State → Prop where
  | refl : BarWork s s
  | other {t u : State} (work : BarWork s t) (view : u.barView = t.barView := by rfl) : BarWork s u
  | bar {t : State} {b : Bar} {r : BarRec} (work : BarWork s t) (move : BarMove (t.bars.get b) r) :
      BarWork s (setBar b r t)
  | change {t : State} {c : Option Change} (work : BarWork s t) :
      BarWork s { t with bars := { t.bars with change := c } }
  | judge {t : State} {ref : Ref} (work : BarWork s t) :
      BarWork s { t with monitor := { t.monitor with needles := judgeNeedles ref t } }
  | clear {t : State} (work : BarWork s t) : BarWork s (clearBroken t)

theorem BarWork.trans {s t u : State} (h : BarWork s t) (k : BarWork t u) : BarWork s u := by
  induction k with
  | refl => exact h
  | other _ view ih => exact ih.other view
  | bar _ move ih => exact ih.bar move
  | change _ ih => exact ih.change
  | judge _ ih => exact ih.judge
  | clear _ ih => exact ih.clear

/-- A write of one bar's record stands in the place of that bar alone. -/
theorem setBar_put (b : Bar) (r : BarRec) (s : State) : (setBar b r s).bars = s.bars.put b r := by
  unfold setBar
  dsimp only
  repeat' split
  all_goals rfl

theorem barsShape_iff (u : Bars) : BarsShape u ↔ ∀ b, BarShape (u.get b) :=
  ⟨fun ⟨h0, h1, h2⟩ b => by cases b <;> assumption, fun h => ⟨h .b0, h .b1, h .b2⟩⟩

/-- A bar's move keeps the interlock of every bar. -/
theorem barsShape_setBar {b : Bar} {r : BarRec} {s : State} (move : BarMove (s.bars.get b) r)
    (h : BarsShape s.bars) : BarsShape (setBar b r s).bars := by
  rw [barsShape_iff] at h ⊢
  intro c
  rw [setBar_get]
  split
  · exact move.shape (h b)
  · exact h c

/-- A run of work keeps the valves interlocked (R122 to R125). -/
theorem BarWork.barsShape {s t : State} (work : BarWork s t) (h : BarsShape s.bars) : BarsShape t.bars := by
  induction work with
  | refl => exact h
  | other _ view ih =>
    obtain ⟨-, bars, -⟩ := Prod.mk.inj view |>.imp_right Prod.mk.inj
    rw [bars]
    exact ih
  | bar _ move ih => exact barsShape_setBar move ih
  | change _ ih => exact ih
  | judge _ ih => exact ih
  | clear _ ih => exact ih

/-! ## What leaves the bars alone -/

section
variable {s t u : State} (h : BarWork s t)
include h

theorem BarWork.gov (only : SameButGov t u) : BarWork s u := by
  obtain ⟨_, rfl⟩ := only
  exact h.other

theorem BarWork.stop (only : SameButStop t u) : BarWork s u := by
  obtain ⟨_, _, _, _, rfl⟩ := only
  exact h.other

theorem BarWork.latch {src : FaultSource} {ref : Option Ref} : BarWork s (latch src ref t) := h.stop (latch_stop ..)

theorem BarWork.setMode {m : Mode} {p : Option StopPurpose} {k : Option StopKind} {why : Reason} :
    BarWork s (setMode m p k why t) := h.stop (setMode_stop ..)

theorem BarWork.reachStop {why : Reason} : BarWork s (reachStop why t) := h.stop (reachStop_stop ..)

theorem BarWork.stitchStop {why : Reason} : BarWork s (stitchStop why t) := h.stop (stitchStop_stop ..)

theorem BarWork.startOrder {p : Purpose} {c : List Nat} : BarWork s (startOrder p c t) := h.gov (startOrder_gov ..)

theorem BarWork.testResume : BarWork s (testResume t) := by
  obtain ⟨_, _, e⟩ := testResume_frame t
  rw [e]
  exact h.other

theorem BarWork.removeHead : BarWork s (removeHead t) := by
  obtain ⟨_, _, e, -⟩ := removeHead_frame t
  rw [e]
  exact h.other

theorem BarWork.recordBegun {r : PlanRecord} : BarWork s (recordBegun r t) := by
  obtain ⟨_, _, _, e⟩ := recordBegun_frame r t
  rw [e]
  exact h.other

theorem BarWork.endOrder {outcome : PanelOutcome} : BarWork s (endOrder outcome t) := by
  obtain ⟨_, _, _, _, _, e⟩ := endOrder_frame outcome t
  rw [e]
  exact h.other

theorem BarWork.addCmd {n : Nat} : BarWork s (addCmd n t) := by
  obtain ⟨_, _, _, _, _, e⟩ := addCmd_frame n t
  rw [e]
  exact h.other

theorem BarWork.endAudit {cause : EndCause} : BarWork s (endAudit cause t) := by
  obtain ⟨_, _, _, _, _, e⟩ := endAudit_frame cause t
  rw [e]
  exact h.other

theorem BarWork.judgeQueue {before : Nat} : BarWork s (judgeQueue before t) := by
  obtain ⟨_, _, e⟩ := judgeQueue_frame before t
  rw [e]
  exact h.other

theorem BarWork.monitorBurst {r : Ref} {src : StitchSource} : BarWork s (monitorBurst r src t) := by
  unfold Machine.monitorBurst
  split <;> exact h.other

/-! ## The bars at work (chapter 7) -/

theorem BarWork.confirmBar {b : Bar} : BarWork s (confirmBar b t) := by
  unfold Machine.confirmBar
  dsimp only
  split
  · rename_i moving
    split
    · rename_i shown
      exact h.bar (.confirmed true moving shown.1)
    · exact h
  · rename_i moving
    split
    · rename_i shown
      exact h.bar (.confirmed false moving shown.1)
    · exact h
  · exact h

theorem BarWork.energizeBar {b : Bar} : BarWork s (energizeBar b t) := by
  unfold Machine.energizeBar
  dsimp only
  split
  · rename_i moving
    exact (h.bar (.energized true t.params.barTimeout moving)).confirmBar
  · rename_i moving
    exact (h.bar (.energized false t.params.barTimeout moving)).confirmBar
  · exact h

theorem BarWork.beginBar {b : Bar} {down : Bool} : BarWork s (beginBar b down t) := by
  unfold Machine.beginBar
  dsimp only
  split
  · exact h
  rename_i away
  split
  · rename_i moving
    exact h.bar (.timed down _ moving.1 moving.2)
  rename_i still
  split
  · exact h
  rw [startBarSequence_eq]
  have started := h.bar (.started down t.params.deadTime (Bool.eq_false_iff.2 away) still)
  split
  · exact started.energizeBar
  · exact started

theorem BarWork.beginBars {c : Change} : BarWork s (beginBars c t) := by
  unfold Machine.beginBars
  generalize c.kind.bars = bs
  induction bs generalizing t with
  | nil => exact h
  | cons b bs ih => exact ih h.beginBar

theorem BarWork.beginChange {kind : ChangeKind} {target : BarSet} : BarWork s (beginChange kind target t) := by
  unfold Machine.beginChange
  split
  · exact h.change.beginBars
  · exact h.change

theorem BarWork.askRestore {target : BarSet} : BarWork s (askRestore target t).1 := by
  unfold Machine.askRestore
  dsimp only
  split
  · exact h.change
  · split
    · exact h.beginChange.change
    · exact h.beginChange

theorem BarWork.estopBars : BarWork s (estopBars t) :=
  (((h.bar (.released ..)).bar (.released ..)).bar (.released ..)).change

end

/-- A move that does not touch the state of a bar is handed to nobody (R131). -/
theorem setBar_unmoved {b : Bar} {r : BarRec} {s : State} (h : r.state = (s.bars.get b).state) :
    setBar b r s = { s with bars := s.bars.put b r } := by
  simp [setBar, h]

theorem BarWork.stopTimer {s t : State} (h : BarWork s t) (b : Bar) :
    BarWork s { t with bars := t.bars.put b (stopBarTimer (t.bars.get b)) } := by
  rw [← setBar_unmoved (r := stopBarTimer (t.bars.get b)) rfl]
  exact h.bar .stopped

theorem BarWork.abortChange {s t : State} (h : BarWork s t) : BarWork s (abortChange t) := by
  unfold Machine.abortChange
  split
  · exact h
  · split
    · exact h
    · exact (((h.stopTimer .b0).stopTimer .b1).stopTimer .b2).change

end Sys2Proof.Machine
end

section
/-! PROOFS. The resume sequence and the Line Controller as work on the needle bars: what they hand to the bars is a
change taken in hand or ended (R124, R127, R128, R148). -/

namespace Sys2Proof.Machine

/- The lemmas of these chains cite one another, so each is checked as it stands. -/
set_option Elab.async false

section
variable {s t : State} (h : BarWork s t)
include h

/-! ## The resume sequence (R148) -/

theorem BarWork.enterRunning {why : Reason} {p : Purpose} {c : List Nat} : BarWork s (enterRunning why p c t) :=
  h.setMode.startOrder.testResume

/-- A step that asks for its restore, and goes on where that is done at once (R128). -/
theorem BarWork.asks {next : State → State} (goes : ∀ {u}, BarWork s u → BarWork s (next u)) {r : ResumeStep}
    {target : BarSet} : BarWork s (if (Machine.askRestore target (setStep r t)).2
      then next (Machine.askRestore target (setStep r t)).1 else (Machine.askRestore target (setStep r t)).1) := by
  have asked : BarWork s (Machine.askRestore target (setStep r t)).1 := BarWork.askRestore h.other
  split
  · exact goes asked
  · exact asked

theorem BarWork.headStepBase : BarWork s (headStepBase t) := by
  unfold Machine.headStepBase
  dsimp only
  split
  · exact BarWork.enterRunning h.other
  · exact h.other

theorem BarWork.restoreStepBase : BarWork s (restoreStepBase t) := by
  unfold Machine.restoreStepBase
  split
  · exact h.headStepBase
  · exact h.asks BarWork.headStepBase

theorem BarWork.completeRecordChange : BarWork s (completeRecordChange t) := h.change.removeHead

theorem BarWork.headStep : BarWork s (headStep t) := by
  unfold Machine.headStep
  split
  · rename_i target _ _
    have begun : BarWork s (Machine.beginChange .record target (setStep .none t)) := BarWork.beginChange h.other
    dsimp only
    split
    · split
      · exact begun.completeRecordChange.restoreStepBase
      · exact begun
    · exact h.headStepBase
  · exact h.headStepBase

theorem BarWork.restoreStep : BarWork s (restoreStep t) := by
  unfold Machine.restoreStep
  split
  · exact h.headStep
  · exact h.asks BarWork.headStep

theorem BarWork.startReplay : BarWork s (startReplay t) := BarWork.enterRunning h.other

theorem BarWork.replayStep : BarWork s (replayStep t) := by
  unfold Machine.replayStep
  split
  · exact h.restoreStep
  · exact h.asks BarWork.startReplay

theorem BarWork.backMoveStep : BarWork s (backMoveStep t) := by
  unfold Machine.backMoveStep
  split
  · split
    · exact h.other
    · split
      · exact BarWork.replayStep h.other
      · exact h.other
  · exact h.replayStep

theorem BarWork.startFrozen : BarWork s (startFrozen t) := by
  unfold Machine.startFrozen
  split
  · exact h
  · split
    · exact h.enterRunning
    · exact h.startReplay

theorem BarWork.frozenStep : BarWork s (frozenStep t) := by
  unfold Machine.frozenStep
  split
  · exact h.backMoveStep
  · exact h.asks BarWork.startFrozen

theorem BarWork.takeStep : BarWork s (takeStep t) := by
  unfold Machine.takeStep
  split
  · exact h.frozenStep
  · exact h.frozenStep
  · exact h.backMoveStep
  · exact h.replayStep
  · exact h.restoreStep
  · exact h.restoreStep
  · exact h.restoreStep

theorem BarWork.parkDone : BarWork s (parkDone t) := by
  unfold Machine.parkDone
  split
  · split
    · exact h.setMode.takeStep
    · exact h.setMode.takeStep
    · exact h.reachStop
  · exact h

theorem BarWork.orderPark : BarWork s (orderPark t) := by
  have ordered := h.gov (parkOrder_gov t)
  unfold Machine.orderPark
  dsimp only
  split
  · exact ordered.parkDone
  · exact ordered

theorem BarWork.stopForRecord {p : StopPurpose} : BarWork s (stopForRecord p t) := h.setMode.orderPark

theorem BarWork.watch {emptied : Bool} : BarWork s (watch emptied t) := by
  unfold Machine.watch
  split
  · split
    · exact h
    · split
      · split
        · exact h.stopForRecord
        · exact h
      · exact h.stopForRecord
  · exact h

theorem BarWork.beginResume {why : Reason} : BarWork s (beginResume why t) := (BarWork.setMode h.other).orderPark

/-! ## The Line Controller's reports -/

/-- A stop that awaited the work in hand, carried on where one is on (R153). -/
theorem BarWork.stitchStopIf {why : Reason} : BarWork s (if t.stitchStopOn then Machine.stitchStop why t else t) := by
  split
  · exact h.stitchStop
  · exact h

theorem BarWork.lineBurstDone {last emptied : Bool} : BarWork s (lineBurstDone last emptied t) := by
  have ended : BarWork s (endStep emptied t) := by
    unfold endStep
    split <;> exact h.other
  unfold Machine.lineBurstDone
  dsimp only
  split
  · exact ended.stitchStop
  split
  · split
    · exact BarWork.stitchStop ended.other
    · exact ended
  split
  · split
    · exact BarWork.stopForRecord ended.other
    · exact ended.watch
  · exact ended

theorem BarWork.restoreDone : BarWork s (restoreDone t) := by
  unfold Machine.restoreDone
  split
  · split
    · exact h.startFrozen
    · exact h.startReplay
    · exact h.headStep
    · exact h
  · exact h

theorem BarWork.lineRecordDone : BarWork s (lineRecordDone t) := by
  unfold Machine.lineRecordDone
  split
  · exact h.stitchStop
  · split
    · exact h.takeStep
    · exact h

theorem BarWork.lineFeedDone : BarWork s (lineFeedDone t) := by
  unfold Machine.lineFeedDone
  split
  · exact BarWork.setMode h.other
  · exact h.lineRecordDone

theorem BarWork.lineBackMoveDone : BarWork s (lineBackMoveDone t) := by
  unfold Machine.lineBackMoveDone
  extract_lets _ u
  have moved : BarWork s u := h.other
  split
  · exact moved.stitchStop
  · split
    · exact moved.replayStep
    · exact moved

theorem BarWork.lineCount {d : Direction} : BarWork s (lineCount d t) := by
  unfold Machine.lineCount
  split
  · extract_lets n u
    split
    · exact BarWork.latch h.other
    · exact h.other
  · exact h

theorem BarWork.lineStopped : BarWork s (lineStopped t) := by
  unfold Machine.lineStopped
  split
  · exact h.reachStop
  · exact h

/-! ## The line's requests (R147, R152, R155, R160, R165) -/

theorem BarWork.cancelHold {why : Reason} : BarWork s (cancelHold why t) := by
  unfold Machine.cancelHold
  split
  · dsimp only
    split
    · exact h.setMode
    · exact h.setMode.takeStep
  · dsimp only
    split
    · exact h.setMode.orderPark
    · exact h.setMode
  · dsimp only
    split
    · exact h.setMode.orderPark
    · exact h.setMode
  · extract_lets u v
    have running : BarWork s u := h.setMode
    have started : BarWork s v := by
      unfold v
      split
      · split <;> exact running.startOrder
      · exact running
    exact started.testResume.watch

theorem BarWork.decideRun {why : Reason} : BarWork s (decideRun why t).1 := by
  unfold Machine.decideRun
  dsimp only
  split
  · exact h
  split
  · exact h
  split
  · exact h
  split
  · exact h
  split
  · exact BarWork.cancelHold h.other
  · exact BarWork.beginResume h.other

theorem BarWork.decideHold {kind : HoldKind} {why : Reason} : BarWork s (decideHold kind why t).1 := by
  unfold Machine.decideHold
  split
  case h_1 | h_2 => exact h.stop (beginHold_stop ..)
  case h_3 =>
    split
    · exact h.stop (beginHold_stop ..)
    · split
      · exact h.setMode.stop (carryHold_stop ..)
      · exact h
    · exact h
    · exact h.stop (beginHold_stop ..)
  all_goals exact h

theorem BarWork.decideRest {r : ReqMode} {m : Mode} : BarWork s (decideRest r m t).1 := by
  unfold Machine.decideRest
  split
  case h_5 =>
    split
    · exact h
    · exact BarWork.setMode h.other
  all_goals exact h

theorem BarWork.decideClearFaults : BarWork s (decideClearFaults t).1 := by
  unfold Machine.decideClearFaults
  dsimp only
  split
  · exact h
  split
  · unfold leaveFaulted
    split
    · split <;> exact BarWork.setMode (BarWork.other (BarWork.clear h.other))
    · exact BarWork.clear h.other
  · exact BarWork.clear h.other

theorem BarWork.decideAbort : BarWork s (decideAbort t).1 := by
  unfold Machine.decideAbort
  split
  case h_4 =>
    split
    · exact h
    · extract_lets m a l b
      have aborted : BarWork s a := BarWork.abortChange h.other
      exact BarWork.endOrder aborted.other
  all_goals exact h

/-! ## The Thread Monitor and the Travel Audit -/

theorem BarWork.evaluate {r : Ref} : BarWork s (evaluate r t) := by
  unfold Machine.evaluate
  dsimp only
  split
  · exact h.judge
  · exact BarWork.latch h.judge.other

theorem BarWork.monitorOpen : BarWork s (monitorOpen t) := by
  unfold Machine.monitorOpen
  extract_lets _ u
  have judged : BarWork s u := by
    unfold u
    split
    · exact h
    · split
      · split
        · exact h.other
        · exact h.evaluate
      · exact h
  exact judged.other

theorem BarWork.monitorClose : BarWork s (monitorClose t) := by
  unfold Machine.monitorClose
  split <;> exact h.other

theorem BarWork.scanBegins : BarWork s (scanBegins t) := by
  unfold Machine.scanBegins
  split <;> exact h.other

theorem BarWork.scanEnds {received : BitVec 104} : BarWork s (scanEnds received t) := by
  unfold Machine.scanEnds
  split
  · exact h
  · split
    · exact h.other
    · unfold scanFailed
      dsimp only
      split
      · exact h.other
      · exact BarWork.latch h.other

theorem BarWork.endAtLimit {cause : EndCause} {n : Nat} : BarWork s (endAtLimit cause n t) := by
  unfold Machine.endAtLimit
  split
  · exact h.endAudit
  · exact h

theorem BarWork.addRoll : BarWork s (addRoll t) := by
  unfold Machine.addRoll
  split
  · exact BarWork.endAtLimit h.other
  · exact h

theorem BarWork.addWheel : BarWork s (addWheel t) := by
  unfold Machine.addWheel
  split
  · exact BarWork.endAtLimit h.other
  · exact h

theorem BarWork.auditIndex : BarWork s (auditIndex t) := by
  unfold Machine.auditIndex
  split <;> exact h.other

end

end Sys2Proof.Machine
end

section
/-! PROOFS. The moves, the commands of the bars, the shaft and the requests as work on the needle bars, and the interlock
of the valves through every step (R122 to R125). -/

namespace Sys2Proof.Machine

/- The lemmas of these chains cite one another, so each is checked as it stands. -/
set_option Elab.async false

section
variable {s t : State} (h : BarWork s t)
include h

/-! ## The Motion Output: bursts -/

theorem BarWork.countStitch : BarWork s (countStitch t) := h.other

theorem BarWork.completeHeadBurst {b : Burst} : BarWork s (completeHeadBurst b t) := by
  unfold Machine.completeHeadBurst
  extract_lets a c
  have appended : BarWork s a := h.removeHead.other
  have counted : BarWork s c := appended.addCmd.countStitch
  exact BarWork.lineBurstDone counted.monitorBurst.other

theorem BarWork.completeReplayBurst {b : Burst} : BarWork s (completeReplayBurst b t) := by
  unfold Machine.completeReplayBurst
  extract_lets _ a c
  have formed : BarWork s a := h.other
  have replayed : BarWork s c := formed.addCmd.monitorBurst
  exact BarWork.lineBurstDone replayed.other

theorem BarWork.completeBurst {b : Burst} : BarWork s (completeBurst b t) := by
  unfold Machine.completeBurst
  split
  · exact h.completeHeadBurst
  · exact h.completeReplayBurst

theorem BarWork.emitBurst {w : Nat} {b : Burst} : BarWork s (emitBurst w b t) := by
  unfold Machine.emitBurst burstPeriod
  dsimp only
  split
  · exact h.other
  · split <;> exact h.other

theorem BarWork.openBurst {b : Burst} : BarWork s (openBurst b t) := by
  unfold Machine.openBurst
  dsimp only
  split
  · exact BarWork.completeBurst h.other
  · exact BarWork.emitBurst h.other

theorem BarWork.motionOpen : BarWork s (motionOpen t) := by
  unfold Machine.motionOpen
  split
  · split
    · exact h.openBurst
    · split
      · exact h
      · split
        · exact h.recordBegun.openBurst
        · exact h
  · exact h

theorem BarWork.motionClose : BarWork s (motionClose t) := by
  unfold Machine.motionClose
  split
  · exact BarWork.latch h.other
  · exact h

/-! ## The Motion Output: feed records -/

theorem BarWork.completeFeed : BarWork s (completeFeed t) := by
  unfold Machine.completeFeed
  extract_lets gap a _ b
  have record : BarWork s b := h.removeHead.other
  have ended : BarWork s (if gap then Machine.endOrder .done b else b) := by
    split
    · exact record.endOrder
    · exact record
  exact BarWork.lineFeedDone ended.other

theorem BarWork.completeMove {f : Feed} : BarWork s (completeMove f t) := by
  unfold Machine.completeMove
  split
  · exact h.completeFeed
  · exact BarWork.lineBackMoveDone h.other

theorem BarWork.feedSpent {f : Feed} : BarWork s (feedSpent f t) := by
  unfold Machine.feedSpent
  split
  · exact BarWork.stitchStopIf (BarWork.latch h.other)
  · split
    · exact h.other
    · exact h.completeMove

theorem BarWork.moveFeed {f : Feed} : BarWork s (moveFeed f t) := by
  unfold Machine.moveFeed
  dsimp only
  split
  · exact BarWork.feedSpent h.other
  · exact h.other

theorem BarWork.beginFeed {kind : FeedKind} {x y : Int} : BarWork s (beginFeed kind x y t) := by
  unfold Machine.beginFeed
  dsimp only
  split
  · exact h.moveFeed
  · exact h.moveFeed
  · split <;> exact h.moveFeed
  · exact h.moveFeed

theorem BarWork.beginHead : BarWork s (beginHead t) := by
  unfold Machine.beginHead
  split
  · exact h.recordBegun.removeHead.lineRecordDone
  · refine BarWork.beginFeed (BarWork.recordBegun ?_)
    split
    · split
      · exact h.other
      · exact h
    · exact h
  · exact h

theorem BarWork.resumeFeed {f : Feed} : BarWork s (resumeFeed f t) := by
  unfold Machine.resumeFeed
  split
  · exact h.moveFeed
  · split <;> exact h.moveFeed

theorem BarWork.setAside : BarWork s (setAside t) := by
  unfold Machine.setAside
  split
  · exact h
  · exact h.other

theorem BarWork.takeUpHead : BarWork s (takeUpHead t) := by
  unfold Machine.takeUpHead
  split
  · split
    · exact h.resumeFeed
    · exact BarWork.beginHead h.other
  · split
    · exact BarWork.resumeFeed h.other
    · exact h.beginHead

theorem BarWork.beginNextFeed : BarWork s (beginNextFeed t) := by
  unfold Machine.beginNextFeed
  split
  · exact BarWork.moveFeed h.setAside.other
  · split
    · exact h.takeUpHead
    · exact h

theorem BarWork.feedBegin : BarWork s (feedBegin t) := by
  unfold Machine.feedBegin
  split
  · split
    · exact h.beginNextFeed
    · split
      · exact h.resumeFeed
      · split
        · exact h.beginNextFeed
        · exact h
  · exact h

/-! ## The Motion Output: step pulses, homing, marks and cuts -/

theorem BarWork.movePulse {axis : Axis} {positive : Bool} : BarWork s (movePulse axis positive t) := by
  unfold Machine.movePulse
  split
  · split
    · exact h.other
    · exact h
  · exact h.other

theorem BarWork.burstPulse {axis : Axis} {b : Burst} : BarWork s (burstPulse axis b t) := by
  unfold Machine.burstPulse
  extract_lets c p _ u
  have pulsed : BarWork s u := BarWork.movePulse h.other
  split
  · exact pulsed.completeBurst
  · exact pulsed

theorem BarWork.feedPulse {axis : Axis} {f : Feed} : BarWork s (feedPulse axis f t) := by
  unfold Machine.feedPulse
  extract_lets g p u v
  have pulsed : BarWork s u := BarWork.movePulse h.other
  have counted : BarWork s v := by
    cases axis with
    | x => exact pulsed
    | y => exact pulsed.addCmd
  split
  · exact counted.feedSpent
  · exact counted

theorem BarWork.stepDue {axis : Axis} : BarWork s (stepDue axis t) := by
  unfold Machine.stepDue
  split
  · split
    · exact h
    · split
      · exact h.burstPulse
      · exact h.other
  · split
    · split
      · exact h
      · split
        · exact h.feedPulse
        · exact h.other
    · exact h

theorem BarWork.emitHeld {axis : Axis} : BarWork s (emitHeld axis t) := by
  unfold Machine.emitHeld
  split
  · split
    · exact h.burstPulse
    · exact h
  · split
    · split
      · exact h.feedPulse
      · exact h
    · exact h

theorem BarWork.homingPulse {m : Homing} : BarWork s (homingPulse m t) := by
  unfold Machine.homingPulse
  dsimp only
  split <;> exact h.other

theorem BarWork.homingDue : BarWork s (homingDue t) := by
  unfold Machine.homingDue
  split
  · exact h
  · split
    · exact h
    · split
      · exact h.homingPulse
      · exact h.other

theorem BarWork.emitHeldHoming : BarWork s (emitHeldHoming t) := by
  unfold Machine.emitHeldHoming
  split
  · exact h
  · split
    · exact h.homingPulse
    · exact h

theorem BarWork.emitWaiting : BarWork s (emitWaiting t) := by
  unfold Machine.emitWaiting
  split
  · exact h.emitHeld.emitHeld.emitHeldHoming
  · exact h

theorem BarWork.decideHomeX : BarWork s (decideHomeX t).1 := by
  unfold Machine.decideHomeX startHoming
  dsimp only
  repeat' split
  all_goals exact h.other

theorem BarWork.xhomeLevel {level : Bool} : BarWork s (xhomeLevel level t) := by
  unfold Machine.xhomeLevel
  split
  · exact h
  · split <;> exact h.other

theorem BarWork.markEdge : BarWork s (markEdge t) := by
  unfold Machine.markEdge
  split
  · exact h
  · split
    · exact BarWork.completeFeed h.other
    · exact h

theorem BarWork.cutEnds : BarWork s (cutEnds t) := by
  unfold Machine.cutEnds
  dsimp only
  split
  · exact h
  split
  · exact h.other
  · split
    · split
      · exact BarWork.stitchStopIf h.other
      · exact BarWork.moveFeed h.other
    · exact h.other

theorem BarWork.estopMotion : BarWork s (estopMotion t) := by
  unfold Machine.estopMotion
  dsimp only
  split <;> exact h.other

/-! ## The commands of the bars (R124 to R129) -/

theorem BarWork.settleChange : BarWork s (settleChange t) := by
  unfold Machine.settleChange
  split
  · exact h
  · split
    · split
      · exact h.completeRecordChange.lineRecordDone
      · exact BarWork.restoreDone h.change
      · exact h.change
    · exact h

theorem BarWork.beginWaiting : BarWork s (beginWaiting t) := by
  unfold Machine.beginWaiting
  split
  · exact h
  · split
    · exact h.beginChange.settleChange
    · exact h

theorem BarWork.barChangeBegin : BarWork s (barChangeBegin t) := by
  unfold Machine.barChangeBegin
  split
  · exact h.beginWaiting
  · split
    · split
      · exact h.recordBegun.beginChange.settleChange
      · exact h
    · exact h

theorem BarWork.deadTimeEnds {b : Bar} : BarWork s (deadTimeEnds b t) := by
  unfold Machine.deadTimeEnds
  split
  · split
    · exact h.bar .stopped
    · exact h.energizeBar.settleChange
  · exact h

theorem BarWork.endForce {b : Bar} : BarWork s (endForce b t) := by
  unfold Machine.endForce
  split
  · split
    · exact h.change
    · exact h
  · exact h

theorem BarWork.barTimesOut {b : Bar} : BarWork s (barTimesOut b t) := by
  unfold Machine.barTimesOut
  dsimp only
  split
  · rename_i running
    exact (h.bar (.timedOut running)).endForce.latch
  · exact h

theorem BarWork.barInputs {b : Bar} : BarWork s (barInputs b t) := by
  unfold Machine.barInputs
  dsimp only
  split
  · rename_i released
    exact h.bar (.judged released ..)
  · exact h.confirmBar.settleChange

theorem BarWork.decideForceBar {bar dir : Byte} : BarWork s (decideForceBar bar dir t).1 := by
  unfold Machine.decideForceBar
  split
  · exact h
  split
  · exact h
  split
  · exact h
  split
  · exact h
  split
  · exact h
  exact h.beginChange.settleChange

/-! ## The shaft -/

theorem BarWork.deliverOpen : BarWork s (deliverOpen t) := by
  have drawn : BarWork s (drawChoice t).2 := h.other
  unfold Machine.deliverOpen
  dsimp only
  split
  · split
    · exact drawn.motionOpen.monitorOpen
    · exact drawn.monitorOpen.motionOpen
  · exact h.monitorOpen.motionOpen

theorem BarWork.reachAngle : BarWork s (reachAngle t) := by
  unfold Machine.reachAngle
  dsimp only
  split
  · exact h
  split
  · split
    · exact BarWork.deliverOpen h.other
    · exact h
  split
  · exact BarWork.gov h.other (stopAngleGov_gov _)
  split
  · exact BarWork.monitorClose (BarWork.motionClose h.other)
  · exact h

theorem BarWork.countEffects {d : Direction} {encoder : Bool} : BarWork s (countEffects d encoder t) := by
  unfold Machine.countEffects
  extract_lets a b
  have lost : BarWork s a := by
    unfold a
    split
    · exact h.latch
    · exact h
  have reached : BarWork s b := by
    unfold b
    split
    · exact lost.reachAngle
    · exact lost
  exact reached.testResume.emitWaiting

theorem BarWork.takeCount {d : Direction} : BarWork s (takeCount d t) := by
  unfold Machine.takeCount
  extract_lets _ c _ u
  have counted : BarWork s u := h.other
  have drawn : BarWork s (drawChoice u).2 := counted.other
  split
  · split
    · exact drawn.countEffects.lineCount
    · exact drawn.lineCount.countEffects
  · exact counted.lineCount.countEffects

theorem BarWork.measureRevolution {now : Nat} : BarWork s (measureRevolution now t) := by
  unfold Machine.measureRevolution
  dsimp only
  repeat' split
  all_goals exact h.other

theorem BarWork.indexJump : BarWork s (indexJump t) := by
  unfold Machine.indexJump
  dsimp only
  split
  · have before : BarWork s (Machine.reachAngle (setShaft { t.shaft with position := -1 } t)) :=
      BarWork.reachAngle h.other
    exact BarWork.reachAngle before.other
  · split
    · exact BarWork.reachAngle h.other
    · exact h.other

theorem BarWork.deliverIndex {measured : Bool} : BarWork s (deliverIndex measured t) := by
  have drawn : BarWork s (drawChoice t).2 := h.other
  unfold Machine.deliverIndex
  dsimp only
  split
  · split
    · exact (drawn.gov (indexGov_gov ..)).auditIndex
    · exact drawn.auditIndex.gov (indexGov_gov ..)
  · exact (h.gov (indexGov_gov ..)).auditIndex

theorem BarWork.forwardIndex {now : Nat} : BarWork s (forwardIndex now t) := by
  have drawn : BarWork s (drawChoice t).2 := h.other
  unfold Machine.forwardIndex
  dsimp only
  split
  · split
    · exact drawn.measureRevolution.deliverIndex.indexJump
    · exact drawn.indexJump.measureRevolution.deliverIndex
  · exact h.indexJump.measureRevolution.deliverIndex

theorem BarWork.takeIndex {now : Nat} : BarWork s (takeIndex now t) := by
  unfold Machine.takeIndex
  extract_lets u
  have taken : BarWork s u := by
    unfold u
    split
    · exact h.other
    · split
      · exact h.forwardIndex
      · exact h.indexJump.other
      · exact h.indexJump.other
      · exact BarWork.latch h.other
  exact BarWork.emitWaiting taken.other

theorem BarWork.governorStopped : BarWork s (governorStopped t) := by
  have stopped := h.gov (stoppedGov_gov t)
  unfold Machine.governorStopped
  refine BarWork.lineStopped ?_
  split
  · exact stopped
  · exact stopped.parkDone
  · exact stopped.latch

theorem BarWork.shaftStops : BarWork s (shaftStops t) := by
  unfold Machine.shaftStops
  split
  · exact h
  extract_lets a
  have waited : BarWork s a := BarWork.beginWaiting h.other
  have drawn : BarWork s (drawChoice a).2 := waited.other
  split
  · split
    · exact drawn.governorStopped.emitWaiting
    · exact drawn.emitWaiting.governorStopped
  · exact waited.governorStopped

/-! ## The requests -/

theorem BarWork.decideOrderAdd {o : OrderFields} : BarWork s (decideOrderAdd o t).1 := by
  unfold Machine.decideOrderAdd
  split
  · exact h
  split
  · exact h
  split
  · exact h
  extract_lets spec r clamped order position reply used
  split
  · exact h
  split
  · exact h
  split
  · exact h
  split
  · exact h
  split
  · exact BarWork.judgeQueue h.other
  · obtain ⟨_, _, e⟩ := handToPlanner_frame spec { t with
      store := used, schedule := { t.schedule with orders := t.schedule.orders ++ [order.taken] } }
    dsimp only
    rw [e]
    exact h.other

theorem BarWork.decideOrderCancel {id : BitVec 16} : BarWork s (decideOrderCancel id t).1 := by
  unfold Machine.decideOrderCancel
  split
  · exact h
  split
  · exact h
  split
  · exact h
  · exact BarWork.judgeQueue h.other

/-! ### The pattern requests write the store alone (R6, R8, R10, R14) -/

theorem BarWork.decidePatternBegin {slot n : Byte} {x p : BitVec 16} {bars : Byte} :
    BarWork s (decidePatternBegin slot n x p bars t).1 := by
  unfold Machine.decidePatternBegin
  dsimp only
  repeat' split
  all_goals exact h.other

theorem BarWork.decidePatternAdd {slot : Byte} {records : List (BitVec 64)} :
    BarWork s (decidePatternAdd slot records t).1 := by
  unfold Machine.decidePatternAdd
  dsimp only
  repeat' split
  all_goals exact h.other

theorem BarWork.decidePatternEnd {slot : Byte} : BarWork s (decidePatternEnd slot t).1 := by
  unfold Machine.decidePatternEnd
  dsimp only
  repeat' split
  all_goals exact h.other

theorem BarWork.decidePatternErase {slot : Byte} : BarWork s (decidePatternErase slot t).1 := by
  unfold Machine.decidePatternErase
  dsimp only
  repeat' split
  all_goals exact h.other

/-! ### The shaft's requests write the Shaft Timing Unit alone (R79, R81) -/

theorem BarWork.decideSetTiming {o c a : BitVec 16} : BarWork s (decideSetTiming o c a t).1 := by
  unfold Machine.decideSetTiming
  dsimp only
  repeat' split
  all_goals exact h.other

theorem BarWork.decideRephase {a : BitVec 16} : BarWork s (decideRephase a t).1 := by
  unfold Machine.decideRephase
  dsimp only
  repeat' split
  all_goals exact h.other

end

/-- Every request but SET_PARAMS is work on the bars. -/
theorem decideRequest_barWork {c : Instr} {k tag : Byte} {d : State → State × Reply}
    (h : decideRequest c = some (k, tag, d)) (other : ∀ g pairs, c ≠ .setParams g pairs) (s : State) :
    BarWork s (d s).1 := by
  have start : BarWork s s := .refl
  cases c
  case setParams g pairs => exact absurd rfl (other g pairs)
  case getInfo | scheduleList | status | needles | auditResult | auditStart | reset => cases h; exact start.other
  case setTiming => cases h; exact start.decideSetTiming
  case rephase => cases h; exact start.decideRephase
  case orderAdd => cases h; exact start.decideOrderAdd
  case orderCancel => cases h; exact start.decideOrderCancel
  case patternBegin => cases h; exact start.decidePatternBegin
  case patternAdd => cases h; exact start.decidePatternAdd
  case patternEnd => cases h; exact start.decidePatternEnd
  case patternErase => cases h; exact start.decidePatternErase
  case patternInfo =>
    cases h
    unfold decidePatternInfo
    dsimp only
    split <;> exact start
  case history =>
    cases h
    unfold decideHistory
    split <;> exact start
  case getParams =>
    cases h
    unfold decideGetParams
    repeat' split
    all_goals exact start
  case modeRun => cases h; exact start.decideRun
  case modeHold =>
    cases h
    unfold decideModeHold
    split
    · exact start.decideHold
    · exact start
  case modeIdle | modeThread => cases h; exact start.decideRest
  case abortPanel => cases h; exact start.decideAbort
  case homeX => cases h; exact start.decideHomeX
  case forceBar => cases h; exact start.decideForceBar
  case clearFaults => cases h; exact start.decideClearFaults
  case auditStop =>
    cases h
    unfold decideAuditStop
    split
    · exact start.endAudit
    · exact start
  all_goals cases h

/-- SET_PARAMS leaves the bars alone (R182). -/
theorem decideSetParams_bars (pairs : List (BitVec 8 × BitVec 32)) (s : State) :
    (decideSetParams pairs s).1.bars = s.bars := by
  have written : ∀ values, (applyParams values s).bars = s.bars := fun values => by
    unfold applyParams governParams auditParams refit rearm
    dsimp only
    repeat' split
    all_goals rfl
  unfold decideSetParams
  dsimp only
  repeat' split
  case h_2 => exact written _
  all_goals rfl

/-! ## The events -/

theorem BarWork.transmit {s t : State} (h : BarWork s t) : BarWork s (transmit t) := h.other

/-- An event on the levels it finds or sets. -/
theorem barWork_of_event {f : State → State} {s u t : State} (h : ∀ v, BarWork v (f v))
    (e : finish (live f u) = .next t) (levels : u.barView = s.barView := by rfl) : BarWork s t := by
  cases e
  have start : BarWork s u := BarWork.refl.other levels
  refine BarWork.transmit ?_
  unfold live
  split
  · exact start
  · exact start.trans (h u)

/-- Every event is work on the bars but a reset and the inputs followed while RESETN is asserted (R123, R132). -/
theorem exec_event_barWork {c : Instr} {s t : State} (event : decideRequest c = none)
    (frame : ∀ k tag p, c ≠ .frameReceived k tag p) (byte : ∀ b, c ≠ .byteReceived b)
    (resets : c ≠ .resetn ∧ (∀ strap, c ≠ .resetTakesEffect strap) ∧ ∀ strap, c ≠ .resetnReleased strap)
    (held : s.resetAsserted = true → ∀ b up dn, c ≠ .barInputChange b up dn) (h : exec c s = .next t) : BarWork s t := by
  have start : ∀ v, BarWork v v := fun _ => .refl
  obtain ⟨pin, effect, release⟩ := resets
  cases c
  case resetn => exact absurd rfl pin
  case resetTakesEffect strap => exact absurd rfl (effect strap)
  case resetnReleased strap => exact absurd rfl (release strap)
  case frameReceived k tag p => exact absurd rfl (frame k tag p)
  case byteReceived b => exact absurd rfl (byte b)
  case barInputChange b up dn =>
    cases h
    refine BarWork.transmit ?_
    split
    · rename_i asserted
      exact absurd rfl (held asserted b up dn)
    · exact BarWork.barInputs (start s).other
  case estopReleased | drvfltReleased => cases h; exact BarWork.transmit (start s).other
  case interByteGap | framingErrorOrBreak => exact barWork_of_event (f := setAsm none) (fun v => (start v).other) h
  case frameTransmitted =>
    refine barWork_of_event (fun v => ?_) h
    unfold txEnds
    split <;> exact (start v).other
  case indexPulse => exact barWork_of_event (fun v => (start v).takeIndex) h
  case stopped => exact barWork_of_event (fun v => (start v).shaftStops) h
  case stepPulseDue => exact barWork_of_event (fun v => (start v).stepDue) h
  case feedBegin => exact barWork_of_event (fun v => (start v).feedBegin) h
  case markEdge => exact barWork_of_event (fun v => (start v).markEdge) h
  case cutTimeExpiry => exact barWork_of_event (fun v => (start v).cutEnds) h
  case homePulseDue => exact barWork_of_event (fun v => (start v).homingDue) h
  case xhomeAsserted => exact barWork_of_event (fun v => (start v).xhomeLevel) h
  case barChangeBegin => exact barWork_of_event (fun v => (start v).barChangeBegin) h
  case deadTimeExpiry => exact barWork_of_event (fun v => (start v).deadTimeEnds) h
  case barTimeout => exact barWork_of_event (fun v => (start v).barTimesOut) h
  case drvfltAsserted => exact barWork_of_event (fun v => (start v).latch) h
  case startInput => exact barWork_of_event (fun v => (start v).decideRun) h
  case jogReleased => exact barWork_of_event (fun v => (start v).gov (jogEnd_gov v)) h
  case scanTimerExpiry => exact barWork_of_event (fun v => (start v).scanBegins) h
  case scanComplete => exact barWork_of_event (fun v => (start v).scanEnds) h
  case estopAsserted => exact barWork_of_event (fun v => (start v).estopBars.estopMotion.latch) h
  case demandPwmPeriod => exact barWork_of_event (fun v => (start v).other) h
  case encoderCount =>
    refine barWork_of_event (fun v => ?_) h
    split
    · exact (start v).takeCount
    · exact start v
  case holdInput =>
    refine barWork_of_event (fun v => ?_) h
    split
    · exact (start v).decideHold
    · exact start v
  case jogPressed =>
    refine barWork_of_event (fun v => ?_) h
    split
    · exact (start v).gov (jogBegin_gov v)
    · exact start v
  case feedRollerEdge =>
    refine barWork_of_event (fun v => ?_) h
    split
    · exact (start v).addRoll
    · exact start v
  case measuringWheelEdge =>
    refine barWork_of_event (fun v => ?_) h
    split
    · exact (start v).addWheel
    · exact start v
  all_goals cases event

/-! ## Every step -/

/-- Every bar released, its state from its inputs (R123, R132). -/
theorem barsShape_fromInputs (p : Pins) : BarsShape (Bars.fromInputs p) :=
  ⟨barShape_released0 .., barShape_released0 .., barShape_released0 ..⟩

theorem barsShape_judgeReleased (b : Bar) {s : State} (h : BarsShape s.bars) : BarsShape (judgeReleased b s).bars := by
  have judged := barShape_released0 (s.pins.bup.mem b) (s.pins.bdn.mem b)
  obtain ⟨b0, b1, b2⟩ := h
  cases b
  · exact ⟨judged, b1, b2⟩
  · exact ⟨b0, judged, b2⟩
  · exact ⟨b0, b1, judged⟩

theorem decideRequest_barsShape {c : Instr} {k tag : Byte} {d : State → State × Reply}
    (h : decideRequest c = some (k, tag, d)) (s : State) (shape : BarsShape s.bars) : BarsShape (d s).1.bars := by
  by_cases params : ∃ g pairs, c = .setParams g pairs
  · obtain ⟨g, pairs, rfl⟩ := params
    cases h
    rw [decideSetParams_bars]
    exact shape
  · exact (decideRequest_barWork h (fun g pairs e => params ⟨g, pairs, e⟩) s).barsShape shape

theorem exec_event_barsShape {c : Instr} {s t : State} (event : decideRequest c = none)
    (frame : ∀ k tag p, c ≠ .frameReceived k tag p) (byte : ∀ b, c ≠ .byteReceived b) (h : exec c s = .next t)
    (shape : BarsShape s.bars) : BarsShape t.bars := by
  by_cases pin : c = .resetn
  · subst pin; cases h; exact barsShape_fromInputs _
  by_cases effect : ∃ strap, c = .resetTakesEffect strap
  · obtain ⟨strap, rfl⟩ := effect
    simp only [exec, execResetTakesEffect] at h
    split at h <;> cases h
    · exact barsShape_fromInputs _
    · exact shape
  by_cases release : ∃ strap, c = .resetnReleased strap
  · obtain ⟨strap, rfl⟩ := release
    simp only [exec, execResetnReleased] at h
    split at h <;> cases h
    · exact barsShape_fromInputs _
    · exact shape
  by_cases held : s.resetAsserted = true ∧ ∃ b up dn, c = .barInputChange b up dn
  · obtain ⟨asserted, b, up, dn, rfl⟩ := held
    simp only [exec, execBarInputChange, setPins_resetAsserted, asserted, if_true] at h
    cases h
    exact barsShape_judgeReleased b (s := setPins _ s) shape
  · exact (exec_event_barWork event frame byte
      ⟨pin, fun strap e => effect ⟨strap, e⟩, fun strap e => release ⟨strap, e⟩⟩
      (fun asserted b up dn e => held ⟨asserted, b, up, dn, e⟩) h).barsShape shape

/-- Settles O9: a step is a run of moves of single bars, each of which keeps the bar's valves, state and timer in agreement;
a reset, and RESETN asserted, release every bar. -/
theorem valvesInterlockedKept : Obligations.ValvesInterlockedKept :=
  fun _ _ shape next => step_preserves (P := fun s => BarsShape s.bars) (fun _ _ => id) decideRequest_barsShape
    (fun _ _ => id) exec_event_barsShape next shape

end Sys2Proof.Machine
end

section
/-! PROOFS. A change that ends at a command of the bars (R125, R127 to R129): what each kind hands on, and what the line
makes of it in FEEDING (R148, R149) and elsewhere. -/

namespace Sys2Proof.Machine

/- The lemmas of these chains cite one another, so each is checked as it stands. -/
set_option Elab.async false

/-! ## The change in hand settled -/

/-- What a complete change hands on to, by its kind, once it is no longer in hand (R127 to R129). -/
def ChangeKind.handOn : ChangeKind → State → State
  | .record, x => lineRecordDone (removeHead x)
  | .restore, x => restoreDone x
  | .force _, x => x

section
variable {y : State} {kind : ChangeKind} {target : BarSet}

theorem changeDone_none (h : y.bars.change = none) : y.changeDone = false := by simp only [State.changeDone, h]

theorem settleChange_undone (h : y.changeDone = false) : settleChange y = y := by
  unfold settleChange
  split
  · rfl
  · rw [h, if_neg Bool.false_ne_true]

/-- A change that does not wait is done as its bars are held. -/
theorem changeDone_iff (change : y.bars.change = some ⟨kind, target, false⟩) :
    y.changeDone = true ↔ ∀ b ∈ kind.bars, (y.bars.get b).heldAt (target.mem b) = true := by
  simp only [State.changeDone, change, Bool.not_false, Bool.true_and, changeComplete, List.all_eq_true]

variable (change : y.bars.change = some ⟨kind, target, false⟩)
  (held : ∀ b ∈ kind.bars, (y.bars.get b).heldAt (target.mem b) = true)
include change held

/-- A complete change ends and is handed on. -/
theorem settleChange_done : settleChange y = kind.handOn (dropChange y) := by
  have done : y.changeDone = true := (changeDone_iff change).2 held
  simp only [settleChange, change, done, if_true]
  cases kind <;> rfl

end

/-! ## The head taken off the queue (R37, R127) -/

/-- What is planned next reads the parameters, the accepted window and the Pattern Store. -/
theorem removeHead_planner_congr {s x : State} (params : x.params = s.params) (shaft : x.shaft = s.shaft)
    (store : x.store = s.store) (planner : x.planner = s.planner) : (removeHead x).planner = (removeHead s).planner := by
  refine appendRecord_planner_congr (funext fun c => ?_) (by rw [planner])
  show x.planContext c = s.planContext c
  simp only [State.planContext, params, shaft, store]

section
variable {x : State}

/-- What the removal leaves of the rest. -/
theorem removeHead_eq (x : State) :
    ∃ g, removeHead x = { x with planner := (removeHead x).planner, gov := { x.gov with demand := g } } := by
  obtain ⟨p, g, e, -, -⟩ := removeHead_frame x
  exact ⟨g, by rw [e]⟩

theorem removeHead_tail (x : State) : x.planner.queue.tail <+: (removeHead x).planner.queue := by
  obtain ⟨p, g, e, tail, -⟩ := removeHead_frame x
  rw [e]
  exact tail

/-! ## A record change's end at the line (R149) -/

/-- Whatever the line makes of it, the Plan Queue, the store and the setting stand. -/
theorem lineRecordDone_beside (unchanged : x.recordChangeInHand = false) :
    (lineRecordDone x).planner = x.planner ∧ (lineRecordDone x).store = x.store
      ∧ (lineRecordDone x).setting = x.setting := by
  refine ⟨?_, ?_, lineRecordDone_setting x⟩ <;> unfold lineRecordDone
  · split
    · exact (stitchStop_stop ..).beside.planner
    · split
      · rename_i feeding
        exact (takeStep_taken ⟨feeding, unchanged⟩).planner
      · rfl
  · split
    · exact (stitchStop_stop ..).beside.store
    · split
      · rename_i feeding
        exact (takeStep_taken ⟨feeding, unchanged⟩).store
      · rfl

/-- The line runs from where it stands, and the step's end leaves it so. -/
theorem StartsRunning.runsAfter {s y t : State} {p : Purpose} {c : List Nat} (h : StartsRunning p c y t)
    (gov : y.gov.state = s.gov.state := by rfl) (faults : y.line.faults = s.line.faults := by rfl) :
    RunsAfter s y.bars p c y.line.resumeStep (transmit t) := by
  obtain ⟨line, beside, -, -, orders⟩ := h
  rw [gov, faults] at orders
  exact ⟨by rw [transmit_line, line]; rfl, by rw [transmit_line, line]; rfl, beside.bars, orders,
    by rw [transmit_line, line]; rfl⟩

/-- A restore asked for while the shaft turns waits for it (R124). -/
theorem restoreStep_waits {st : Stitch} {last : Bool} (head : x.planner.headStitch = some (st, last))
    (turning : x.shaft.stopped = false)
    (away : ¬ ∀ b, (x.bars.get b).heldAt (st.bars.mem b) = true) :
    restoreStep x = beginChange .restore st.bars (setStep .restore x) := by
  have every : ∀ b : Bar, b ∈ ChangeKind.restore.bars := fun b => by cases b <;> decide
  have incomplete : ¬ changeComplete ⟨.restore, st.bars, false⟩ (setStep .restore x).bars = true := fun complete =>
    away fun b => List.all_eq_true.1 complete b (every b)
  have waits : beginChange .restore st.bars (setStep .restore x) = { setStep .restore x with
      bars := { x.bars with change := some ⟨.restore, st.bars, true⟩ } } := if_neg (by simp [turning])
  have unfinished : ¬ (beginChange .restore st.bars (setStep .restore x)).changeDone = true := by
    rw [waits]
    exact Bool.false_ne_true
  have asked : askRestore st.bars (setStep .restore x) = (beginChange .restore st.bars (setStep .restore x), false) :=
    (if_neg incomplete).trans (if_neg unfinished)
  simp only [restoreStep, head, asked, Bool.false_eq_true, if_false]

section
variable (feeding : x.line.effective = .feeding) (step : x.line.resumeStep = .none)
include feeding step

theorem lineRecordDone_bare (unchanged : x.recordChangeInHand = false) (bare : x.planner.headStitch = none) :
    (lineRecordDone x).bars = x.bars ∧ (lineRecordDone x).line = x.line ∧ (lineRecordDone x).motion = x.motion := by
  rw [lineRecordDone_feeding feeding]
  exact takeStep_afterRecord_bare ⟨feeding, unchanged⟩ step bare

variable {st : Stitch} {last : Bool} (head : x.planner.headStitch = some (st, last))
include head

theorem lineRecordDone_held (held : ∀ b, (x.bars.get b).heldAt (st.bars.mem b) = true) :
    StartsRunning .stitching [] (setStep .none (dropChange x)) (lineRecordDone x) := by
  rw [lineRecordDone_feeding feeding, takeStep_none step, restoreStep_held head held]
  obtain ⟨line, ⟨bars, planner, monitor, store⟩, waiting, steady, gov⟩ :=
    enterRunning_starts (s := setStep .none (dropChange (setStep .restore x))) feeding .record .stitching []
  exact ⟨line, ⟨bars, planner, monitor, store⟩, waiting, steady, gov⟩

theorem lineRecordDone_asks (lasts : 1 ≤ x.params.deadTime)
    (away : ¬ ∀ b, (x.bars.get b).heldAt (st.bars.mem b) = true) :
    (lineRecordDone x).line = { x.line with resumeStep := .restore }
      ∧ (lineRecordDone x).bars.change = some ⟨.restore, st.bars, !x.shaft.stopped⟩
      ∧ (lineRecordDone x).motion = x.motion := by
  rw [lineRecordDone_feeding feeding]
  cases stopped : x.shaft.stopped with
  | true => exact takeStep_afterRecord_asks stopped lasts step head away
  | false =>
    rw [takeStep_none step, restoreStep_waits head stopped away, beginChange, if_neg (by simp [stopped])]
    exact ⟨rfl, rfl, rfl⟩

end

/-! ### With the head just taken off the queue -/

section
variable (idle : x.bars.change = none)
include idle

theorem recordChangeInHand_none : x.recordChangeInHand = false := by simp only [State.recordChangeInHand, idle]

theorem removeHead_unchanged : (removeHead x).recordChangeInHand = false := by
  obtain ⟨g, e⟩ := removeHead_eq x
  rw [e]
  exact recordChangeInHand_none idle

/-- Whatever the line makes of the record's end, the queue is the one its removal leaves (R37, R127). -/
theorem recordEnds_beside : (lineRecordDone (removeHead x)).planner = (removeHead x).planner
    ∧ (lineRecordDone (removeHead x)).store = x.store ∧ (lineRecordDone (removeHead x)).setting = x.setting := by
  obtain ⟨planner, store, setting⟩ := lineRecordDone_beside (removeHead_unchanged idle)
  obtain ⟨g, e⟩ := removeHead_eq x
  refine ⟨planner, store.trans ?_, setting.trans (removeHead_setting x)⟩
  rw [e]

theorem recordEnds_bare (feeding : x.line.effective = .feeding) (step : x.line.resumeStep = .none)
    (bare : (removeHead x).planner.headStitch = none) : (lineRecordDone (removeHead x)).bars = x.bars
      ∧ (lineRecordDone (removeHead x)).line = x.line ∧ (lineRecordDone (removeHead x)).motion = x.motion := by
  have unchanged := removeHead_unchanged idle
  obtain ⟨g, e⟩ := removeHead_eq x
  rw [e] at unchanged ⊢
  exact lineRecordDone_bare (x := { x with planner := (removeHead x).planner, gov := { x.gov with demand := g } })
    feeding step unchanged bare

end

section
variable (feeding : x.line.effective = .feeding) (step : x.line.resumeStep = .none) {st : Stitch} {last : Bool}
  (head : (removeHead x).planner.headStitch = some (st, last))
include feeding step head

theorem recordEnds_held (held : ∀ b, (x.bars.get b).heldAt (st.bars.mem b) = true) :
    RunsAfter x (dropChange x).bars .stitching [] .none (transmit (lineRecordDone (removeHead x))) := by
  obtain ⟨g, e⟩ := removeHead_eq x
  have runs := (lineRecordDone_held (x := { x with planner := (removeHead x).planner, gov := { x.gov with demand := g } })
    feeding step head held).runsAfter (s := x)
  rw [e]
  exact runs

theorem recordEnds_asks (lasts : 1 ≤ x.params.deadTime) (away : ¬ ∀ b, (x.bars.get b).heldAt (st.bars.mem b) = true) :
    (lineRecordDone (removeHead x)).line = { x.line with resumeStep := .restore }
      ∧ (lineRecordDone (removeHead x)).bars.change = some ⟨.restore, st.bars, !x.shaft.stopped⟩
      ∧ (lineRecordDone (removeHead x)).motion = x.motion := by
  obtain ⟨g, e⟩ := removeHead_eq x
  rw [e]
  exact lineRecordDone_asks (x := { x with planner := (removeHead x).planner, gov := { x.gov with demand := g } })
    feeding step head lasts away

end

/-! ## A restore's end at the line (R128, R148) -/

theorem restoreDone_elsewhere (h : x.line.effective ≠ .feeding) : restoreDone x = x := if_neg h

theorem restoreDone_beside (unchanged : x.recordChangeInHand = false) :
    (restoreDone x).planner = x.planner ∧ (restoreDone x).store = x.store ∧ (restoreDone x).setting = x.setting := by
  refine ⟨?_, ?_, restoreDone_setting x⟩ <;> by_cases feeding : x.line.effective = .feeding
  · exact (restoreDone_taken ⟨feeding, unchanged⟩).planner
  · rw [restoreDone_elsewhere feeding]
  · exact (restoreDone_taken ⟨feeding, unchanged⟩).store
  · rw [restoreDone_elsewhere feeding]

section
variable (feeding : x.line.effective = .feeding)
include feeding

theorem startReplay_starts : StartsRunning .replay x.replayCeilings (replayBegin x) (startReplay x) :=
  enterRunning_starts (s := replayBegin x) feeding ..

/-- Step 2 goes on to the frozen burst: a head stitch's, or a replay begun anew. -/
theorem restoreDone_frozen_starts {u : Burst} (step : x.line.resumeStep = .frozen) (burst : x.motion.burst = some u) :
    (u.source = .head → StartsRunning .stitching [] x (restoreDone x))
    ∧ (u.source = .replay → StartsRunning .replay x.replayCeilings (replayBegin x) (restoreDone x)) := by
  refine ⟨fun source => ?_, fun source => ?_⟩ <;>
    simp only [restoreDone, feeding, if_true, step, startFrozen, burst, source]
  · exact enterRunning_starts feeding ..
  · exact startReplay_starts feeding

theorem restoreDone_replay_starts (step : x.line.resumeStep = .replay) :
    StartsRunning .replay x.replayCeilings (replayBegin x) (restoreDone x) := by
  simp only [restoreDone, feeding, if_true, step]
  exact startReplay_starts feeding

theorem restoreDone_head (step : x.line.resumeStep = .restore) (unchanged : x.recordChangeInHand = false) :
    restoreDone x = headStepBase x := by
  simp only [restoreDone, feeding, if_true, step, headStep_unchanged unchanged]

theorem restoreDone_restore_starts (step : x.line.resumeStep = .restore) (unchanged : x.recordChangeInHand = false)
    {st : Stitch × Bool} (head : x.planner.headStitch = some st) :
    StartsRunning .stitching [] (setStep .none x) (restoreDone x) := by
  rw [restoreDone_head feeding step unchanged, headStepBase_stitch head]
  exact enterRunning_starts (s := setStep .none x) feeding ..

theorem restoreDone_restore_bare (step : x.line.resumeStep = .restore) (unchanged : x.recordChangeInHand = false)
    (bare : x.planner.headStitch = none) : restoreDone x = setStep .none x := by
  rw [restoreDone_head feeding step unchanged, headStepBase_bare bare]

end

end

end Sys2Proof.Machine
end

section
/-! PROOFS. The bars begun and their dead time (R124, R125, R127, R129): what the commands of a bar do in one step. -/

namespace Sys2Proof.Machine

/- The lemmas of these chains cite one another, so each is checked as it stands. -/
set_option Elab.async false

/-! ## Bars and sets of bars -/

theorem BarSet.put_mem (t : BarSet) (b : Bar) : t.put b (t.mem b) = t := by cases b <;> rfl

theorem Bars.get_put (u : Bars) (b c : Bar) (r : BarRec) : (u.put b r).get c = if c = b then r else u.get c := by
  cases b <;> cases c <;> rfl

theorem Bars.get_put_same (u : Bars) (b : Bar) (r : BarRec) : (u.put b r).get b = r := by rw [get_put, if_pos rfl]

@[simp] theorem Bars.put_change (u : Bars) (b : Bar) (r : BarRec) : (u.put b r).change = u.change := by
  cases b <;> rfl

/-! ## The bar's own operations, by its state -/

section
variable {s : State} {b : Bar} {down : Bool}

/-- A moving bar is not held, whichever way it is asked. -/
theorem heldAt_of_moving {r : BarRec} (moving : r.state = movingState down) (d : Bool) : r.heldAt d = false := by
  cases down <;> cases d <;> simp [BarRec.heldAt, moving, movingState, targetState]

/-- A bar at its target with the target valve energized is held (R122). -/
theorem heldAt_of_arrived {r : BarRec} (arrived : r.state = targetState down) (valve : r.targetValve down = true) :
    r.heldAt down = true := by
  simp [BarRec.heldAt, arrived, valve]

theorem confirmBar_moving (moving : (s.bars.get b).state = movingState down)
    (valve : (s.bars.get b).targetValve down = true) :
    confirmBar b s = if confirmed down (s.pins.bup.mem b) (s.pins.bdn.mem b) then
      setBar b { s.bars.get b with state := targetState down, timer := .idle, timedOut := false } s else s := by
  cases down <;> simp only [movingState, Bool.false_eq_true, if_true, if_false] at moving <;>
    simp only [confirmBar, moving, valve, true_and]

theorem confirmBar_standing (stands : (s.bars.get b).state = .up ∨ (s.bars.get b).state = .down) :
    confirmBar b s = s := by
  rcases stands with e | e <;> simp only [confirmBar, e]

/-- The state with a moving bar's target valve energized (R124 steps 3 and 4). -/
def State.powered (s : State) (b : Bar) (down : Bool) : State :=
  { s with bars := s.bars.put b ((s.bars.get b).energized down s.params.barTimeout) }

/-- The target valve energized, the bar is judged by its inputs (R125). -/
theorem energizeBar_moving (moving : (s.bars.get b).state = movingState down) :
    energizeBar b s = confirmBar b (s.powered b down) := by
  rw [State.powered, ← setBar_unmoved (r := (s.bars.get b).energized down s.params.barTimeout) rfl]
  cases down <;> simp only [movingState, Bool.false_eq_true, if_true, if_false] at moving <;>
    simp [energizeBar, moving, BarRec.energized]

theorem powered_get (s : State) (b : Bar) (down : Bool) :
    (s.powered b down).bars.get b = (s.bars.get b).energized down s.params.barTimeout := Bars.get_put_same ..

theorem powered_moving (moving : (s.bars.get b).state = movingState down) :
    ((s.powered b down).bars.get b).state = movingState down
      ∧ ((s.powered b down).bars.get b).targetValve down = true := by
  rw [powered_get]
  exact ⟨moving, by cases down <;> simp [BarRec.energized, BarRec.targetValve]⟩

/-- A write that leaves a bar unheld completes no change. -/
theorem changeDone_put {r : BarRec} (unheld : ∀ d, r.heldAt d = false) (h : s.changeDone = false) :
    State.changeDone { s with bars := s.bars.put b r } = false := by
  cases change : s.bars.change with
  | none => exact changeDone_none (by simpa using change)
  | some c =>
    obtain ⟨kind, target, waiting⟩ := c
    cases waiting with
    | true => simp [State.changeDone, change]
    | false =>
      refine Bool.eq_false_iff.2 fun done => Bool.eq_false_iff.1 h ((changeDone_iff change).2 fun c hc => ?_)
      have held := (changeDone_iff (by simpa using change)).1 done c hc
      dsimp only at held
      rw [Bars.get_put] at held
      split at held
      · rw [unheld] at held
        cases held
      · exact held

end

/-! ## The commands of a bar, as the part runs -/

section
variable {s : State} (running : s.resetAsserted = false)
include running

theorem exec_deadTimeExpiry (b : Bar) : exec (.deadTimeExpiry b) s = .next (transmit (deadTimeEnds b s)) :=
  congrArg finish (live_running _ _ running)

theorem exec_barTimeout (b : Bar) : exec (.barTimeout b) s = .next (transmit (barTimesOut b s)) :=
  congrArg finish (live_running _ _ running)

theorem exec_barChangeBegin : exec .barChangeBegin s = .next (transmit (barChangeBegin s)) :=
  congrArg finish (live_running _ _ running)

/-- The input levels with one bar's two given. -/
def Pins.withBar (p : Pins) (b : Bar) (up dn : Bool) : Pins := { p with bup := p.bup.put b up, bdn := p.bdn.put b dn }

/-- The state with them. -/
def State.withInputs (s : State) (b : Bar) (up dn : Bool) : State := setPins (s.pins.withBar b up dn) s

theorem exec_barInputChange (b : Bar) (up dn : Bool) :
    exec (.barInputChange b up dn) s = .next (transmit (barInputs b (s.withInputs b up dn))) :=
  congrArg finish (if_neg (by simp [running]))

end

/-! ## The dead time's end (R124) -/

section
variable {s : State} {b : Bar} {ms : Nat} {down : Bool} (dead : (s.bars.get b).timer = .deadTime ms)
include dead

theorem deadTimeEnds_waits (waits : s.changeWaits = true) :
    deadTimeEnds b s = { s with bars := s.bars.put b { s.bars.get b with timer := .idle } } := by
  have runs : (s.bars.get b).timer.isDead = true := by rw [dead]; rfl
  rw [deadTimeEnds, if_pos runs, if_pos waits, setBar_unmoved (r := stopBarTimer (s.bars.get b)) rfl]
  rfl

theorem deadTimeEnds_powers (moving : (s.bars.get b).state = movingState down) (goes : s.changeWaits = false) :
    deadTimeEnds b s = settleChange (confirmBar b (s.powered b down)) := by
  have runs : (s.bars.get b).timer.isDead = true := by rw [dead]; rfl
  rw [deadTimeEnds, if_pos runs, if_neg (by simp [goes]), energizeBar_moving moving]

/-- Inputs that do not show the target leave the bar moving, its bar_timeout begun. -/
theorem deadTimeEnds_unshown (moving : (s.bars.get b).state = movingState down) (goes : s.changeWaits = false)
    (unfinished : s.changeDone = false) (unshown : confirmed down (s.pins.bup.mem b) (s.pins.bdn.mem b) = false) :
    deadTimeEnds b s = s.powered b down := by
  obtain ⟨still, valve⟩ := powered_moving moving
  have stays : confirmBar b (s.powered b down) = s.powered b down :=
    (confirmBar_moving still valve).trans (if_neg (Bool.eq_false_iff.1 unshown))
  rw [deadTimeEnds_powers dead moving goes, stays]
  exact settleChange_undone (changeDone_put (heldAt_of_moving moving) unfinished)

/-- Inputs that show the target complete the bar at once (R125). -/
theorem deadTimeEnds_shown (moving : (s.bars.get b).state = movingState down) (idle : s.bars.change = none)
    (shown : confirmed down (s.pins.bup.mem b) (s.pins.bdn.mem b) = true) :
    WritesBar b { (s.bars.get b).energized down s.params.barTimeout with
      state := targetState down, timer := .idle, timedOut := false } s (deadTimeEnds b s) := by
  have wrote := writesBar_energizeBar moving
  rw [if_pos shown] at wrote
  have none : (energizeBar b s).bars.change = none := wrote.change.trans idle
  rw [deadTimeEnds_powers dead moving (by simp [State.changeWaits, idle]), ← energizeBar_moving moving,
    settleChange_undone (changeDone_none none)]
  exact wrote

end

theorem changeWaits_iff (s : State) : s.changeWaits = true ↔ s.bars.change.map (fun c => c.waiting) = some true := by
  cases change : s.bars.change <;> simp [State.changeWaits, change]

theorem barInputs_held {s : State} {b : Bar} (h : (s.bars.get b).released = false) :
    barInputs b s = settleChange (confirmBar b s) := if_neg (by simp [h])

/-! ## FORCE_BAR (R129) -/

section
variable {s : State} {bar direction : Byte}

theorem Bar.ofNat_none {n : Nat} (h : 2 < n) : Bar.ofNat n = none := by
  obtain ⟨k, rfl⟩ := Nat.exists_eq_add_of_lt h
  rw [show 2 + k + 1 = k + 3 by omega]
  rfl

theorem Bar.ofNat_some {n : Nat} (h : n ≤ 2) : ∃ b, Bar.ofNat n = some b := by
  interval_cases n <;> exact ⟨_, rfl⟩

theorem directionOfByte_none (h : 1 < direction.toNat) : directionOfByte direction = none := by
  have zero : direction ≠ 0 := by rintro rfl; simp at h
  have one : direction ≠ 1 := by rintro rfl; simp at h
  rw [directionOfByte, if_neg zero, if_neg one]

theorem directionOfByte_some (h : direction.toNat ≤ 1) : ∃ down, directionOfByte direction = some down := by
  have named : direction = 0 ∨ direction = 1 := by
    rcases Nat.le_one_iff_eq_zero_or_eq_one.1 h with e | e
    · exact .inl (BitVec.eq_of_toNat_eq e)
    · exact .inr (BitVec.eq_of_toNat_eq e)
  rcases named with rfl | rfl <;> exact ⟨_, rfl⟩

theorem decideForceBar_bar (h : 2 < bar.toNat) : decideForceBar bar direction s = (s, Reply.field 0) := by
  simp only [decideForceBar, Bar.ofNat_none h]

theorem decideForceBar_direction (h : bar.toNat ≤ 2) (bad : 1 < direction.toNat) :
    decideForceBar bar direction s = (s, Reply.field 1) := by
  obtain ⟨b, e⟩ := Bar.ofNat_some h
  simp only [decideForceBar, e, directionOfByte_none bad]

/-- A bar and a direction named, the rest is checked in its order (R129). -/
theorem decideForceBar_named (h : bar.toNat ≤ 2 ∧ direction.toNat ≤ 1) : ∃ b down, ∀ s, decideForceBar bar direction s =
    if s.line.effective ≠ .threading then (s, Reply.because .notNow .mode)
    else if ¬ s.shaft.stopped ∨ s.pins.jog then (s, Reply.because .notNow .shaft)
    else if s.bars.change.isSome then (s, Reply.because .notNow .change)
    else (settleChange (beginChange (.force b) (forceTarget b down) s), Reply.good []) := by
  obtain ⟨b, named⟩ := Bar.ofNat_some h.1
  obtain ⟨down, way⟩ := directionOfByte_some h.2
  exact ⟨b, down, fun s => by simp only [decideForceBar, named, way]⟩

section
variable (named : bar.toNat ≤ 2 ∧ direction.toNat ≤ 1)
include named

theorem decideForceBar_mode (mode : s.line.effective ≠ .threading) :
    decideForceBar bar direction s = (s, Reply.because .notNow .mode) := by
  obtain ⟨b, down, decides⟩ := decideForceBar_named named
  exact (decides s).trans (if_pos mode)

variable (mode : s.line.effective = .threading)
include mode

theorem decideForceBar_shaft (turning : ¬ (s.shaft.stopped = true ∧ s.pins.jog = false)) :
    decideForceBar bar direction s = (s, Reply.because .notNow .shaft) := by
  obtain ⟨b, down, decides⟩ := decideForceBar_named named
  have turns : ¬ s.shaft.stopped = true ∨ s.pins.jog = true :=
    (not_and_or.1 turning).imp_right Bool.eq_true_of_not_eq_false
  rw [decides, if_neg (not_not.2 mode), if_pos turns]

theorem decideForceBar_change (quiet : s.shaft.stopped = true ∧ s.pins.jog = false) (change : s.bars.change ≠ none) :
    decideForceBar bar direction s = (s, Reply.because .notNow .change) := by
  obtain ⟨b, down, decides⟩ := decideForceBar_named named
  obtain ⟨stopped, jog⟩ := quiet
  have still : ¬ (¬ s.shaft.stopped = true ∨ s.pins.jog = true) := by simp [stopped, jog]
  rw [decides, if_neg (not_not.2 mode), if_neg still, if_pos (Option.isSome_iff_ne_none.2 change)]

end

end

theorem forceTarget_mem (b : Bar) (down : Bool) : (forceTarget b down).mem b = down := by
  cases b <;> cases down <;> rfl

theorem decideForceBar_taken {s : State} (b : Bar) (down : Bool) (mode : s.line.effective = .threading)
    (stopped : s.shaft.stopped = true) (jog : s.pins.jog = false) (idle : s.bars.change = none) :
    decideForceBar (BitVec.ofNat 8 (Bar.num b)) (if down then 1 else 0) s =
      (settleChange (beginChange (.force b) (forceTarget b down) s), Reply.good []) := by
  have named : Bar.ofNat (BitVec.ofNat 8 (Bar.num b)).toNat = some b := by cases b <;> rfl
  have way : directionOfByte (if down then 1 else 0) = some down := by cases down <;> rfl
  simp only [decideForceBar, named, way]
  simp [mode, stopped, jog, idle]

/-- A forced move begun with the shaft stopped: its bar judged, and the move in hand until it is held. -/
theorem settleChange_forced {s : State} (stopped : s.shaft.stopped = true) (b : Bar) (down : Bool) :
    let t := settleChange (beginChange (.force b) (forceTarget b down) s)
    (t.bars.change.map fun c => c.kind) = (if (s.judgedBar b down).heldAt down then none else some (.force b))
      ∧ t.bars.get b = s.judgedBar b down ∧ ∀ c, c ≠ b → t.bars.get c = s.bars.get c := by
  have bars := beginChange_stopped stopped (.force b) (forceTarget b down)
  have own : s.judgedFor (.force b) (forceTarget b down) b = s.judgedBar b down := by
    rw [State.judgedFor, if_pos (by simp [ChangeKind.bars]), forceTarget_mem]
  have others : ∀ c, c ≠ b → s.judgedFor (.force b) (forceTarget b down) c = s.bars.get c := fun c away =>
    if_neg fun same => away (List.mem_singleton.1 same)
  have done := (changeDone_of bars).trans
    (show _ ↔ (s.judgedBar b down).heldAt down = true by simp [ChangeKind.bars, own, forceTarget_mem])
  by_cases held : (s.judgedBar b down).heldAt down = true
  · have settled : settleChange (beginChange (.force b) (forceTarget b down) s) =
        dropChange (beginChange (.force b) (forceTarget b down) s) := by
      refine settleChange_done (kind := .force b) (target := forceTarget b down) (by rw [bars]; rfl) fun c hc => ?_
      rw [bars, Bars.of_get, List.mem_singleton.1 hc, own, forceTarget_mem]
      exact held
    have get : ∀ c, (dropChange (beginChange (.force b) (forceTarget b down) s)).bars.get c =
        s.judgedFor (.force b) (forceTarget b down) c := fun c => by
      rw [dropChange, bars]; cases c <;> rfl
    rw [settled, if_pos held]
    exact ⟨rfl, (get b).trans own, fun c away => (get c).trans (others c away)⟩
  · rw [settleChange_undone (Bool.eq_false_iff.2 (mt done.1 held)), if_neg held]
    dsimp only
    rw [bars]
    exact ⟨rfl, (Bars.of_get ..).trans own, fun c away => (Bars.of_get ..).trans (others c away)⟩

/-! ## The head BAR_CHANGE begun (R127) -/

/-- The head BAR_CHANGE just begun: every bar of its set judged, the change in hand. -/
structure HeadChangeBegun (s : State) (target : BarSet) (y : State) : Prop where
  bars : y.bars = Bars.of (fun b => s.judgedBar b (target.mem b)) (some ⟨.record, target, false⟩)
  planner : y.planner = { s.planner with headBegun := true }
  line : ∃ h, y.line = { s.line with history := h }
  motion : y.motion = s.motion
  store : y.store = s.store

theorem barChangeBegin_begins {s : State} {target : BarSet} {ref : Ref} {rest : List PlanRecord}
    (feeding : s.line.effective = .feeding) (stopped : s.shaft.stopped = true) (step : s.line.resumeStep = .none)
    (replay : s.line.replay = []) (idle : s.bars.change = none)
    (head : s.planner.queue = .barChange target ref :: rest) :
    ∃ y, HeadChangeBegun s target y ∧ barChangeBegin s = settleChange y := by
  obtain ⟨c, h, k, begun⟩ := recordBegun_frame (.barChange target ref) s
  obtain ⟨u, m, e⟩ := beginChange_bars .record target (recordBegun (.barChange target ref) s)
  have bars := beginChange_stopped (s := recordBegun (.barChange target ref) s) (by rw [begun]; exact stopped)
    .record target
  have judged : (recordBegun (.barChange target ref) s).judgedFor .record target =
      fun b => s.judgedBar b (target.mem b) := by
    funext b
    rw [begun, State.judgedFor, if_pos (by cases b <;> decide)]
    rfl
  rw [judged] at bars
  refine ⟨beginChange .record target (recordBegun (.barChange target ref) s), ⟨bars, ?_, ⟨h, ?_⟩, ?_, ?_⟩, ?_⟩
  case refine_5 => simp [barChangeBegin, Planner.head, feeding, stopped, step, replay, idle, head]
  all_goals rw [e, begun]

/-- A record change just begun goes on while a bar is to move, and ends with every bar held. -/
theorem settleChange_record {y : State} {judged : Bar → BarRec} {target : BarSet}
    (bars : y.bars = Bars.of judged (some ⟨.record, target, false⟩)) :
    ((∃ b, (judged b).heldAt (target.mem b) = false) → settleChange y = y)
    ∧ ((∀ b, (judged b).heldAt (target.mem b) = true) →
      settleChange y = lineRecordDone (removeHead (dropChange y))) := by
  refine ⟨fun ⟨b, away⟩ => settleChange_undone (Bool.eq_false_iff.2 fun done => ?_), fun held => ?_⟩
  · have stands := (changeDone_of bars).1 done b (by cases b <;> decide)
    rw [away] at stands
    cases stands
  · refine settleChange_done (kind := .record) (target := target) (by rw [bars]; rfl) fun b _ => ?_
    rw [bars, Bars.of_get]
    exact held b

section
variable {s y : State} {target : BarSet} (begun : HeadChangeBegun s target y)
include begun

/-- A bar still to move keeps the head and its change in hand. -/
theorem HeadChangeBegun.goesOn (away : ∃ b, (s.judgedBar b (target.mem b)).heldAt (target.mem b) = false) :
    (settleChange y).store = s.store ∧ (settleChange y).bars.change = some ⟨.record, target, false⟩
      ∧ (∀ b, (settleChange y).bars.get b = s.judgedBar b (target.mem b))
      ∧ (settleChange y).planner.queue = s.planner.queue ∧ (settleChange y).planner.headBegun = true
      ∧ (settleChange y).motion = s.motion := by
  obtain ⟨bars, planner, -, motion, store⟩ := begun
  rw [(settleChange_record bars).1 away, bars, planner]
  exact ⟨store, rfl, Bars.of_get _ _, rfl, rfl, motion⟩

/-- With every bar held the head leaves the queue, and one that is no stitch keeps the line FEEDING. -/
theorem HeadChangeBegun.ends (held : ∀ b, (s.judgedBar b (target.mem b)).heldAt (target.mem b) = true)
    (feeding : s.line.effective = .feeding) (step : s.line.resumeStep = .none) :
    (settleChange y).store = s.store ∧ s.planner.queue.tail <+: (settleChange y).planner.queue
      ∧ ((settleChange y).planner.headStitch = none → (settleChange y).bars.change = none
        ∧ (∀ b, (settleChange y).bars.get b = s.judgedBar b (target.mem b))
        ∧ (settleChange y).line.effective = .feeding ∧ (settleChange y).motion = s.motion) := by
  obtain ⟨bars, planner, ⟨h, line⟩, motion, store⟩ := begun
  obtain ⟨queue, kept, -⟩ := recordEnds_beside (x := dropChange y) rfl
  have tail := removeHead_tail (dropChange y)
  rw [dropChange_planner, planner] at tail
  rw [(settleChange_record bars).2 held, queue]
  refine ⟨kept.trans store, tail, fun bare => ?_⟩
  obtain ⟨stand, same, still⟩ := recordEnds_bare (x := dropChange y) rfl (by rw [dropChange_line, line]; exact feeding)
    (by rw [dropChange_line, line]; exact step) bare
  have ended : (dropChange y).bars = Bars.of (fun b => s.judgedBar b (target.mem b)) none := by rw [dropChange, bars]; rfl
  rw [stand, same, still, dropChange_line, line, ended]
  exact ⟨rfl, Bars.of_get _ _, feeding, motion⟩

end

/-- Settles O51: the head's change and a forced move by the bars they judge, a refusal by the first check that fails, and
the end of a dead time by the bar's inputs and the change in hand. -/
theorem barsMoveThroughDeadTime : Obligations.BarsMoveThroughDeadTime := by
  intro s
  refine ⟨fun target ref rest running feeding stopped step replay idle head => ?_,
    fun tag b down taken mode stopped jog idle => ?_, fun tag bar direction taken => ?_,
    fun b ms down running dead moving unfinished => ?_⟩
  · intro judged
    obtain ⟨y, begun, begins⟩ := barChangeBegin_begins feeding stopped step replay idle head
    rw [exec_barChangeBegin running, begins]
    by_cases held : ∀ b, (judged b).heldAt (target.mem b) = true
    · obtain ⟨store, tail, bare⟩ := begun.ends held feeding step
      rw [head] at tail
      exact ⟨_, rfl, store, fun ⟨b, away⟩ => absurd (held b) (Bool.eq_false_iff.1 away), fun _ => ⟨tail, bare⟩⟩
    · obtain ⟨b, away⟩ := not_forall.1 held
      obtain ⟨store, rest⟩ := begun.goesOn ⟨b, Bool.eq_false_iff.2 away⟩
      exact ⟨_, rfl, store, fun _ => rest, fun all => absurd all held⟩
  · have decided := decideForceBar_taken (s := keepLine s) b down mode stopped jog idle
    obtain ⟨change, own, others⟩ := settleChange_forced (s := keepLine s) stopped b down
    exact ⟨setTx s.link.tx (settleChange (beginChange (.force b) (forceTarget b down) (keepLine s))),
      exec_answered (d := decideForceBar _ _) rfl taken decided, change, own, others⟩
  · intro refused named quiet
    have refuses : ∀ r, decideForceBar bar direction (keepLine s) = (keepLine s, r) → refused r := fun r decided =>
      exec_refused (d := decideForceBar bar direction) rfl taken decided
    exact ⟨fun bad => refuses _ (decideForceBar_bar bad), fun good bad => refuses _ (decideForceBar_direction good bad),
      fun ok mode => refuses _ (decideForceBar_mode ok mode),
      fun ok mode turning => refuses _ (decideForceBar_shaft ok mode turning),
      fun ok mode still change => refuses _ (decideForceBar_change ok mode still change)⟩
  · intro waits r up dn powered
    have moves : (s.bars.get b).state = movingState down := moving
    refine ⟨fun h => ?_, fun h unshown => ?_, fun shown idle => ?_, fun h held => ?_⟩
    · rw [exec_deadTimeExpiry running, deadTimeEnds_waits dead ((changeWaits_iff s).2 h)]
    · rw [exec_deadTimeExpiry running, deadTimeEnds_unshown dead moves
        (Bool.eq_false_iff.2 (mt (changeWaits_iff s).1 h)) unfinished unshown]
      rfl
    · obtain ⟨get, -, -⟩ := deadTimeEnds_shown dead moves idle shown
      exact ⟨_, exec_deadTimeExpiry running b, (get b).trans (if_pos rfl), fun c away => (get c).trans (if_neg away)⟩
    · have same : s.pins.withBar b up dn = s.pins := by simp [Pins.withBar, up, dn, BarSet.put_mem]
      have inputs : exec (.barInputChange b up dn) (s.powered b down) =
          .next (transmit (settleChange (confirmBar b (s.powered b down)))) := by
        rw [exec_barInputChange (s := s.powered b down) running, ← barInputs_held (by rw [powered_get]; exact held)]
        exact congrArg (fun p => Host.Outcome.next (transmit (barInputs b (setPins p (s.powered b down))))) same
      rw [exec_deadTimeExpiry running, deadTimeEnds_powers dead moves (Bool.eq_false_iff.2 (mt (changeWaits_iff s).1 h))]
      exact inputs.symm

end Sys2Proof.Machine
end

section
/-! PROOFS. The inputs of a bar and its bar_timeout (R123, R125, R126), and what the end of a change makes of the line
(R127 to R129, R148, R149). -/

namespace Sys2Proof.Machine

/- The lemmas of these chains cite one another, so each is checked as it stands. -/
set_option Elab.async false

/-! ## A bar confirmed by its inputs (R125) -/

/-- The state with a bar's inputs, the bars and what the Monitor has been handed of them (R131). -/
def State.withBars (s : State) (p : Pins) (u : Bars) (m : Monitor) : State :=
  { s with pins := p, bars := u, monitor := m }

/-- The record of a bar confirmed at its target. -/
def BarRec.confirmedAt (r : BarRec) (down : Bool) : BarRec :=
  { r with state := targetState down, timer := .idle, timedOut := false }

theorem BarSet.mem_put (t : BarSet) (b : Bar) (v : Bool) : (t.put b v).mem b = v := by cases b <;> rfl

theorem setBar_withBars (b : Bar) (r : BarRec) (s : State) :
    ∃ m, setBar b r s = s.withBars s.pins (s.bars.put b r) m := by
  obtain ⟨u, m, e⟩ := setBar_bars b r s
  have bars := setBar_put b r s
  rw [e] at bars ⊢
  dsimp only at bars
  rw [bars]
  exact ⟨m, rfl⟩

section
variable {s : State} {b : Bar} {up dn down : Bool} (running : s.resetAsserted = false)
include running

/-- A released bar follows its inputs (R123). -/
theorem exec_barInputChange_released (released : (s.bars.get b).released = true) (up dn : Bool) :
    ∃ m, exec (.barInputChange b up dn) s = .next (transmit (s.withBars (s.pins.withBar b up dn)
      (s.bars.put b { s.bars.get b with state := judgedState up dn }) m)) := by
  have follows : barInputs b (s.withInputs b up dn) =
      setBar b { s.bars.get b with state := judgedState up dn } (s.withInputs b up dn) := by
    refine (if_pos released).trans ?_
    simp only [State.withInputs, setPins_bars, setPins_pins, Pins.withBar, BarSet.mem_put]
  obtain ⟨m, e⟩ := setBar_withBars b { s.bars.get b with state := judgedState up dn } (s.withInputs b up dn)
  exact ⟨m, by rw [exec_barInputChange running, follows, e]; rfl⟩

/-- A bar that stands does not act on its inputs (R125). -/
theorem exec_barInputChange_standing (held : (s.bars.get b).released = false)
    (stands : (s.bars.get b).state = .up ∨ (s.bars.get b).state = .down) (unfinished : s.changeDone = false)
    (up dn : Bool) : exec (.barInputChange b up dn) s = .next (transmit (s.withInputs b up dn)) := by
  rw [exec_barInputChange running, barInputs_held (s := s.withInputs b up dn) held,
    confirmBar_standing (s := s.withInputs b up dn) stands, settleChange_undone (y := s.withInputs b up dn) unfinished]

variable (held : (s.bars.get b).released = false) (moving : (s.bars.get b).state = movingState down)
  (valve : (s.bars.get b).targetValve down = true) (shown : confirmed down up dn = true)
include held moving valve shown

/-- The target input alone confirms a moving bar, and the change in hand is looked at. -/
theorem exec_barInputChange_confirms : ∃ m, exec (.barInputChange b up dn) s = .next (transmit (settleChange
    (s.withBars (s.pins.withBar b up dn) (s.bars.put b ((s.bars.get b).confirmedAt down)) m))) := by
  have confirms : confirmBar b (s.withInputs b up dn) =
      setBar b ((s.bars.get b).confirmedAt down) (s.withInputs b up dn) := by
    refine (confirmBar_moving (s := s.withInputs b up dn) moving valve).trans (if_pos ?_)
    simp only [State.withInputs, setPins_pins, Pins.withBar, BarSet.mem_put]
    exact shown
  obtain ⟨m, e⟩ := setBar_withBars b ((s.bars.get b).confirmedAt down) (s.withInputs b up dn)
  exact ⟨m, by rw [exec_barInputChange running, barInputs_held (s := s.withInputs b up dn) held, confirms, e]; rfl⟩

/-- The last bar of a change ends it (R127 to R129). -/
theorem exec_barInputChange_ends {kind : ChangeKind} {target : BarSet}
    (change : s.bars.change = some ⟨kind, target, false⟩) (aim : target.mem b = down)
    (others : ∀ c, c ≠ b → (s.bars.get c).heldAt (target.mem c) = true) :
    ∃ m, exec (.barInputChange b up dn) s = .next (transmit (kind.handOn (s.withBars (s.pins.withBar b up dn)
      { s.bars.put b ((s.bars.get b).confirmedAt down) with change := none } m))) := by
  obtain ⟨m, e⟩ := exec_barInputChange_confirms running held moving valve shown
  have complete : ∀ c, ((s.bars.put b ((s.bars.get b).confirmedAt down)).get c).heldAt (target.mem c) = true := fun c => by
    rw [Bars.get_put]
    split
    · rename_i same
      rw [same, aim]
      exact heldAt_of_arrived rfl valve
    · rename_i other
      exact others c other
  have done := settleChange_done (kind := kind) (target := target)
    (y := s.withBars (s.pins.withBar b up dn) (s.bars.put b ((s.bars.get b).confirmedAt down)) m)
    (by rw [← change]; exact Bars.put_change ..) fun c _ => complete c
  exact ⟨m, e.trans (congrArg (fun t => Host.Outcome.next (transmit t)) done)⟩

end

/-! ## The Fault Record through a latching (R157) -/

theorem setMode_faults (m : Mode) (p : Option StopPurpose) (k : Option StopKind) (why : Reason) (s : State) :
    (setMode m p k why s).line.faults = s.line.faults := by rw [setMode_line, Line.inMode_faults]

theorem enterFaulted_faults (why : Reason) (s : State) : (enterFaulted why s).line.faults = s.line.faults := by
  rw [enterFaulted_line]; rfl

theorem stitchStop_faults (why : Reason) (s : State) : (stitchStop why s).line.faults = s.line.faults := by
  have parked : (parkOrder s).1.line = s.line := (parkOrder_gov s).line_eq
  unfold stitchStop
  split
  · rfl
  split
  · rfl
  split
  · exact reachStop_faults ..
  dsimp only
  split
  · rw [reachStop_faults, parked]
  · rw [parked]

theorem stopNow_faults (why : Reason) (s : State) : (stopNow why s).line.faults = s.line.faults := by
  unfold stopNow
  dsimp only
  split
  · exact reachStop_faults ..
  · rfl

theorem faultStop_faults (k : StopKind) (s : State) : (faultStop k s).line.faults = s.line.faults := by
  unfold faultStop
  dsimp only
  split
  · rw [stopNow_faults, setMode_faults]
  · rw [stitchStop_faults, setMode_faults]

theorem faultAction_faults (act : FaultAction) (s : State) : (faultAction act s).line.faults = s.line.faults := by
  unfold faultAction
  split
  · rfl
  dsimp only
  have stopped : (if act.stopKind = .atOnce then stopAtOnce (freeze s) else s).line = s.line := by split <;> rfl
  rw [← stopped]
  generalize (if act.stopKind = .atOnce then stopAtOnce (freeze s) else s) = t
  split
  case h_7 =>
    split
    · split
      · exact faultStop_faults ..
      · rfl
    · exact faultStop_faults ..
    · exact faultStop_faults ..
  case h_4 => rfl
  case h_5 | h_6 => exact faultStop_faults ..
  all_goals exact enterFaulted_faults ..

/-- A source handed over is latched, whatever its action. -/
theorem latch_latched (src : FaultSource) (ref : Option Ref) (s : State) :
    (latch src ref s).line.faults.has src = true := by
  unfold latch
  split
  · assumption
  · dsimp only
    rw [faultAction_faults]
    split <;> exact FaultRecord.has_add s.line.faults src _ _

/-! ## A bar_timeout runs out (R126) -/

/-- Only a forced move of the bar itself ends with it (R129). -/
theorem endForce_bars (b : Bar) (s : State) : (endForce b s).bars = { s.bars with
    change := if s.bars.change.map (fun c => c.kind) = some (.force b) then none else s.bars.change } := by
  unfold endForce
  split
  · rename_i c change
    simp only [change, Option.map_some, Option.some.injEq]
    split
    · rfl
    · rw [← change]
  · rename_i change
    simp only [change, Option.map_none, reduceCtorEq, if_false]
    rw [← change]

theorem barTimesOut_bars {s : State} {b : Bar} {ms : Nat} (runs : (s.bars.get b).timer = .confirm ms) :
    (barTimesOut b s).line.faults.has .barTimeout = true
      ∧ (barTimesOut b s).bars = { s.bars.put b { s.bars.get b with timedOut := true, timer := .idle } with
          change := if s.bars.change.map (fun c => c.kind) = some (.force b) then none else s.bars.change } := by
  have confirm : (s.bars.get b).timer.isConfirm = true := by rw [runs]; rfl
  have latches : barTimesOut b s = latch .barTimeout none
      (endForce b (setBar b { s.bars.get b with timedOut := true, timer := .idle } s)) := if_pos confirm
  rw [latches]
  refine ⟨latch_latched .., (latch_stop ..).beside.bars.trans ?_⟩
  rw [endForce_bars, setBar_put, Bars.put_change]

/-! ## What the change's end makes of the line -/

section
variable {s : State} {p : Pins} {u : Bars} {m : Monitor} (idle : u.change = none)
include idle

/-- A record change's end: the record off the queue, and off FEEDING and STOPPING nothing else (R127). -/
theorem recordEnds_frame : let t := lineRecordDone (removeHead (s.withBars p u m))
    t.pins = p ∧ t.store = s.store ∧ t.planner = (removeHead s).planner ∧ s.planner.queue.tail <+: t.planner.queue
      ∧ (s.line.effective ≠ .feeding → s.line.effective ≠ .stopping → t.bars = u ∧ t.line = s.line) := by
  intro t
  obtain ⟨planner, store, setting⟩ := recordEnds_beside (x := s.withBars p u m) idle
  have queue : t.planner = (removeHead s).planner := planner.trans (removeHead_planner_congr rfl rfl rfl rfl)
  refine ⟨congrArg Setting.pins setting, store, queue, by rw [queue]; exact removeHead_tail s, fun away off => ?_⟩
  obtain ⟨g, e⟩ := removeHead_eq (s.withBars p u m)
  have rests : t = removeHead (s.withBars p u m) :=
    lineRecordDone_elsewhere (by rw [e]; exact off) (by rw [e]; exact away)
  rw [rests, e]
  exact ⟨rfl, rfl⟩

/-- A restore's end writes no record, and off FEEDING nothing of the line (R128). -/
theorem restoreEnds_frame : let t := restoreDone (s.withBars p u m)
    t.pins = p ∧ t.store = s.store ∧ t.planner = s.planner
      ∧ (s.line.effective ≠ .feeding ∨ s.line.resumeStep = .none ∨ s.line.resumeStep = .backMove →
        t.bars = u ∧ t.line = s.line) := by
  intro t
  obtain ⟨planner, store, setting⟩ := restoreDone_beside (x := s.withBars p u m) (recordChangeInHand_none idle)
  refine ⟨congrArg Setting.pins setting, store, planner, fun rests => ?_⟩
  have stands : t = s.withBars p u m := by
    by_cases feeding : s.line.effective = .feeding
    · exact restoreDone_other (x := s.withBars p u m) feeding (rests.resolve_left (not_not.2 feeding))
    · exact restoreDone_elsewhere feeding
  rw [stands]
  exact ⟨rfl, rfl⟩

variable (feeding : s.line.effective = .feeding)
include feeding

/-- In FEEDING the record's end is followed by the head that comes next (R149). -/
theorem recordEnds_clauses (step : s.line.resumeStep = .none) :
    let t := transmit (lineRecordDone (removeHead (s.withBars p u m)))
    (t.planner.headStitch = none → t.bars = u ∧ t.line = s.line ∧ t.motion = s.motion)
    ∧ ∀ (st : Stitch) (last : Bool), t.planner.headStitch = some (st, last) →
      ((∀ b, (u.get b).heldAt (st.bars.mem b) = true) → RunsAfter s u .stitching [] .none t)
      ∧ ((¬ ∀ b, (u.get b).heldAt (st.bars.mem b) = true) → 1 ≤ s.params.deadTime →
        t.line = { s.line with resumeStep := .restore }
          ∧ t.bars.change = some ⟨.restore, st.bars, !s.shaft.stopped⟩ ∧ t.motion = s.motion) := by
  intro t
  obtain ⟨planner, -, -⟩ := recordEnds_beside (x := s.withBars p u m) idle
  have queue : t.planner = (removeHead (s.withBars p u m)).planner := planner
  have ended : { u with change := none } = u := by rw [← idle]
  rw [queue]
  refine ⟨recordEnds_bare (x := s.withBars p u m) idle feeding step, fun st last head => ⟨fun held => ?_,
    fun away lasts => recordEnds_asks (x := s.withBars p u m) feeding step head lasts away⟩⟩
  obtain ⟨mode, permission, bars, gov, none⟩ := recordEnds_held (x := s.withBars p u m) feeding step head held
  exact ⟨mode, permission, bars.trans ended, gov, none⟩

/-- In FEEDING the restore's end lets the sequence go on from its step (R128, R148). -/
theorem restoreEnds_clauses : let t := transmit (restoreDone (s.withBars p u m))
    (∀ v : Burst, s.line.resumeStep = .frozen → s.motion.burst = some v →
      (v.source = .head → RunsAfter s u .stitching [] .frozen t)
      ∧ (v.source = .replay → RunsAfter s u .replay s.replayCeilings .frozen t ∧ t.monitor.suppress = s.params.grace))
    ∧ (s.line.resumeStep = .replay →
      RunsAfter s u .replay s.replayCeilings .replay t ∧ t.monitor.suppress = s.params.grace)
    ∧ (s.line.resumeStep = .restore →
      (s.planner.headStitch ≠ none → RunsAfter s u .stitching [] .none t)
      ∧ (s.planner.headStitch = none → t.bars = u ∧ t.line = { s.line with resumeStep := .none })) := by
  intro t
  have unchanged : (s.withBars p u m).recordChangeInHand = false := recordChangeInHand_none idle
  have again : StartsRunning .replay s.replayCeilings (replayBegin (s.withBars p u m)) (restoreDone (s.withBars p u m)) →
      RunsAfter s u .replay s.replayCeilings s.line.resumeStep t ∧ t.monitor.suppress = s.params.grace := fun starts => by
    refine ⟨starts.runsAfter, ?_⟩
    rw [transmit_monitor, starts.beside.monitor]
    rfl
  refine ⟨fun v step burst => ?_, fun step => ?_, fun step => ⟨fun head => ?_, fun bare => ?_⟩⟩
  · obtain ⟨head, replay⟩ := restoreDone_frozen_starts (x := s.withBars p u m) feeding step burst
    rw [← step]
    exact ⟨fun source => (head source).runsAfter, fun source => again (replay source)⟩
  · rw [← step]
    exact again (restoreDone_replay_starts (x := s.withBars p u m) feeding step)
  · obtain ⟨st, head⟩ := Option.ne_none_iff_exists'.1 head
    exact (restoreDone_restore_starts (x := s.withBars p u m) feeding step unchanged head).runsAfter
  · have stands := restoreDone_restore_bare (x := s.withBars p u m) feeding step unchanged bare
    rw [transmit_bars, transmit_line, stands]
    exact ⟨rfl, rfl⟩

end

/-- Settles O52: the inputs by the bar's state, a confirmed bar by the change it completes and what that hands on to the
line, and the bar_timeout. -/
theorem barsConfirmOrTimeOut : Obligations.BarsConfirmOrTimeOut := by
  intro b up dn s running r pins
  refine ⟨fun down held moving valve shown => ⟨fun idle => ?_, ?_⟩, fun released => ?_, fun held stands unfinished =>
    exec_barInputChange_standing running held stands unfinished up dn, fun ms runs _ => ?_⟩
  · obtain ⟨m, e⟩ := exec_barInputChange_confirms running held moving valve shown
    rw [settleChange_undone (changeDone_none ((Bars.put_change ..).trans idle))] at e
    exact ⟨_, e, rfl, rfl, rfl, rfl⟩
  · intro kind target change aim others ended held' feeding runs
    obtain ⟨m, e⟩ := exec_barInputChange_ends running held moving valve shown change aim others
    cases kind with
    | force f => exact ⟨_, e, rfl, rfl, fun _ => ⟨rfl, rfl, rfl, rfl⟩, nofun, nofun⟩
    | record =>
      obtain ⟨levels, store, planner, tail, rests⟩ := recordEnds_frame (s := s) (p := pins) (u := ended) (m := m) rfl
      refine ⟨_, e, levels, store, nofun, fun _ => ⟨planner, tail, rests, fun feeds step _ => ?_⟩, nofun⟩
      obtain ⟨bare, stitch⟩ := recordEnds_clauses (s := s) (p := pins) (u := ended) (m := m) rfl feeds step
      refine ⟨bare, fun st last head => ?_⟩
      obtain ⟨stands, asks⟩ := stitch st last head
      exact ⟨fun set => (stands set).clauses, asks⟩
    | restore =>
      obtain ⟨levels, store, planner, rests⟩ := restoreEnds_frame (s := s) (p := pins) (u := ended) (m := m) rfl
      have clauses := fun feeds => restoreEnds_clauses (s := s) (p := pins) (u := ended) (m := m) rfl feeds
      refine ⟨_, e, levels, store, nofun, nofun, fun _ => ⟨planner, rests, fun feeds v step burst => ?_,
        fun feeds step => ?_, fun feeds step => ?_⟩⟩ <;> obtain ⟨frozen, replay, restore⟩ := clauses feeds
      · obtain ⟨head, again⟩ := frozen v step burst
        refine ⟨fun source => (head source).clauses, fun source => ?_⟩
        obtain ⟨after, suppress⟩ := again source
        exact ⟨after.clauses.1, after.clauses.2, suppress⟩
      · obtain ⟨after, suppress⟩ := replay step
        exact ⟨after.clauses.1, after.clauses.2, suppress⟩
      · obtain ⟨stitch, bare⟩ := restore step
        exact ⟨fun head => (stitch head).clauses, bare⟩
  · obtain ⟨m, e⟩ := exec_barInputChange_released running released up dn
    exact ⟨_, e, rfl, rfl⟩
  · exact ⟨_, exec_barTimeout running b, barTimesOut_bars runs⟩

end Sys2Proof.Machine
end
